-- ==== Sys2Proof/Word.lean ====
section
/-! DEFINITION. The words and the numbers of the ZC2448: bytes and wider fields of the two links, the two
clocks, and the numbering of crossings, stations, corners, link groups, messages and records
(00_scope.md, Conventions; R35). -/

namespace Sys2Proof

/-- One byte of a frame or of a transmission. -/
abbrev Byte := BitVec 8

/-- A two-byte field of a request (R192). -/
abbrev Word16 := BitVec 16

/-- A station tick or stamp: a 16-bit millisecond count of the station's own clock (R18, R19). -/
abbrev Tick := BitVec 16

/-- Street time: 100 ms periods, 32 bits (R16). -/
abbrev StreetTime := BitVec 32

/-- A crossing, 0..23. -/
abbrev Crossing := Fin 24

/-- A push-button station, 0..47. -/
abbrev Station := Fin 48

/-- A corner, 0..31. -/
abbrev Corner := Fin 32

/-- A link group, 0..7. -/
abbrev LinkGroup := Fin 8

/-- A speech message, 0..15. -/
abbrev Message := Fin 16

/-- One of the 32 places of the Call Table (R35). -/
abbrev RecordSlot := Fin 32

end Sys2Proof
end

