-- ==== Sys2Proof/Config.lean ====
section
/-! DEFINITION. The constants the spec fixes for the part, each with its rule. The spec leaves no value of the
part undefined after a step, so there is no free value here. -/

namespace Sys2Proof.Config

/-- Part code and revision of IDENTIFY (R193). -/
def partCode : Nat := 2448
def revision : Nat := 1

/-- Part tables' codes for "none" and "all" (R191). -/
def emptyNumber : Nat := 255
def emptyPlace : Nat := 63

/-- Assignment limits (R9). -/
def stationsPerCrossing : Nat := 4
def stationsPerCorner : Nat := 6

/-- Saturation of press counts (R35, R51), of held time and of release age (R18, R22). -/
def countMax : Nat := 255
def heldMax : Nat := 300000
def releaseAgeMax : Nat := 32768

/-- Places of a requesting set (R35, R51). -/
def stationSetMax : Nat := 4

/-- Largest back-difference that passes the stamp check (R20). -/
def stampBackMax : Nat := 32767

/-- Saturation of a reported age in s (R16), and of the time since walk start in s (R62). -/
def ageMax : Nat := 65535
def sinceWalkMax : Nat := 255

/-- Bounds of a grant window in s (R66); cap of a clearance in tenths (R83). -/
def windowMin : Nat := 1
def windowMax : Nat := 30
def clearanceCap : Nat := 600

/-- Longest software hold in s (R113). -/
def softwareHoldMax : Nat := 3600

/-- Flash window, flash loss time and undecodable limit in ms (R86, R87, R91). -/
def flashMin : Nat := 200
def flashMax : Nat := 1200
def flashLoss : Nat := 1500
def undecodableLimit : Nat := 3000

/-- Speech play limit in ms (R135); places of a corner queue (R130). -/
def playLimit : Nat := 20000
def queueMax : Nat := 4

/-- Filtered ambient at a join, sample clamp, slew limit (R146, R152, R153). -/
def joinAmbient : Nat := 960
def sampleMin : Nat := 30
def sampleMax : Nat := 110
def slewLimit : Nat := 3

/-- Miss limit (R165); slot length in ms (R159); most messages a station offers (R195); frame bounds (R15). -/
def missLimit : Nat := 4
def slotTime : Nat := 2
def messagesMax : Nat := 16
def frameMin : Nat := 1
def frameMax : Nat := 48

/-- Milliseconds of one period of street time (R16). -/
def streetPeriod : Nat := 100

end Sys2Proof.Config
end

