-- ==== Sys2Proof/Syntax.lean ====
section
/-! DEFINITION. The commands of the ZC2448: one constructor for each row of spec/opcode_table.json. The operands
of a request are its fields as they stand on the wire (R192); the operands of the part's own events name
the crossing, station, corner or line concerned. -/

namespace Sys2Proof

/-- The 13-byte crossing profile as a request carries it (R192). -/
structure CrossingFields where
  enabled : Byte
  length : Word16
  standardSpeed : Byte
  extendedSpeed : Byte
  linkGroup : Byte
  propagate : Byte
  recallPermitted : Byte
  darkPermitted : Byte
  respondsA : Byte
  respondsB : Byte
  settle : Word16
  deriving DecidableEq, Repr

/-- The 21-byte station profile as a request carries it (R192). -/
structure StationFields where
  enabled : Byte
  crossing : Byte
  corner : Byte
  walkCue : Byte
  walkMessage : Byte
  infoMessage : Byte
  wanted : Byte
  indicator : Byte
  invert : Byte
  blink : Byte
  noiseCode : Byte
  longThreshold : Word16
  stuckLimit : Byte
  doubleWindow : Word16
  margin : Byte
  minLevel : Byte
  maxLevel : Byte
  nightCap : Byte
  walkBoost : Byte
  deriving DecidableEq, Repr

/-- The 7-byte corner profile as a request carries it (R192). -/
structure CornerFields where
  period : Word16
  offset : Word16
  gap : Word16
  nightLocator : Byte
  deriving DecidableEq, Repr

/-- What a station offers in its capability part (R170, R195). -/
structure Offer where
  speaker : Bool
  tactile : Bool
  microphone : Bool
  messages : Nat
  deriving DecidableEq, Repr

/-- A received report, read out of its 12 bytes (R19, R143, R172, R195). -/
structure Report where
  tick : Tick
  down : Bool
  press : Option Tick
  release : Option Tick
  sample : Option Byte
  quiet : Bool
  messageDone : Bool
  speakerFault : Bool
  tactileFault : Bool
  offer : Option Offer
  deriving DecidableEq, Repr

/-- How a request frame fails the checks of R177. -/
inductive FrameFault where
  | unknown
  | length
  deriving DecidableEq, Repr

/-- The two lamp-sense lines of a crossing (R85). -/
inductive LampLine where
  | walk
  | dontWalk
  deriving DecidableEq, Repr

/-- The two steadiness marks at which a qualifying aspect can change (R87). -/
inductive SteadyMark where
  | settle
  | flashLoss
  deriving DecidableEq, Repr

/-- The two hold lines (R103). -/
inductive HoldLine where
  | a
  | b
  deriving DecidableEq, Repr

/-- The level of a hold line (R103). -/
inductive Level where
  | low
  | high
  deriving DecidableEq, Repr

/-- The commands: the rows of spec/opcode_table.json. -/
inductive Instr where
  /-- PART_RESET (R1): power-on or the reset input. -/
  | partReset
  /-- STREET_TIME_TICK (R16). -/
  | streetTimeTick
  /-- REQUEST_FRAME_REFUSED (R177): the whole bytes taken in by the select that is released. -/
  | requestFrameRefused (frame : List Byte)
  /-- NO_REQUEST (R180). -/
  | noRequest
  /-- IDENTIFY (R180). -/
  | identify
  /-- READ_SUMMARY (R181). -/
  | readSummary
  /-- READ_CALLS (R182): scope 255 is all records. -/
  | readCalls (scope : Byte)
  /-- READ_CROSSING (R183). -/
  | readCrossing (crossing : Byte)
  /-- READ_STATION (R184). -/
  | readStation (station : Byte)
  /-- READ_CORNER (R185). -/
  | readCorner (corner : Byte)
  /-- GRANT (R66): crossing and window in s. -/
  | grant (crossing window : Byte)
  /-- CANCEL (R60, R61): target code 0 WAITING, 1 SERVING. -/
  | cancel (crossing target : Byte)
  /-- CLEAR_FAULT (R98). -/
  | clearFault (crossing : Byte)
  /-- SET_HOLD (R113): member n of the set is bit n; time in s. -/
  | setHold (crossings : BitVec 32) (seconds : Word16)
  /-- RELEASE_LINE_HOLD (R109): line code 0 A, 1 B. -/
  | releaseLineHold (line : Byte)
  /-- SET_STREET_MODE (R14): mode code 0 DAY, 1 NIGHT. -/
  | setStreetMode (mode : Byte)
  /-- WRITE_CROSSING (R2). -/
  | writeCrossing (crossing : Byte) (fields : CrossingFields)
  /-- WRITE_STATION (R2). -/
  | writeStation (station : Byte) (fields : StationFields)
  /-- WRITE_CORNER (R2). -/
  | writeCorner (corner : Byte) (fields : CornerFields)
  /-- WRITE_STREET (R14): active level and release mode of lines A and B, then the frame length. -/
  | writeStreet (levelA modeA levelB modeB frameLength : Byte)
  /-- RESTART_STATION_BUS (R174). -/
  | restartStationBus
  /-- RESET (R189). -/
  | reset
  /-- FRAME_START (R160). -/
  | frameStart
  /-- STATION_TRANSFER (R11): the transfer test of one station at a frame start. -/
  | stationTransfer (station : Station)
  /-- STATION_SLOT (R162): the start of the slot of this station. -/
  | stationSlot (station : Station)
  /-- STATION_REPORT (R163): the bytes received in the slot in progress. -/
  | stationReport (bytes : List Byte)
  /-- MISSED_SLOT (R165): the slot in progress ends. -/
  | missedSlot
  /-- LAMP_LINE_CHANGE (R86): the levels of W and D after the change (on is true). -/
  | lampLineChange (crossing : Crossing) (w d : Bool)
  /-- STEADY_TIME_REACHED (R87): the steady time of this line reaches this mark. -/
  | steadyTimeReached (crossing : Crossing) (line : LampLine) (mark : SteadyMark)
  /-- UNDECODABLE_LIMIT (R91). -/
  | undecodableLimit (crossing : Crossing)
  /-- MEMO_ALLOCATION (R54). -/
  | memoAllocation
  /-- CROSSING_TRANSFER (R6). -/
  | crossingTransfer (crossing : Crossing)
  /-- GRANT_WINDOW_EXPIRY (R70). -/
  | grantWindowExpiry (crossing : Crossing)
  /-- HOLD_LINE_CHANGE (R104): the level now present on the line. -/
  | holdLineChange (line : HoldLine) (level : Level)
  /-- CYCLE_WAIT_COMPLETE (R108). -/
  | cycleWaitComplete (crossing : Crossing)
  /-- SOFTWARE_HOLD_EXPIRY (R114). -/
  | softwareHoldExpiry
  /-- PERIOD_START (R118). -/
  | periodStart (corner : Corner)
  /-- CORNER_TRANSFER (R13). -/
  | cornerTransfer (corner : Corner)
  /-- SAMPLE_POINT (R118, R144). -/
  | samplePoint (corner : Corner)
  /-- SPEECH_START (R134). -/
  | speechStart (corner : Corner)
  /-- PLAY_LIMIT (R135). -/
  | playLimit (corner : Corner)
  /-- GAP_END (R136). -/
  | gapEnd (corner : Corner)
  deriving DecidableEq, Repr

end Sys2Proof
end

