-- ==== Sys2Proof/Decode.lean ====
section
/-! DEFINITION. Reading bytes: a request frame of the control link (R177, R191, R192), a report of the station bus
(R195), and the host's question about table words. The opcode table gives no row any bits. -/

namespace Sys2Proof

/-- The command a table word spells. spec/opcode_table.json gives no row any bits, so no word spells one. -/
def decodeTableWord (_nbits _w : Nat) : Option Instr := none

/-- The field length of a request kind, or none where the kind names no request (R191). -/
def fieldLength (kind : Nat) : Option Nat :=
  match kind with
  | 0 => some 0
  | 1 => some 0
  | 2 => some 0
  | 3 => some 1
  | 4 => some 1
  | 5 => some 1
  | 6 => some 1
  | 7 => some 2
  | 8 => some 2
  | 9 => some 1
  | 10 => some 6
  | 11 => some 1
  | 12 => some 1
  | 13 => some 14
  | 14 => some 22
  | 15 => some 8
  | 16 => some 5
  | 17 => some 0
  | 18 => some 0
  | _ => none

/-- Two bytes as one field, most significant first (R191). -/
def word16 (hi lo : Byte) : Word16 := hi ++ lo

/-- The request of a kind with its field bytes, laid out as R192 states. -/
def decodeFields (kind : Nat) (fields : List Byte) : Option Instr :=
  match kind, fields with
  | 0, [] => some .noRequest
  | 1, [] => some .identify
  | 2, [] => some .readSummary
  | 3, [scope] => some (.readCalls scope)
  | 4, [n] => some (.readCrossing n)
  | 5, [n] => some (.readStation n)
  | 6, [n] => some (.readCorner n)
  | 7, [c, w] => some (.grant c w)
  | 8, [c, t] => some (.cancel c t)
  | 9, [c] => some (.clearFault c)
  | 10, [s3, s2, s1, s0, th, tl] => some (.setHold (s3 ++ s2 ++ s1 ++ s0) (word16 th tl))
  | 11, [l] => some (.releaseLineHold l)
  | 12, [m] => some (.setStreetMode m)
  | 13, [c, en, lh, ll, sv, ev, g, pr, re, da, ra, rb, sh, sl] =>
    some (.writeCrossing c
      { enabled := en, length := word16 lh ll, standardSpeed := sv, extendedSpeed := ev, linkGroup := g,
        propagate := pr, recallPermitted := re, darkPermitted := da, respondsA := ra, respondsB := rb,
        settle := word16 sh sl })
  | 14, [s, en, c, k, cue, wm, im, wf, src, inv, bl, nc, lh, ll, st, dh, dl, ma, mi, mx, nt, bo] =>
    some (.writeStation s
      { enabled := en, crossing := c, corner := k, walkCue := cue, walkMessage := wm, infoMessage := im,
        wanted := wf, indicator := src, invert := inv, blink := bl, noiseCode := nc,
        longThreshold := word16 lh ll, stuckLimit := st, doubleWindow := word16 dh dl, margin := ma,
        minLevel := mi, maxLevel := mx, nightCap := nt, walkBoost := bo })
  | 15, [k, ph, pl, oh, ol, gh, gl, nl] =>
    some (.writeCorner k
      { period := word16 ph pl, offset := word16 oh ol, gap := word16 gh gl, nightLocator := nl })
  | 16, [la, ma, lb, mb, n] => some (.writeStreet la ma lb mb n)
  | 17, [] => some .restartStationBus
  | 18, [] => some .reset
  | _, _ => none

/-- The bytes taken in by a select, read as a request frame and checked in the order of R177. Bytes beyond the
frame are ignored. -/
def decodeFrame (bytes : List Byte) : Except FrameFault Instr :=
  match bytes with
  | kind :: len :: rest =>
    match fieldLength kind.toNat with
    | none => .error .unknown
    | some n =>
      if len.toNat ≠ n then .error .length
      else if rest.length < n then .error .length
      else
        match decodeFields kind.toNat (rest.take n) with
        | some i => .ok i
        | none => .error .length
  | _ => .error .length

/-- The sum of the bytes of a transmission, modulo 256 (R162, R163). -/
def byteSum (bytes : List Byte) : Byte := bytes.foldl (· + ·) 0

/-- The 12 bytes of a report, read as R195 lays them out; none for any other number of bytes. -/
def parseReport (bytes : List Byte) : Option Report :=
  match bytes with
  | [t1, t0, flags, health, p1, p0, r1, r0, sample, cap, count, _check] =>
    some
      { tick := word16 t1 t0
        down := flags.getLsbD 7
        press := if flags.getLsbD 6 then some (word16 p1 p0) else none
        release := if flags.getLsbD 5 then some (word16 r1 r0) else none
        sample := if flags.getLsbD 4 then some sample else none
        quiet := flags.getLsbD 3
        messageDone := flags.getLsbD 2
        speakerFault := health.getLsbD 7
        tactileFault := health.getLsbD 6
        offer :=
          if cap.getLsbD 7 then
            some
              { speaker := cap.getLsbD 6
                tactile := cap.getLsbD 5
                microphone := cap.getLsbD 4
                messages := min count.toNat Config.messagesMax }
          else none }
  | _ => none

/-- How far back from the report's tick a stamp lies (R20). -/
def backOf (tick stamp : Tick) : Nat := (tick - stamp).toNat

/-- A stamp present in a report passes the stamp check of R20; an absent one is not checked. -/
def stampPasses (tick : Tick) (stamp : Option Tick) : Bool :=
  match stamp with
  | some t => decide (backOf tick t ≤ Config.stampBackMax)
  | none => true

/-- The two checks of R163, in order: the sum of the 12 bytes, then the stamps. A report that passes is valid. -/
def validReport (bytes : List Byte) : Option Report :=
  if byteSum bytes = 0 then
    match parseReport bytes with
    | some r => if stampPasses r.tick r.press && stampPasses r.tick r.release then some r else none
    | none => none
  else none

end Sys2Proof
end

