-- ==== Sys2Proof/Machine/State.lean ====
section
/-! DEFINITION. The state of the ZC2448 as plain data, block by block (00_scope.md, Block overview), and the machine right
after a part reset. Fields the model adds are marked MODEL'S OWN with their log entry. -/

namespace Sys2Proof.Machine

/-! ## Profiles and street settings (01) -/

/-- Walk cue kind of a profile and resolved walk cue (R8, R170). -/
inductive WalkCue where
  | tone
  | speech
  deriving DecidableEq, Repr

/-- Indicator source (R8, R128). -/
inductive IndicatorSource where
  | off
  | on
  | callWaiting
  | serving
  | walk
  | callOrWalk
  | stationFault
  deriving DecidableEq, Repr

/-- Release mode of a hold line (R14). -/
inductive ReleaseMode where
  | level
  | cycle
  | latch
  deriving DecidableEq, Repr

/-- Street mode (R14). -/
inductive StreetMode where
  | day
  | night
  deriving DecidableEq, Repr

/-- Crossing profile (R4). -/
structure CrossingProfile where
  enabled : Bool
  length : Nat
  standardSpeed : Nat
  extendedSpeed : Nat
  linkGroup : Option LinkGroup
  propagate : Bool
  recallPermitted : Bool
  darkPermitted : Bool
  respondsA : Bool
  respondsB : Bool
  settle : Nat
  deriving DecidableEq, Repr

/-- Station profile (R8). -/
structure StationProfile where
  enabled : Bool
  crossing : Crossing
  corner : Corner
  walkCue : WalkCue
  walkMessage : Message
  infoMessage : Option Message
  wantSpeaker : Bool
  wantTactile : Bool
  wantMicrophone : Bool
  wantSpeech : Bool
  indicator : IndicatorSource
  invert : Bool
  blink : Bool
  noiseCode : Nat
  longThreshold : Nat
  stuckLimit : Nat
  doubleWindow : Nat
  margin : Nat
  minLevel : Nat
  maxLevel : Nat
  nightCap : Nat
  walkBoost : Nat
  deriving DecidableEq, Repr

/-- Corner profile (R12). -/
structure CornerProfile where
  period : Nat
  offset : Nat
  gap : Nat
  nightLocator : Bool
  deriving DecidableEq, Repr

/-- One active copy and at most one pending copy (R1). -/
structure Copies (α : Type) where
  active : α
  pending : Option α
  deriving DecidableEq, Repr

/-- Settings of one hold line (R14). -/
structure LineSettings where
  activeLevel : Level
  releaseMode : ReleaseMode
  deriving DecidableEq, Repr

/-- Profile Store: the three tables, the street settings and street time (R1, R14 to R16). -/
structure ProfileStore where
  crossings : Vector (Copies CrossingProfile) 24
  stations : Vector (Copies StationProfile) 48
  corners : Vector (Copies CornerProfile) 32
  mode : StreetMode
  lineA : LineSettings
  lineB : LineSettings
  /-- The held next frame length (R15). -/
  nextFrameLength : Option Nat
  streetTime : StreetTime
  deriving DecidableEq, Repr

/-! ## Station bus (09) -/

/-- Link state (R158). -/
inductive LinkState where
  | disabled
  | absent
  | active
  | silent
  deriving DecidableEq, Repr

/-- What a station is used for (R158, R170). -/
structure Features where
  speaker : Bool
  tactile : Bool
  microphone : Bool
  speech : Bool
  walkCue : WalkCue
  cueDegraded : Bool
  infoUsable : Bool
  deriving DecidableEq, Repr

/-- Station Bus Controller state of one station (R158). -/
structure StationLink where
  state : LinkState
  beyond : Bool
  misses : Nat
  offered : Option Offer
  features : Features
  speakerFault : Bool
  tactileFault : Bool
  lastTick : Option Tick
  silentNotice : Bool
  joinedNotice : Bool
  deriving DecidableEq, Repr

/-- The station slot in progress (R162, R163). MODEL'S OWN (log 10): the link state when the slot began, the playback
whose speech the command carried (R135), and whether its report has been dealt with. -/
structure Slot where
  station : Station
  linkAtStart : LinkState
  playback : Option Nat
  settled : Bool
  deriving DecidableEq, Repr

/-- Station Bus Controller (R158). MODEL'S OWN: `firstFrame` (log 21), `frameTime` (log 1), `slot` (log 10) and `sent`, the
bytes of the latest transmission (log 28). -/
structure BusController where
  frameNumber : Byte
  firstFrame : Bool
  frameLength : Nat
  frameTime : Nat
  slot : Option Slot
  sent : List Byte
  stations : Vector StationLink 48
  deriving DecidableEq, Repr

/-! ## Press Qualifier (02) -/

/-- Press phase (R18). -/
inductive PressPhase where
  | idle
  | down
  | held
  | long
  | stuck
  deriving DecidableEq, Repr

/-- The Call Table's answer to a registration (R18, R40). -/
inductive Registration where
  | taken
  | discarded
  deriving DecidableEq, Repr

/-- Ending of a capture entry (R18). -/
inductive CaptureEnding where
  | opened
  | held
  | long
  | stuck
  | abandoned
  deriving DecidableEq, Repr

/-- Capture entry (R18). -/
structure CaptureEntry where
  press : Tick
  release : Option Tick
  ending : CaptureEnding
  deriving DecidableEq, Repr

/-- Press Qualifier state of one station (R18). -/
structure PressState where
  phase : PressPhase
  stamp : Option Tick
  heldTime : Nat
  lastPoint : Tick
  outcome : Option Registration
  doublePending : Bool
  lastEntry : Option CaptureEntry
  previousEntry : Option CaptureEntry
  releaseAge : Nat
  buttonFault : Bool
  stuckNotice : Bool
  deriving DecidableEq, Repr

/-! ## Call Table (03) -/

/-- State of a call, with the optional parts of R35: the grant window remaining in ms (log 22), the walk start. -/
inductive CallState where
  | waiting
  | granted (remaining : Nat)
  | walking (start : StreetTime)
  | clearing (start : StreetTime)
  deriving DecidableEq, Repr

/-- Origin of a call (R35). -/
inductive Origin where
  | press
  | linked
  | recall
  deriving DecidableEq, Repr

/-- Kind of a call (R35). -/
inductive CallKind where
  | standard
  | extended
  deriving DecidableEq, Repr

/-- A record in use (R35). The requesting set is kept in ascending station number. -/
structure CallRecord where
  crossing : Crossing
  state : CallState
  origin : Origin
  kind : CallKind
  stations : List Station
  pressCount : Nat
  registeredAt : StreetTime
  clearance : Nat
  extension : Nat
  seen : Bool
  deriving DecidableEq, Repr

/-- A present demand memo (R51). -/
structure Memo where
  since : StreetTime
  origin : Origin
  kind : CallKind
  stations : List Station
  count : Nat
  deriving DecidableEq, Repr

/-- A station's upgrade target (R44). -/
inductive Target where
  | none
  | record (slot : RecordSlot)
  | memo (crossing : Crossing)
  deriving DecidableEq, Repr

/-- Call Table: the records, the memos and the upgrade targets (R35, R44, R51). -/
structure CallTable where
  records : Vector (Option CallRecord) 32
  memos : Vector (Option Memo) 24
  targets : Vector Target 48
  deriving DecidableEq, Repr

/-! ## Grant Controller (04) -/

/-- Unrecorded walk (R65). -/
inductive UnrecordedWalk where
  | none
  | walk
  | clearance
  deriving DecidableEq, Repr

/-- Grant Controller state of one crossing (R65). The window is the remaining time of the GRANTED record (log 22). -/
structure GrantState where
  unrecorded : UnrecordedWalk
  expired : Bool
  truncated : Bool
  unserved : Bool
  deriving DecidableEq, Repr

/-! ## Aspect Monitor (05) -/

/-- Observed aspect (R85). -/
inductive Aspect where
  | unknown
  | dontWalk
  | walk
  | clearance
  | dark
  | conflict
  deriving DecidableEq, Repr

/-- Fault kind (R96). -/
inductive FaultKind where
  | uncommandedWalk
  | outOfSequence
  | aspectConflict
  | lampsDark
  | undecodable
  deriving DecidableEq, Repr

/-- Flash run (R85). -/
inductive FlashRun where
  | zero
  | one
  | twoOrMore
  deriving DecidableEq, Repr

/-- A running undecodable measure: its time, and whether the limit has acted on this stretch (R91). -/
structure Undecodable where
  time : Nat
  acted : Bool
  deriving DecidableEq, Repr

/-- Aspect Monitor state of one crossing (R85). MODEL'S OWN: `dSeen`, a D transition has been seen since the part reset
(R86, log 11); `limitLapsed`, a CLEAR FAULT restarted the measure at the moment it had reached its limit (R98, log 30). -/
structure AspectState where
  w : Bool
  d : Bool
  wSteady : Nat
  dSteady : Nat
  dSeen : Bool
  run : FlashRun
  observed : Aspect
  undecodable : Option Undecodable
  fault : Option FaultKind
  further : Bool
  notice : Bool
  limitLapsed : Bool
  deriving DecidableEq, Repr

/-! ## Hold Unit (06) -/

/-- Hold flags and cycle waits of one crossing (R103). -/
structure HoldFlags where
  a : Bool
  b : Bool
  s : Bool
  waitA : Bool
  waitB : Bool
  deriving DecidableEq, Repr

/-- Hold Unit (R103): the sensed levels, the flags, the software timer in ms (log 22) and the software set. MODEL'S OWN:
`expiryLapsed`, a SET HOLD came before a run-out of the timer that had fallen due at the same moment (R114, log 30). -/
structure HoldUnit where
  levelA : Level
  levelB : Level
  flags : Vector HoldFlags 24
  timer : Option Nat
  softwareSet : List Crossing
  expiryLapsed : Bool
  deriving DecidableEq, Repr

/-! ## Cue Generator (07) -/

/-- Kind of a speech request (R130). -/
inductive SpeechKind where
  | walk
  | info
  deriving DecidableEq, Repr

/-- Sound in force (R122). -/
inductive Sound where
  | none
  | locator
  | waitAck
  | walkTone
  | speech (kind : SpeechKind)
  | silent
  deriving DecidableEq, Repr

/-- Indicator state (R129). -/
inductive Indicator where
  | off
  | on
  | blinkFast
  | blinkSlow
  deriving DecidableEq, Repr

/-- Last speech result (R140). -/
inductive SpeechResult where
  | none
  | played
  | timeout
  | cut
  | dropped
  deriving DecidableEq, Repr

/-- Locator phase of one corner (R117). -/
structure CornerPhase where
  elapsed : Nat
  period : Nat
  offset : Nat
  samplePassed : Bool
  openClean : Bool
  closedClean : Bool
  mark : Bool
  deriving DecidableEq, Repr

/-- Cue Generator state of one station (R122). -/
structure StationCue where
  sound : Sound
  armed : Bool
  covering : Bool
  result : SpeechResult
  tactile : Bool
  indicator : Indicator
  deriving DecidableEq, Repr

/-- A speech request (R130). -/
structure SpeechEntry where
  station : Station
  message : Message
  kind : SpeechKind
  deriving DecidableEq, Repr

/-- Speech channel of a corner (R130), times in ms. MODEL'S OWN: a playback's serial number (log 19). -/
inductive Channel where
  | idle
  | playing (entry : SpeechEntry) (since : Nat) (serial : Nat)
  | gap (remaining : Nat)
  deriving DecidableEq, Repr

/-- Speech channel and queue of one corner (R130). MODEL'S OWN: `limitLapsed`, a playback ended otherwise at the moment at which
its play limit had fallen due (R135, log 30). -/
structure CornerSpeech where
  channel : Channel
  queue : List SpeechEntry
  limitLapsed : Bool
  deriving DecidableEq, Repr

/-- Cue Generator (R117, R121, R122, R130). MODEL'S OWN: the serial number of the next playback (log 19). -/
structure CueGenerator where
  corners : Vector CornerPhase 32
  gates : Vector Bool 24
  stations : Vector StationCue 48
  speech : Vector CornerSpeech 32
  nextSerial : Nat
  deriving DecidableEq, Repr

/-! ## Level Tracker (08) -/

/-- Last sample outcome (R142). -/
inductive SampleOutcome where
  | none
  | admitted
  | noMicrophone
  | notQuiet
  | notClean
  deriving DecidableEq, Repr

/-- Level Tracker state of one station (R142). -/
structure LevelState where
  ambient : Nat
  output : Option Nat
  maximum : Nat
  minimum : Nat
  windowOpen : Bool
  lastSample : Option Nat
  outcome : SampleOutcome
  deriving DecidableEq, Repr

/-! ## Control link (10) -/

/-- Status of a response (R179). -/
inductive Status where
  | none
  | ok
  | adjusted
  | busy
  | state
  | full
  | fault
  | limit
  | range
  | unknown
  | length
  deriving DecidableEq, Repr

/-- A response: its status and its field bytes (R179). -/
structure Response where
  status : Status
  fields : List Byte
  deriving DecidableEq, Repr

/-! ## The whole part -/

/-- The state of the ZC2448: each block's state, the pending response (R176), and two fields that are the MODEL'S OWN:
the milliseconds into the running period of street time (log 1) and the queue of commands waiting (log 23). -/
structure State where
  store : ProfileStore
  bus : BusController
  press : Vector PressState 48
  table : CallTable
  grants : Vector GrantState 24
  aspects : Vector AspectState 24
  holds : HoldUnit
  cues : CueGenerator
  levels : Vector LevelState 48
  response : Response
  subTime : Nat
  pending : List Instr
  deriving DecidableEq, Repr

/-- The machine never stops with a fault: a crossing's fault is state (R95), a refused request is answered and has no effect
(R178), a missed report is a count (R165). So this type has no constructor. -/
inductive Fault where
  deriving DecidableEq, Repr

/-- Reasons a step has no meaning. -/
inductive Refusal where
  /-- Asked for by the host's interface: raised by an arm of `exec` whose command has no meaning yet. No arm does. Safe. -/
  | notModelled (mnemonic : String)
  deriving DecidableEq, Repr

/-! ## After a part reset -/

/-- Default crossing profile (R4). -/
def CrossingProfile.default : CrossingProfile :=
  { enabled := true, length := 120, standardSpeed := 120, extendedSpeed := 80, linkGroup := none,
    propagate := false, recallPermitted := false, darkPermitted := false, respondsA := true, respondsB := true,
    settle := 300 }

/-- Default profile of station s (R8): crossing s / 2, corner s mod 32, not enabled. -/
def StationProfile.default (s : Station) : StationProfile :=
  { enabled := false
    crossing := ⟨s.val / 2, by omega⟩
    corner := ⟨s.val % 32, by omega⟩
    walkCue := .tone, walkMessage := 0, infoMessage := none
    wantSpeaker := true, wantTactile := true, wantMicrophone := true, wantSpeech := true
    indicator := .callOrWalk, invert := false, blink := true
    noiseCode := 3, longThreshold := 1000, stuckLimit := 120, doubleWindow := 600
    margin := 8, minLevel := 55, maxLevel := 89, nightCap := 70, walkBoost := 3 }

/-- Default corner profile (R12). -/
def CornerProfile.default : CornerProfile := { period := 1000, offset := 500, gap := 300, nightLocator := true }

/-- Profile Store after a part reset (R1, R14 to R16). -/
def ProfileStore.reset : ProfileStore :=
  { crossings := Vector.replicate 24 { active := CrossingProfile.default, pending := none }
    stations := Vector.ofFn fun s => { active := StationProfile.default s, pending := none }
    corners := Vector.replicate 32 { active := CornerProfile.default, pending := none }
    mode := .day
    lineA := { activeLevel := .low, releaseMode := .level }
    lineB := { activeLevel := .low, releaseMode := .latch }
    nextFrameLength := none
    streetTime := 0 }

/-- No resolved feature (R158). -/
def Features.reset : Features :=
  { speaker := false, tactile := false, microphone := false, speech := false, walkCue := .tone,
    cueDegraded := false, infoUsable := false }

/-- Link of one station after a part reset (R158). -/
def StationLink.reset : StationLink :=
  { state := .disabled, beyond := false, misses := 0, offered := none, features := Features.reset,
    speakerFault := false, tactileFault := false, lastTick := none, silentNotice := false, joinedNotice := false }

/-- Station Bus Controller after a part reset (R158). The first frame starts next, numbered 0 (R160, log 21). -/
def BusController.reset : BusController :=
  { frameNumber := 0, firstFrame := true, frameLength := 48, frameTime := 0, slot := none, sent := [],
    stations := Vector.replicate 48 StationLink.reset }

/-- Press Qualifier of one station after a part reset (R18). DESIGN CHOICE: the last point is 0 (log 5). -/
def PressState.reset : PressState :=
  { phase := .idle, stamp := none, heldTime := 0, lastPoint := 0, outcome := none, doublePending := false,
    lastEntry := none, previousEntry := none, releaseAge := 32768, buttonFault := false, stuckNotice := false }

/-- Call Table after a part reset (R38). -/
def CallTable.reset : CallTable :=
  { records := Vector.replicate 32 none, memos := Vector.replicate 24 none, targets := Vector.replicate 48 .none }

/-- Grant Controller of one crossing after a part reset (R65). -/
def GrantState.reset : GrantState := { unrecorded := .none, expired := false, truncated := false, unserved := false }

/-- Aspect Monitor of one crossing after a part reset, with the levels sensed at the reset (R85). -/
def AspectState.reset (w d : Bool) : AspectState :=
  { w := w, d := d, wSteady := 0, dSteady := 0, dSeen := false, run := .zero, observed := .unknown,
    undecodable := some { time := 0, acted := false }, fault := none, further := false, notice := false,
    limitLapsed := false }

/-- No hold flag and no cycle wait (R103). -/
def HoldFlags.reset : HoldFlags := { a := false, b := false, s := false, waitA := false, waitB := false }

/-- Hold Unit after a part reset, with the levels sensed, before any activation is taken (R103). -/
def HoldUnit.reset (levelA levelB : Level) : HoldUnit :=
  { levelA := levelA, levelB := levelB, flags := Vector.replicate 24 HoldFlags.reset, timer := none,
    softwareSet := [], expiryLapsed := false }

/-- Locator phase of one corner after a part reset: a period has begun (R117). -/
def CornerPhase.reset : CornerPhase :=
  { elapsed := 0, period := 1000, offset := 500, samplePassed := false, openClean := true, closedClean := false,
    mark := true }

/-- Cues of one station after a part reset (R122). -/
def StationCue.reset : StationCue :=
  { sound := .none, armed := false, covering := false, result := .none, tactile := false, indicator := .off }

/-- Cue Generator after a part reset (R117, R121, R122, R130). -/
def CueGenerator.reset : CueGenerator :=
  { corners := Vector.replicate 32 CornerPhase.reset
    gates := Vector.replicate 24 false
    stations := Vector.replicate 48 StationCue.reset
    speech := Vector.replicate 32 { channel := .idle, queue := [], limitLapsed := false }
    nextSerial := 0 }

/-- Levels of one station after a part reset (R142): the range of the default profile by DAY. -/
def LevelState.reset : LevelState :=
  { ambient := 960, output := none, maximum := 89, minimum := 55, windowOpen := false, lastSample := none,
    outcome := .none }

/-- The machine right after a part reset. DESIGN CHOICE (log 4): the pins stand with every lamp line off and both hold
lines HIGH, which is inactive under the default settings, so no activation is taken at the reset. -/
def State.reset : State :=
  { store := ProfileStore.reset
    bus := BusController.reset
    press := Vector.replicate 48 PressState.reset
    table := CallTable.reset
    grants := Vector.replicate 24 GrantState.reset
    aspects := Vector.replicate 24 (AspectState.reset false false)
    holds := HoldUnit.reset .high .high
    cues := CueGenerator.reset
    levels := Vector.replicate 48 LevelState.reset
    response := { status := .none, fields := [] }
    subTime := 0
    pending := [] }

end Sys2Proof.Machine
end

