-- ==== Sys2Proof/Machine/Ops.lean ====
section
/-! DEFINITION. Named operations over the tables of the state and over its blocks: reading and writing one entry, acting on
every entry, acting on one block, and answering a request. -/

namespace Sys2Proof.Machine

/-! ## Tables -/

/-- Entry i of a table. -/
def look {α : Type} {n : Nat} (v : Vector α n) (i : Fin n) : α := v.get i

/-- The table with entry i replaced. -/
def put {α : Type} {n : Nat} (v : Vector α n) (i : Fin n) (a : α) : Vector α n := v.set i.val a i.isLt

/-- The table with entry i changed. -/
def change {α : Type} {n : Nat} (v : Vector α n) (i : Fin n) (f : α → α) : Vector α n := put v i (f (look v i))

/-- The table with every entry changed, knowing its number. -/
def mapAll {α : Type} {n : Nat} (f : Fin n → α → α) (v : Vector α n) : Vector α n :=
  Vector.ofFn fun i => f i (look v i)

/-- The numbers for which p holds, ascending. -/
def members {n : Nat} (p : Fin n → Bool) : List (Fin n) := (List.finRange n).filter p

/-- The lowest number for which p holds. -/
def firstWhere {n : Nat} (p : Fin n → Bool) : Option (Fin n) := (List.finRange n).find? p

/-- How many numbers p holds for. -/
def countWhere {n : Nat} (p : Fin n → Bool) : Nat := (members p).length

/-- Whether p holds for some number. -/
def anyWhere {n : Nat} (p : Fin n → Bool) : Bool := (List.finRange n).any p

/-! ## Blocks -/

/-- Acting on the Profile Store alone. -/
def State.onStore (f : ProfileStore → ProfileStore) (s : State) : State := { s with store := f s.store }

/-- Acting on the Station Bus Controller alone. -/
def State.onBus (f : BusController → BusController) (s : State) : State := { s with bus := f s.bus }

/-- Acting on one station's link. -/
def State.onLink (i : Station) (f : StationLink → StationLink) (s : State) : State :=
  { s with bus := { s.bus with stations := change s.bus.stations i f } }

/-- Acting on one station's press state. -/
def State.onPress (i : Station) (f : PressState → PressState) (s : State) : State :=
  { s with press := change s.press i f }

/-- Acting on the Call Table alone. -/
def State.onTable (f : CallTable → CallTable) (s : State) : State := { s with table := f s.table }

/-- Acting on one crossing's Grant Controller state. -/
def State.onGrant (c : Crossing) (f : GrantState → GrantState) (s : State) : State :=
  { s with grants := change s.grants c f }

/-- Acting on one crossing's Aspect Monitor state. -/
def State.onAspect (c : Crossing) (f : AspectState → AspectState) (s : State) : State :=
  { s with aspects := change s.aspects c f }

/-- Acting on the Hold Unit alone. -/
def State.onHolds (f : HoldUnit → HoldUnit) (s : State) : State := { s with holds := f s.holds }

/-- Acting on the Cue Generator alone. -/
def State.onCues (f : CueGenerator → CueGenerator) (s : State) : State := { s with cues := f s.cues }

/-- Acting on one station's cues. -/
def CueGenerator.onStation (i : Station) (f : StationCue → StationCue) (g : CueGenerator) : CueGenerator :=
  { g with stations := change g.stations i f }

/-- Acting on one corner's phase. -/
def CueGenerator.onCorner (k : Corner) (f : CornerPhase → CornerPhase) (g : CueGenerator) : CueGenerator :=
  { g with corners := change g.corners k f }

/-- Acting on one corner's speech. -/
def CueGenerator.onSpeech (k : Corner) (f : CornerSpeech → CornerSpeech) (g : CueGenerator) : CueGenerator :=
  { g with speech := change g.speech k f }

/-- Acting on one station's level state. -/
def State.onLevel (i : Station) (f : LevelState → LevelState) (s : State) : State :=
  { s with levels := change s.levels i f }

/-! ## Active copies -/

/-- The active profile of a crossing (R1). -/
def ProfileStore.crossing (p : ProfileStore) (c : Crossing) : CrossingProfile := (look p.crossings c).active

/-- The active profile of a station (R1). -/
def ProfileStore.station (p : ProfileStore) (i : Station) : StationProfile := (look p.stations i).active

/-- The active profile of a corner (R1). -/
def ProfileStore.corner (p : ProfileStore) (k : Corner) : CornerProfile := (look p.corners k).active

/-- The settings of a hold line (R14). -/
def ProfileStore.line (p : ProfileStore) (l : HoldLine) : LineSettings :=
  match l with
  | .a => p.lineA
  | .b => p.lineB

/-- Whether a crossing's profile responds to a hold line (R4). -/
def CrossingProfile.responds (p : CrossingProfile) (l : HoldLine) : Bool :=
  match l with
  | .a => p.respondsA
  | .b => p.respondsB

/-- Link state of a station (R158). -/
def State.linkState (s : State) (i : Station) : LinkState := (look s.bus.stations i).state

/-! ## Time -/

/-- Age of a stamp in 100 ms periods, modulo 2^32 (R16). -/
def ageOf (now stamp : StreetTime) : Nat := (now - stamp).toNat

/-- Age as reported, in whole seconds, saturating (R16). -/
def ageSeconds (now stamp : StreetTime) : Nat := min (ageOf now stamp / 10) Config.ageMax

/-! ## Responses -/

/-- The response of a request becomes the pending response (R176, R177). -/
def State.respond (s : State) (status : Status) (fields : List Byte) : State :=
  { s with response := { status := status, fields := fields } }

/-- A response of status alone (R179). -/
def State.answer (s : State) (status : Status) : State := s.respond status []

/-! ## Numbers of a request (R178) -/

/-- A crossing number of a request, none outside 0..23. -/
def crossingOf (b : Byte) : Option Crossing := if h : b.toNat < 24 then some ⟨b.toNat, h⟩ else none

/-- A station number of a request, none outside 0..47. -/
def stationOf (b : Byte) : Option Station := if h : b.toNat < 48 then some ⟨b.toNat, h⟩ else none

/-- A corner number of a request, none outside 0..31. -/
def cornerOf (b : Byte) : Option Corner := if h : b.toNat < 32 then some ⟨b.toNat, h⟩ else none

end Sys2Proof.Machine
end

