-- ==== Sys2Proof/Machine/CallTable.lean ====
section
/-! DEFINITION. The Call Table (03_the_call_table.md) and the clearance advice (R83, R84): finding records, placing
presses and linked demand, upgrades, memos, removal and allocation. These operations act on the Call Table alone; they read
the Profile Store. -/

namespace Sys2Proof.Machine

/-! ## Clearance advice (R83) -/

/-- A quotient rounded up to a whole number. -/
def ceilDiv (a b : Nat) : Nat := (a + b - 1) / b

/-- A clearance in tenths of a second at a walking speed, capped (R83). -/
def clearanceAt (length speed : Nat) : Nat := min (ceilDiv (length * 100) speed) Config.clearanceCap

/-- Standard clearance of a crossing (R83). -/
def CrossingProfile.standardClearance (p : CrossingProfile) : Nat := clearanceAt p.length p.standardSpeed

/-- Extended clearance of a crossing (R83). -/
def CrossingProfile.extendedClearance (p : CrossingProfile) : Nat := clearanceAt p.length p.extendedSpeed

/-- Advised clearance for a kind (R83). -/
def CrossingProfile.clearance (p : CrossingProfile) (k : CallKind) : Nat :=
  match k with
  | .standard => p.standardClearance
  | .extended => p.extendedClearance

/-- Advised extension for a kind (R83). -/
def CrossingProfile.extension (p : CrossingProfile) (k : CallKind) : Nat :=
  match k with
  | .standard => 0
  | .extended => p.extendedClearance - p.standardClearance

/-! ## Records -/

/-- WAITING. -/
def CallState.isWaiting (x : CallState) : Bool :=
  match x with
  | .waiting => true
  | .granted _ => false
  | .walking _ => false
  | .clearing _ => false

/-- GRANTED. -/
def CallState.isGranted (x : CallState) : Bool :=
  match x with
  | .waiting => false
  | .granted _ => true
  | .walking _ => false
  | .clearing _ => false

/-- WALKING. -/
def CallState.isWalking (x : CallState) : Bool :=
  match x with
  | .waiting => false
  | .granted _ => false
  | .walking _ => true
  | .clearing _ => false

/-- GRANTED or WALKING: a serving record that demand still joins (R41). -/
def CallState.isJoinable (x : CallState) : Bool := x.isGranted || x.isWalking

/-- Whether a place holds a record of crossing c whose state satisfies p. -/
def recordIs (c : Crossing) (p : CallState → Bool) (r : Option CallRecord) : Bool :=
  match r with
  | some r => r.crossing == c && p r.state
  | none => false

/-- The place of crossing c's WAITING record. -/
def CallTable.waitingSlot (t : CallTable) (c : Crossing) : Option RecordSlot :=
  firstWhere fun i => recordIs c CallState.isWaiting (look t.records i)

/-- The place of crossing c's serving record (R36). -/
def CallTable.servingSlot (t : CallTable) (c : Crossing) : Option RecordSlot :=
  firstWhere fun i => recordIs c (fun x => !x.isWaiting) (look t.records i)

/-- The place of crossing c's GRANTED record. -/
def CallTable.grantedSlot (t : CallTable) (c : Crossing) : Option RecordSlot :=
  firstWhere fun i => recordIs c CallState.isGranted (look t.records i)

/-- The place of crossing c's WALKING record. -/
def CallTable.walkingSlot (t : CallTable) (c : Crossing) : Option RecordSlot :=
  firstWhere fun i => recordIs c CallState.isWalking (look t.records i)

/-- The place of crossing c's serving record in GRANTED or WALKING (R41). -/
def CallTable.joinableSlot (t : CallTable) (c : Crossing) : Option RecordSlot :=
  firstWhere fun i => recordIs c CallState.isJoinable (look t.records i)

/-- The lowest free place (R43; which free record is taken has no outside effect, log 18). -/
def CallTable.freeSlot (t : CallTable) : Option RecordSlot := firstWhere fun i => (look t.records i).isNone

/-- The Call Table with a record put to use at place i. -/
def CallTable.fill (t : CallTable) (i : RecordSlot) (r : CallRecord) : CallTable :=
  { t with records := put t.records i (some r) }

/-- The Call Table with the record at place i changed. -/
def CallTable.edit (t : CallTable) (i : RecordSlot) (f : CallRecord → CallRecord) : CallTable :=
  { t with records := change t.records i (Option.map f) }

/-- A new record of crossing c with the advice for its kind; it is unseen (R43, R46, R54, R84). -/
def newRecord (p : ProfileStore) (c : Crossing) (state : CallState) (origin : Origin) (kind : CallKind)
    (stations : List Station) (count : Nat) (registeredAt : StreetTime) : CallRecord :=
  { crossing := c, state := state, origin := origin, kind := kind, stations := stations, pressCount := count,
    registeredAt := registeredAt, clearance := (p.crossing c).clearance kind,
    extension := (p.crossing c).extension kind, seen := false }

/-- The count of presses grows by one and stays at 255 (R37, R42). -/
def bump (n : Nat) : Nat := min (n + 1) Config.countMax

/-- A station put into a requesting set in ascending order, unless it is there or the set is full (R42, R52). -/
def addStation (i : Station) (set : List Station) : List Station :=
  if set.contains i || decide (Config.stationSetMax ≤ set.length) then set
  else set.filter (fun j => decide (j < i)) ++ i :: set.filter (fun j => decide (i < j))

/-- Merging a press into a record (R42). -/
def mergePress (i : Station) (r : CallRecord) : CallRecord :=
  { r with stations := addStation i r.stations, pressCount := bump r.pressCount, origin := .press, seen := false }

/-- A record's kind becomes EXTENDED with new advice and it is unseen; an EXTENDED record is unchanged (R45, R50). -/
def extendRecord (p : ProfileStore) (r : CallRecord) : CallRecord :=
  match r.kind with
  | .extended => r
  | .standard =>
    { r with kind := .extended, clearance := (p.crossing r.crossing).clearance .extended,
             extension := (p.crossing r.crossing).extension .extended, seen := false }

/-- Merging LINKED demand into a record (R50). -/
def mergeLinked (p : ProfileStore) (kind : CallKind) (r : CallRecord) : CallRecord :=
  match kind with
  | .standard => r
  | .extended => extendRecord p r

/-! ## Memos -/

/-- Folding a press into a crossing's memo (R52). -/
def foldPress (now : StreetTime) (i : Station) (m : Option Memo) : Option Memo :=
  match m with
  | none => some { since := now, origin := .press, kind := .standard, stations := [i], count := 1 }
  | some m => some { m with stations := addStation i m.stations, count := bump m.count, origin := .press }

/-- Folding LINKED demand into a crossing's memo (R53). -/
def foldLinked (now : StreetTime) (kind : CallKind) (m : Option Memo) : Option Memo :=
  match m with
  | none => some { since := now, origin := .linked, kind := kind, stations := [], count := 0 }
  | some m =>
    match kind with
    | .standard => some m
    | .extended => some { m with kind := .extended }

/-- Every upgrade target equal to `old` becomes `new` (R44). -/
def CallTable.retarget (t : CallTable) (old new : Target) : CallTable :=
  { t with targets := mapAll (fun _ x => if x = old then new else x) t.targets }

/-- Clearing a memo without its becoming a record (R55). -/
def CallTable.clearMemo (t : CallTable) (c : Crossing) : CallTable :=
  { t with memos := put t.memos c none }.retarget (.memo c) .none

/-- The older of the crossings with a memo: the largest age, and between equal ages the lower number (R54). -/
def olderMemo (now : StreetTime) (t : CallTable) (best : Option (Crossing × Nat)) (c : Crossing) :
    Option (Crossing × Nat) :=
  match look t.memos c, best with
  | none, _ => best
  | some m, none => some (c, ageOf now m.since)
  | some m, some (b, age) => if age < ageOf now m.since then some (c, ageOf now m.since) else some (b, age)

/-- The crossing whose memo is the oldest (R54). -/
def CallTable.oldestMemo (t : CallTable) (now : StreetTime) : Option Crossing :=
  ((List.finRange 24).foldl (olderMemo now t) none).map Prod.fst

/-- A free record goes to the crossing whose memo is the oldest, and the memo becomes a WAITING record (R54). -/
def CallTable.allocate (p : ProfileStore) (t : CallTable) : CallTable :=
  match t.freeSlot, t.oldestMemo p.streetTime with
  | some i, some c =>
    match look t.memos c with
    | some m =>
      { (t.fill i (newRecord p c .waiting m.origin m.kind m.stations m.count m.since)) with
        memos := put t.memos c none }.retarget (.memo c) (.record i)
    | none => t
  | _, _ => t

/-- Removal of the record at place i: it is freed, targets naming it become none, and the place is allocated to the oldest
memo (R56). -/
def CallTable.remove (p : ProfileStore) (t : CallTable) (i : RecordSlot) : CallTable :=
  ({ t with records := put t.records i none }.retarget (.record i) .none).allocate p

/-! ## Where demand goes -/

/-- A press placed on crossing c, with what it went to (R41, R42, R43, R52). -/
def CallTable.placePress (p : ProfileStore) (t : CallTable) (i : Station) (c : Crossing) : CallTable × Target :=
  match t.waitingSlot c with
  | some k => (t.edit k (mergePress i), .record k)
  | none =>
    match t.joinableSlot c with
    | some k => (t.edit k (mergePress i), .record k)
    | none =>
      match t.freeSlot with
      | some k => (t.fill k (newRecord p c .waiting .press .standard [i] 1 p.streetTime), .record k)
      | none => ({ t with memos := change t.memos c (foldPress p.streetTime i) }, .memo c)

/-- LINKED demand placed on crossing c (R41, R43, R50, R53). -/
def CallTable.placeLinked (p : ProfileStore) (kind : CallKind) (t : CallTable) (c : Crossing) : CallTable :=
  match t.waitingSlot c with
  | some k => t.edit k (mergeLinked p kind)
  | none =>
    match t.joinableSlot c with
    | some k => t.edit k (mergeLinked p kind)
    | none =>
      match t.freeSlot with
      | some k => t.fill k (newRecord p c .waiting .linked kind [] 0 p.streetTime)
      | none => { t with memos := change t.memos c (foldLinked p.streetTime kind) }

/-- The crossings demand is carried to from crossing c: the other enabled members of its link group, ascending, when c has
propagate set (R7, R47, R48). -/
def carriedTo (p : ProfileStore) (c : Crossing) : List Crossing :=
  match (p.crossing c).linkGroup, (p.crossing c).propagate with
  | some g, true => members fun d => d != c && (p.crossing d).enabled && (p.crossing d).linkGroup == some g
  | _, _ => []

/-- Linked demand of a kind carried from crossing c, one member at a time (R47 to R49). -/
def CallTable.carry (p : ProfileStore) (kind : CallKind) (t : CallTable) (c : Crossing) : CallTable :=
  (carriedTo p c).foldl (CallTable.placeLinked p kind) t

/-- The kind of what a target names (R48). -/
def CallTable.kindOf (t : CallTable) (x : Target) : CallKind :=
  match x with
  | .none => .standard
  | .record k =>
    match look t.records k with
    | some r => r.kind
    | none => .standard
  | .memo c =>
    match look t.memos c with
    | some m => m.kind
    | none => .standard

/-- A station's upgrade target is set (R44). -/
def CallTable.aim (t : CallTable) (i : Station) (x : Target) : CallTable := { t with targets := put t.targets i x }

/-- A registration from station i on crossing c, with its answer (R39, R40, R44, R48). A discarded one sets the target to none
(log 17). -/
def CallTable.register (p : ProfileStore) (t : CallTable) (i : Station) (c : Crossing) : CallTable × Registration :=
  if (p.crossing c).enabled then
    let placed := t.placePress p i c
    (CallTable.carry p (placed.1.kindOf placed.2) (placed.1.aim i placed.2) c, .taken)
  else (t.aim i .none, .discarded)

/-- An upgrade to EXTENDED from station i, applied to its target, with the linked demand it gives (R45, R49). -/
def CallTable.upgrade (p : ProfileStore) (t : CallTable) (i : Station) : CallTable :=
  match look t.targets i with
  | .none => t
  | .record k =>
    match look t.records k with
    | some r => CallTable.carry p .extended (t.edit k (extendRecord p)) r.crossing
    | none => t
  | .memo c =>
    match look t.memos c with
    | some m => CallTable.carry p .extended { t with memos := put t.memos c (some { m with kind := .extended }) } c
    | none => t

/-- A RECALL record of crossing c in the state named, or none where no record is free (R46). -/
def CallTable.makeRecall (p : ProfileStore) (t : CallTable) (c : Crossing) (state : CallState) : Option CallTable :=
  match t.freeSlot with
  | some k => some (t.fill k (newRecord p c state .recall .standard [] 0 p.streetTime))
  | none => none

/-! ## Moves and transfers -/

/-- A record moves to another state; it is unseen (R63, R67, R70, R73, R77). -/
def moveTo (state : CallState) (r : CallRecord) : CallRecord := { r with state := state, seen := false }

/-- CLEARANCE: a WALKING record becomes CLEARING and keeps its walk start (R77). -/
def toClearing (r : CallRecord) : CallRecord :=
  match r.state with
  | .walking start => moveTo (.clearing start) r
  | .waiting => r
  | .granted _ => r
  | .clearing _ => r

/-- The advice of a WAITING record computed again; if a value changes it is unseen (R6, R57). -/
def readvise (p : ProfileStore) (r : CallRecord) : CallRecord :=
  let clearance := (p.crossing r.crossing).clearance r.kind
  let extension := (p.crossing r.crossing).extension r.kind
  if r.clearance = clearance ∧ r.extension = extension then r
  else { r with clearance := clearance, extension := extension, seen := false }

/-- A station taken out of a requesting set; an empty set has count 0 (R59). -/
def takeOut (i : Station) (set : List Station) (count : Nat) : List Station × Nat :=
  let left := set.filter (fun j => decide (j ≠ i))
  (left, if left.isEmpty then 0 else count)

/-- Taking a station out of a record's set; if the set changes, the record is unseen (R59). -/
def takeOutOfRecord (i : Station) (r : CallRecord) : CallRecord :=
  if r.stations.contains i then
    { r with stations := (takeOut i r.stations r.pressCount).1, pressCount := (takeOut i r.stations r.pressCount).2,
             seen := false }
  else r

/-- Taking a station out of a memo's set (R59). -/
def takeOutOfMemo (i : Station) (m : Memo) : Memo :=
  if m.stations.contains i then
    { m with stations := (takeOut i m.stations m.count).1, count := (takeOut i m.stations m.count).2 }
  else m

/-- A station reassigned away from crossing c leaves the WAITING record's set and the memo's set (R59). -/
def CallTable.reassign (t : CallTable) (i : Station) (c : Crossing) : CallTable :=
  let t' :=
    match t.waitingSlot c with
    | some k => t.edit k (takeOutOfRecord i)
    | none => t
  { t' with memos := change t'.memos c (Option.map (takeOutOfMemo i)) }

/-- A crossing transfer at the Call Table: disabling removes the waiting demand, memo first (R57); a copy that is enabled has
the WAITING record's advice computed again (R6). -/
def CallTable.transfer (p : ProfileStore) (t : CallTable) (c : Crossing) (wasEnabled : Bool) : CallTable :=
  if (p.crossing c).enabled then
    match t.waitingSlot c with
    | some k => t.edit k (readvise p)
    | none => t
  else if wasEnabled then
    let t' := t.clearMemo c
    match t'.waitingSlot c with
    | some k => t'.remove p k
    | none => t'
  else t

/-! ## Counts and the reading order -/

/-- Records in use (R64). -/
def CallTable.inUse (t : CallTable) : Nat := countWhere fun i => (look t.records i).isSome

/-- Unseen records in use (R64). -/
def CallTable.unseen (t : CallTable) : Nat :=
  countWhere fun i =>
    match look t.records i with
    | some r => !r.seen
    | none => false

/-- Whether a record is asked for by a READ CALLS (R62): all, or those of one crossing. -/
def asked (only : Option Crossing) (r : CallRecord) : Bool :=
  match only with
  | some c => r.crossing == c
  | none => true

/-- The reading order of R62: larger age first, then lower crossing, then the serving record. -/
def listsBefore (now : StreetTime) (x y : CallRecord) : Bool :=
  if ageOf now x.registeredAt ≠ ageOf now y.registeredAt then
    decide (ageOf now y.registeredAt < ageOf now x.registeredAt)
  else if x.crossing ≠ y.crossing then decide (x.crossing < y.crossing)
  else !x.state.isWaiting

/-- A record put into an ordered list. -/
def insertRecord (now : StreetTime) (r : CallRecord) (l : List CallRecord) : List CallRecord :=
  match l with
  | [] => [r]
  | x :: rest => if listsBefore now r x then r :: x :: rest else x :: insertRecord now r rest

/-- The records asked for, in the order of R62. -/
def CallTable.listing (t : CallTable) (now : StreetTime) (only : Option Crossing) : List CallRecord :=
  ((t.records.toList.filterMap id).filter (asked only)).foldr (insertRecord now) []

/-- Every record listed is marked seen (R63). -/
def CallTable.markSeen (t : CallTable) (only : Option Crossing) : CallTable :=
  { t with records := mapAll (fun _ r => r.map fun r => if asked only r then { r with seen := true } else r) t.records }

end Sys2Proof.Machine
end

