-- ==== Sys2Proof/Machine/Flags.lean ====
section
/-! DEFINITION. Conditions the blocks compute from their state: the state of a hold line, the held condition, the cue
gate's condition, the notices and the attention line. -/

namespace Sys2Proof.Machine

/-! ## Hold lines and flags -/

/-- The sensed level of a hold line (R103). -/
def HoldUnit.sensed (h : HoldUnit) (l : HoldLine) : Level :=
  match l with
  | .a => h.levelA
  | .b => h.levelB

/-- A hold line is ACTIVE while its sensed level equals its active level (R103, log 6). -/
def lineActive (p : ProfileStore) (h : HoldUnit) (l : HoldLine) : Bool := h.sensed l == (p.line l).activeLevel

/-- The flag of a line (R103). -/
def HoldFlags.flag (f : HoldFlags) (l : HoldLine) : Bool :=
  match l with
  | .a => f.a
  | .b => f.b

/-- The cycle wait of a line (R103). -/
def HoldFlags.wait (f : HoldFlags) (l : HoldLine) : Bool :=
  match l with
  | .a => f.waitA
  | .b => f.waitB

/-- The flag and the cycle wait of a line replaced. -/
def HoldFlags.withLine (f : HoldFlags) (l : HoldLine) (flag wait : Bool) : HoldFlags :=
  match l with
  | .a => { f with a := flag, waitA := wait }
  | .b => { f with b := flag, waitB := wait }

/-- A crossing is held while any of its flags is set (R115). -/
def HoldFlags.held (f : HoldFlags) : Bool := f.a || f.b || f.s

/-- Whether some crossing has the line's flag set (R109, R116). -/
def HoldUnit.anyFlag (h : HoldUnit) (l : HoldLine) : Bool := anyWhere fun c : Crossing => (look h.flags c).flag l

/-! ## Crossings -/

/-- The cue gate's condition (R121). -/
def State.gateCondition (s : State) (c : Crossing) : Bool :=
  (s.table.walkingSlot c).isSome && (look s.aspects c).observed == .walk && !(look s.holds.flags c).held &&
    (look s.aspects c).fault.isNone && (s.store.crossing c).enabled

/-- The aspects over which a crossing can transfer (R5). -/
def Aspect.isQuiet (a : Aspect) : Bool :=
  match a with
  | .dontWalk => true
  | .dark => true
  | .unknown => true
  | .walk => false
  | .clearance => false
  | .conflict => false

/-- The transfer point of a crossing profile (R5). -/
def State.crossingTransferPoint (s : State) (c : Crossing) : Bool :=
  ((s.table.servingSlot c).isNone && (look s.aspects c).observed.isQuiet) || !(s.store.crossing c).enabled

/-- Any of the four notices of a crossing (R82, R99). -/
def State.crossingNotice (s : State) (c : Crossing) : Bool :=
  (look s.aspects c).notice || (look s.grants c).expired || (look s.grants c).truncated || (look s.grants c).unserved

/-! ## Stations -/

/-- Any of the three notices of a station (R173). -/
def State.stationNotice (s : State) (i : Station) : Bool :=
  (look s.bus.stations i).silentNotice || (look s.bus.stations i).joinedNotice || (look s.press i).stuckNotice

/-- The channel of a corner is PLAYING for a station (R123). -/
def Channel.playingFor (x : Channel) (i : Station) : Bool :=
  match x with
  | .idle => false
  | .playing e _ _ => e.station == i
  | .gap _ => false

/-- The transfer conditions of a station profile, tested at a frame start (R10). -/
def State.stationTransferPoint (s : State) (i : Station) : Bool :=
  (s.table.servingSlot (s.store.station i).crossing).isNone &&
    !(look s.cues.speech (s.store.station i).corner).channel.playingFor i &&
    (look s.press i).phase == .idle

/-! ## The attention line -/

/-- The attention line is asserted, driven low (R190, log 7). -/
def State.attention (s : State) : Bool :=
  decide (0 < s.table.unseen) || anyWhere (fun c : Crossing => s.crossingNotice c) ||
    anyWhere (fun i : Station => s.stationNotice i)

end Sys2Proof.Machine
end

