-- ==== Sys2Proof/Machine/Speech.lean ====
section
/-! DEFINITION. Corner speech (R130 to R140) and the cue gates (R121). These operations act on the Cue Generator alone; they
read the Profile Store. -/

namespace Sys2Proof.Machine

/-- Whether a sound is a walk tone or walk speech (R134). -/
def Sound.isWalkSound (x : Sound) : Bool :=
  match x with
  | .none => false
  | .locator => false
  | .waitAck => false
  | .walkTone => true
  | .speech .walk => true
  | .speech .info => false
  | .silent => false

/-- Whether a station of corner k has a walk tone or walk speech in force (R134). -/
def CueGenerator.walkSounding (p : ProfileStore) (g : CueGenerator) (k : Corner) : Bool :=
  anyWhere fun i : Station => decide ((p.station i).corner = k) && (look g.stations i).sound.isWalkSound

/-- A station's last speech result is set (R140). -/
def CueGenerator.result (i : Station) (r : SpeechResult) (g : CueGenerator) : CueGenerator :=
  g.onStation i fun x => { x with result := r }

/-- The channel of a corner changes state (R130). -/
def CueGenerator.setChannel (k : Corner) (x : Channel) (g : CueGenerator) : CueGenerator :=
  g.onSpeech k fun v => { v with channel := x }

/-- The queue of a corner is replaced (R130). -/
def CueGenerator.setQueue (k : Corner) (q : List SpeechEntry) (g : CueGenerator) : CueGenerator :=
  g.onSpeech k fun v => { v with queue := q }

/-- The start test of a corner (R134): on an IDLE channel a WALK head starts; an INFO head starts only when no station of the
corner has a walk tone or walk speech in force. -/
def CueGenerator.startTest (p : ProfileStore) (k : Corner) (g : CueGenerator) : CueGenerator :=
  match (look g.speech k).channel, (look g.speech k).queue with
  | .idle, e :: rest =>
    if e.kind = .walk || !g.walkSounding p k then
      { g with speech := put g.speech k { look g.speech k with channel := .playing e 0 g.nextSerial, queue := rest },
               nextSerial := g.nextSerial + 1 }
    else g
  | _, _ => g

/-- The separation gap after a playback: the length of the active profile; a gap of 0 makes the channel IDLE at once, and the
start test is taken (R136). -/
def CueGenerator.enterGap (p : ProfileStore) (k : Corner) (g : CueGenerator) : CueGenerator :=
  if (p.corner k).gap = 0 then (g.setChannel k .idle).startTest p k else g.setChannel k (.gap (p.corner k).gap)

/-- A playback that has run for `since` ms ends at corner k with result r: where its play limit has fallen due at this very moment
and something else ends it, the limit will find that playback gone (R135, log 30). -/
def CueGenerator.lapseLimit (k : Corner) (since : Nat) (r : SpeechResult) (g : CueGenerator) : CueGenerator :=
  g.onSpeech k fun v => { v with limitLapsed := v.limitLapsed || (decide (Config.playLimit ≤ since) && r != .timeout) }

/-- The end of a playback of corner k with a result for its station (R135 to R139); nothing where the channel is not
PLAYING. -/
def CueGenerator.endPlayback (p : ProfileStore) (k : Corner) (r : SpeechResult) (g : CueGenerator) : CueGenerator :=
  match (look g.speech k).channel with
  | .idle => g
  | .playing e since _ => ((g.result e.station r).lapseLimit k since r).enterGap p k
  | .gap _ => g

/-- A WALK entry in a queue, after the last WALK entry and before the first INFO entry (R133). -/
def insertWalk (e : SpeechEntry) (q : List SpeechEntry) : List SpeechEntry :=
  q.takeWhile (fun x => x.kind == .walk) ++ e :: q.dropWhile (fun x => x.kind == .walk)

/-- The youngest INFO entry of a queue: its last entry, where that is one (R133). -/
def youngestInfo (q : List SpeechEntry) : Option SpeechEntry :=
  match q.getLast? with
  | some x => if x.kind = .info then some x else none
  | none => none

/-- Whether a queue holds an entry of this station and kind (R132). -/
def queueHas (i : Station) (kind : SpeechKind) (q : List SpeechEntry) : Bool :=
  q.any fun x => x.station == i && x.kind == kind

/-- What follows the insertion of a WALK entry: the cut of an INFO playback, then the start test (R133, R137). -/
def CueGenerator.afterWalk (p : ProfileStore) (k : Corner) (g : CueGenerator) : CueGenerator :=
  match (look g.speech k).channel with
  | .idle => g.startTest p k
  | .playing e _ _ =>
    match e.kind with
    | .info => (g.endPlayback p k .cut).startTest p k
    | .walk => g.startTest p k
  | .gap _ => g.startTest p k

/-- A WALK request put to the queue of corner k (R132, R133). -/
def CueGenerator.enqueueWalk (p : ProfileStore) (k : Corner) (e : SpeechEntry) (g : CueGenerator) : CueGenerator :=
  let q := (look g.speech k).queue
  if queueHas e.station .walk q then g
  else if q.length < Config.queueMax then (g.setQueue k (insertWalk e q)).afterWalk p k
  else
    match youngestInfo q with
    | some x => ((g.result x.station .dropped).setQueue k (insertWalk e q.dropLast)).afterWalk p k
    | none => g.result e.station .dropped

/-- An INFO request put to the queue of corner k (R132, R133). -/
def CueGenerator.enqueueInfo (p : ProfileStore) (k : Corner) (e : SpeechEntry) (g : CueGenerator) : CueGenerator :=
  let q := (look g.speech k).queue
  if queueHas e.station .info q ||
      (match (look g.speech k).channel with
       | .idle => false
       | .playing x _ _ => x.station == e.station && x.kind == .info
       | .gap _ => false) then g
  else if q.length < Config.queueMax then (g.setQueue k (q ++ [e])).startTest p k
  else g.result e.station .dropped

/-- Entries of station i that satisfy `out` are removed from the queue of corner k; a removal makes its last speech result
DROPPED (R138, R139, R11, R171). -/
def CueGenerator.dropEntries (k : Corner) (i : Station) (out : SpeechEntry → Bool) (g : CueGenerator) : CueGenerator :=
  let q := (look g.speech k).queue
  if q.any (fun x => x.station == i && out x) then
    (g.result i .dropped).setQueue k (q.filter fun x => !(x.station == i && out x))
  else g

/-- The playback of corner k is cut where it is one of station i and satisfies `out` (R138, R139). -/
def CueGenerator.cutEntry (p : ProfileStore) (k : Corner) (i : Station) (out : SpeechEntry → Bool) (g : CueGenerator) :
    CueGenerator :=
  match (look g.speech k).channel with
  | .idle => g
  | .playing e _ _ => if e.station = i ∧ out e = true then g.endPlayback p k .cut else g
  | .gap _ => g

/-- The stations whose active profile names crossing c, ascending. -/
def stationsOf (p : ProfileStore) (c : Crossing) : List Station :=
  members fun i => decide ((p.station i).crossing = c)

/-- The opening of crossing c's gate: WALK requests of its ACTIVE stations whose walk cue is SPEECH, ascending (R131). -/
def CueGenerator.openGate (p : ProfileStore) (bus : BusController) (c : Crossing) (g : CueGenerator) : CueGenerator :=
  ((stationsOf p c).filter fun i =>
      (look bus.stations i).state == .active && (look bus.stations i).features.walkCue == .speech).foldl
    (fun g i => g.enqueueWalk p (p.station i).corner
      { station := i, message := (p.station i).walkMessage, kind := .walk })
    { g with gates := put g.gates c true }

/-- The closing of crossing c's gate: the WALK entries of its stations are removed, then their walk playbacks are
cut (R138). -/
def CueGenerator.closeGate (p : ProfileStore) (c : Crossing) (g : CueGenerator) : CueGenerator :=
  (stationsOf p c).foldl
    (fun g i => g.cutEntry p (p.station i).corner i fun e => e.kind == .walk)
    ((stationsOf p c).foldl
      (fun g i => g.dropEntries (p.station i).corner i fun e => e.kind == .walk)
      { g with gates := put g.gates c false })

/-- The gate of crossing c is found again after an event (R121). -/
def State.findGate (c : Crossing) (s : State) : State :=
  if look s.cues.gates c then
    if s.gateCondition c then s else s.onCues (CueGenerator.closeGate s.store c)
  else if s.gateCondition c then s.onCues (CueGenerator.openGate s.store s.bus c)
  else s

/-- The gates of all crossings are found again, ascending (R121; the order is open, log 13). -/
def State.findGates (s : State) : State := (List.finRange 24).foldl (fun s c => s.findGate c) s

/-- The entries of a station leaving ACTIVE are removed from its corner's queue (R139). -/
def CueGenerator.dropStation (p : ProfileStore) (g : CueGenerator) (i : Station) : CueGenerator :=
  g.dropEntries (p.station i).corner i fun _ => true

/-- The playback of a station leaving ACTIVE is cut (R139). -/
def CueGenerator.cutStation (p : ProfileStore) (g : CueGenerator) (i : Station) : CueGenerator :=
  g.cutEntry p (p.station i).corner i fun _ => true

/-- The sound, the wait acknowledgement and the latest tactile and indicator states of a station leaving ACTIVE (R139). -/
def CueGenerator.silenceStation (g : CueGenerator) (i : Station) : CueGenerator :=
  g.onStation i fun x =>
    { x with sound := .none, armed := false, covering := false, tactile := false, indicator := .off }

/-- A station leaving ACTIVE, at the Cue Generator (R139). -/
def CueGenerator.leave (p : ProfileStore) (i : Station) (g : CueGenerator) : CueGenerator :=
  (((g.dropStation p i).cutStation p i).silenceStation i).startTest p (p.station i).corner

/-- Stations leaving ACTIVE together at a section reset, at the Cue Generator (R139, R174): the steps of R139 are taken for all of
them at once, so that every queue is empty before a start test is taken, and an IDLE channel stays IDLE. -/
def CueGenerator.leaveAll (p : ProfileStore) (l : List Station) (g : CueGenerator) : CueGenerator :=
  let g1 := l.foldl (CueGenerator.cutStation p) (l.foldl (CueGenerator.dropStation p) g)
  l.foldl (fun g i => g.startTest p (p.station i).corner) (l.foldl CueGenerator.silenceStation g1)

/-- The separation gap of corner k ends: its channel becomes IDLE, and the start test is taken (R136). -/
def CueGenerator.endGap (p : ProfileStore) (k : Corner) (g : CueGenerator) : CueGenerator :=
  match (look g.speech k).channel with
  | .idle => g
  | .playing _ _ _ => g
  | .gap _ => (g.setChannel k .idle).startTest p k

/-- The play limit is reached at corner k (R135): a PLAYING channel's playback ends as TIMEOUT. A limit whose own playback
something else has ended at the same moment does nothing (log 30). -/
def CueGenerator.limitPlayback (p : ProfileStore) (k : Corner) (g : CueGenerator) : CueGenerator :=
  if (look g.speech k).limitLapsed then g.onSpeech k fun v => { v with limitLapsed := false }
  else g.endPlayback p k .timeout

/-- A "message done" flag that answers a command carrying speech of playback `serial` (R135): the playback ends as PLAYED where
it is still the one playing. -/
def CueGenerator.messageDone (p : ProfileStore) (k : Corner) (serial : Nat) (g : CueGenerator) : CueGenerator :=
  match (look g.speech k).channel with
  | .idle => g
  | .playing _ _ n => if n = serial then g.endPlayback p k .played else g
  | .gap _ => g

end Sys2Proof.Machine
end

