-- ==== Sys2Proof/Machine/Service.lean ====
section
/-! DEFINITION. The Aspect Monitor (05), the Grant Controller's progression of records (04), the Hold Unit's cycle waits
(R108) and the crossing transfer (R5, R6): what a declaration, a fault and a transfer do, each stated once. -/

namespace Sys2Proof.Machine

/-! ## Decoding (R86, R87) -/

/-- The qualifying aspect of the lines at a settle time (R87). -/
def AspectState.qualifying (x : AspectState) (settle : Nat) : Option Aspect :=
  if x.w then
    if settle ≤ x.wSteady ∧ settle ≤ x.dSteady then (if x.d then some .conflict else some .walk) else none
  else if x.run = .twoOrMore ∧ x.dSteady < Config.flashLoss then some .clearance
  else if x.d then (if Config.flashLoss ≤ x.dSteady then some .dontWalk else none)
  else if Config.flashLoss ≤ x.wSteady ∧ Config.flashLoss ≤ x.dSteady then some .dark
  else none

/-- A measure that has not acted on its stretch is at the undecodable limit (R91). -/
def AspectState.atLimit (x : AspectState) : Bool :=
  match x.undecodable with
  | some m => decide (Config.undecodableLimit ≤ m.time) && !m.acted
  | none => false

/-- One more D transition in the window of the one before (R86). -/
def FlashRun.grow (r : FlashRun) : FlashRun :=
  match r with
  | .zero => .one
  | .one => .twoOrMore
  | .twoOrMore => .twoOrMore

/-- A run that begins again at its latest transition, if it has one (R86, log 11). -/
def FlashRun.restart (r : FlashRun) : FlashRun :=
  match r with
  | .zero => .zero
  | .one => .one
  | .twoOrMore => .one

/-- A change of W (R86). A D transition of the same moment falls together with it, so its run begins again (log 11). -/
def AspectState.changeW (w : Bool) (x : AspectState) : AspectState :=
  { x with w := w, wSteady := 0, run := if x.dSteady = 0 then x.run.restart else x.run }

/-- A change of D (R86). It falls together with a change of W where W has changed at the same moment (log 11). -/
def AspectState.changeD (d : Bool) (x : AspectState) : AspectState :=
  { x with d := d, dSteady := 0, dSeen := true,
           run := if x.dSeen = true ∧ Config.flashMin ≤ x.dSteady ∧ x.dSteady ≤ Config.flashMax ∧ x.wSteady ≠ 0 then
                    x.run.grow
                  else .one }

/-- The levels of both lines after a change: W first, then D; a line whose level stays has no change (R86). -/
def AspectState.changeLines (w d : Bool) (x : AspectState) : AspectState :=
  let y := if x.w = w then x else x.changeW w
  if y.d = d then y else y.changeD d

/-! ## The permitted sequence (R93) -/

/-- What the sequence check of R93 says of a declaration from one aspect to another: none is accepted. `granted` is the Grant
Controller's answer "granted" (R72). An aspect CONFLICT before is taken as UNKNOWN (R97). -/
def sequenceFault (before after : Aspect) (granted recallOk darkOk : Bool) : Option FaultKind :=
  match after with
  | .unknown => none
  | .conflict => some .aspectConflict
  | .dark => if darkOk then none else some .lampsDark
  | .dontWalk => none
  | .walk =>
    match before with
    | .unknown => if granted || recallOk then none else some .uncommandedWalk
    | .conflict => if granted || recallOk then none else some .uncommandedWalk
    | .dontWalk => if granted || recallOk then none else some .uncommandedWalk
    | .walk => none
    | .clearance => some .outOfSequence
    | .dark => some .outOfSequence
  | .clearance =>
    match before with
    | .unknown => none
    | .conflict => none
    | .dontWalk => some .outOfSequence
    | .walk => none
    | .clearance => none
    | .dark => some .outOfSequence

/-! ## Faults -/

/-- Removal of the record at place i by the Call Table (R56). -/
def State.removeRecord (i : RecordSlot) (s : State) : State := s.onTable fun t => t.remove s.store i

/-- The serving record of a crossing that faults: GRANTED returns to WAITING, WALKING and CLEARING are removed
(R81, R95). -/
def State.dropService (c : Crossing) (s : State) : State :=
  match s.table.servingSlot c with
  | none => s
  | some i =>
    match s.table.grantedSlot c with
    | some k => s.onTable fun t => t.edit k (moveTo .waiting)
    | none => s.removeRecord i

/-- A fault is raised on crossing c (R95, with R81). -/
def State.raiseFault (c : Crossing) (kind : FaultKind) (s : State) : State :=
  ((s.onAspect c fun x => { x with fault := some kind, further := false, notice := true }).dropService c).onGrant c
    fun g => { g with unrecorded := .none }

/-- A further fault on a FAULTED crossing (R97). -/
def State.furtherFault (c : Crossing) (s : State) : State :=
  s.onAspect c fun x => { x with further := true, notice := true }

/-! ## Accepted declarations (R73 to R80) -/

/-- A WALK handed to the Grant Controller: a granted walk (R73), or a recall walk (R74, R76). -/
def State.walkDeclared (c : Crossing) (s : State) : State :=
  match s.table.grantedSlot c with
  | some i => s.onTable fun t => t.edit i (moveTo (.walking s.store.streetTime))
  | none =>
    match s.table.waitingSlot c with
    | some i => s.onTable fun t => t.edit i (moveTo (.walking s.store.streetTime))
    | none =>
      match s.table.makeRecall s.store c (.walking s.store.streetTime) with
      | some t => { s with table := t }
      | none => s.onGrant c fun g => { g with unrecorded := .walk, unserved := true }

/-- A CLEARANCE handed to the Grant Controller (R77). -/
def State.clearanceDeclared (c : Crossing) (s : State) : State :=
  match s.table.walkingSlot c with
  | some i => s.onTable fun t => t.edit i toClearing
  | none =>
    match (look s.grants c).unrecorded with
    | .walk => s.onGrant c fun g => { g with unrecorded := .clearance }
    | .none => s
    | .clearance => s

/-- A DONT_WALK handed to the Grant Controller: retirement, truncation, or the end of an unrecorded walk (R78). -/
def State.dontWalkDeclared (c : Crossing) (s : State) : State :=
  match s.table.servingSlot c with
  | some i =>
    match s.table.walkingSlot c, s.table.grantedSlot c with
    | some k, _ => (s.removeRecord k).onGrant c fun g => { g with truncated := true }
    | none, some _ => s
    | none, none => s.removeRecord i
  | none =>
    match (look s.grants c).unrecorded with
    | .none => s
    | .walk => s.onGrant c fun g => { g with unrecorded := .none, truncated := true }
    | .clearance => s.onGrant c fun g => { g with unrecorded := .none }

/-- An accepted declaration handed to the Grant Controller (R72 to R80). DARK leaves everything as it stands (R80). -/
def State.handDeclaration (c : Crossing) (a : Aspect) (s : State) : State :=
  match a with
  | .unknown => s
  | .dontWalk => s.dontWalkDeclared c
  | .walk => s.walkDeclared c
  | .clearance => s.clearanceDeclared c
  | .dark => s
  | .conflict => s

/-- The sequence check of crossing c from an aspect, with the Grant Controller's answer and the active profile (R93, R94). -/
def State.checkSequence (c : Crossing) (before after : Aspect) (s : State) : Option FaultKind :=
  sequenceFault before after (s.table.grantedSlot c).isSome (s.store.crossing c).recallPermitted
    (s.store.crossing c).darkPermitted

/-- A cycle wait completes: its flag and the wait are cleared (R108). -/
def HoldFlags.completeWaits (f : HoldFlags) : HoldFlags :=
  { f with a := f.a && !f.waitA, b := f.b && !f.waitB, waitA := false, waitB := false }

/-- A DONT_WALK declaration at the Hold Unit: the cycle waits of crossing c complete (R108). -/
def State.completeWaits (c : Crossing) (s : State) : State :=
  s.onHolds fun h => { h with flags := change h.flags c HoldFlags.completeWaits }

/-- A declaration on crossing c: steps 1 and 2 of R92, and step 3 at the Hold Unit. The transfer test of step 3 is made by the
event that holds the declaration. -/
def State.declare (c : Crossing) (a : Aspect) (s : State) : State :=
  let before := (look s.aspects c).observed
  let s1 := s.onAspect c fun x => { x with observed := a }
  let s2 :=
    if (s.store.crossing c).enabled then
      match (look s.aspects c).fault with
      | none =>
        match s1.checkSequence c before a with
        | none => s1.handDeclaration c a
        | some kind => s1.raiseFault c kind
      | some _ =>
        match sequenceFault before a false (s.store.crossing c).recallPermitted (s.store.crossing c).darkPermitted with
        | none => s1
        | some _ => s1.furtherFault c
    else s1
  if a = .dontWalk then s2.completeWaits c else s2

/-- The undecodable measure starts where it is stopped (R91). -/
def AspectState.startMeasure (x : AspectState) : AspectState :=
  match x.undecodable with
  | none => { x with undecodable := some { time := 0, acted := false } }
  | some _ => x

/-- The qualifying aspect of crossing c is tested again: the undecodable measure starts or stops (R91), and an aspect that
qualifies and differs from the observed one is declared (R87). -/
def State.retest (c : Crossing) (s : State) : State :=
  match (look s.aspects c).qualifying (s.store.crossing c).settle with
  | none => s.onAspect c AspectState.startMeasure
  | some a =>
    let s1 := s.onAspect c fun x => { x with undecodable := none }
    if a = (look s.aspects c).observed then s1 else s1.declare c a

/-! ## The crossing transfer (R6) -/

/-- The check of a crossing that a transfer enables (R101): its observed aspect, as though just declared from UNKNOWN. -/
def State.enablingCheck (c : Crossing) (s : State) : State :=
  match (look s.aspects c).fault with
  | some _ => s
  | none =>
    match (look s.aspects c).observed with
    | .unknown => s
    | a =>
      match s.checkSequence c .unknown a with
      | none => s.handDeclaration c a
      | some kind => s.raiseFault c kind

/-- After the check of R101: a running undecodable measure that has reached its limit raises UNDECODABLE on a crossing that is not
FAULTED, and has then acted on its stretch (R91). -/
def State.enablingLimit (c : Crossing) (s : State) : State :=
  match (look s.aspects c).fault, (look s.aspects c).undecodable with
  | none, some m =>
    if Config.undecodableLimit ≤ m.time then
      (s.onAspect c fun x => { x with undecodable := some { m with acted := true } }).raiseFault c .undecodable
    else s
  | _, _ => s

/-- A crossing transfer that is made: the pending copy becomes active and is handed on in the order of R6. At step 3 the check
of R101 comes first, then the new settle time, then the undecodable limit (log 15). The cue gate is not found between these
parts, but once, by the event that holds the transfer (the model's choice, log 36). -/
def State.transferCrossing (c : Crossing) (new : CrossingProfile) (s : State) : State :=
  let old := s.store.crossing c
  let s1 := s.onStore fun p => { p with crossings := put p.crossings c { active := new, pending := none } }
  let s2 := s1.onTable fun t => t.transfer s1.store c old.enabled
  let s3 := if new.enabled then s2 else s2.onGrant c fun g => { g with unrecorded := .none }
  if new.enabled ∧ ¬ old.enabled then ((s3.enablingCheck c).retest c).enablingLimit c else s3.retest c

/-- The transfer test of a crossing (R5): a pending copy transfers where the transfer point holds. -/
def State.testTransfer (c : Crossing) (s : State) : State :=
  match (look s.store.crossings c).pending with
  | none => s
  | some new => if s.crossingTransferPoint c then s.transferCrossing c new else s

/-- What ends every event at a crossing: its transfer point is tested (R5), then its gate is found again (R121), once for the event
and the transfer that it holds (the model's choice, log 36). -/
def State.settleCrossing (c : Crossing) (s : State) : State := (s.testTransfer c).findGate c

end Sys2Proof.Machine
end

