-- ==== Sys2Proof/Machine/Holds.lean ====
section
/-! DEFINITION. The Hold Unit (06_holds.md): activation and release of a hold line, the effect of changed line settings, and the
software hold. -/

namespace Sys2Proof.Machine

/-- The activation of a line (R105): its flag is set on the enabled crossings that respond to it, and its cycle waits are
dropped. -/
def HoldUnit.activate (p : ProfileStore) (l : HoldLine) (h : HoldUnit) : HoldUnit :=
  { h with flags := mapAll (fun c f =>
      f.withLine l (f.flag l || ((p.crossing c).enabled && (p.crossing c).responds l)) false) h.flags }

/-- Every flag of a line is cleared and every cycle wait of it is dropped (R106, R109, R111). -/
def HoldUnit.clearLine (l : HoldLine) (h : HoldUnit) : HoldUnit :=
  { h with flags := mapAll (fun _ f => f.withLine l false false) h.flags }

/-- The release of a line under CYCLE (R107): a flag over DONT_WALK, DARK or UNKNOWN is cleared, any other set flag waits. -/
def HoldUnit.cycleRelease (aspects : Vector AspectState 24) (l : HoldLine) (h : HoldUnit) : HoldUnit :=
  { h with flags := mapAll (fun c f =>
      if f.flag l then
        (if (look aspects c).observed.isQuiet then f.withLine l false false else f.withLine l true true)
      else f) h.flags }

/-- Every cycle wait of a line is dropped, and its flags stay (R111). -/
def HoldUnit.dropWaits (l : HoldLine) (h : HoldUnit) : HoldUnit :=
  { h with flags := mapAll (fun _ f => f.withLine l (f.flag l) false) h.flags }

/-- A line going INACTIVE under a release mode (R104): R106, R107, R109. -/
def HoldUnit.goInactive (aspects : Vector AspectState 24) (mode : ReleaseMode) (l : HoldLine) (h : HoldUnit) : HoldUnit :=
  match mode with
  | .level => h.clearLine l
  | .cycle => h.cycleRelease aspects l
  | .latch => h

/-- The sensed level of a line is replaced (R104). -/
def HoldUnit.sense (l : HoldLine) (x : Level) (h : HoldUnit) : HoldUnit :=
  match l with
  | .a => { h with levelA := x }
  | .b => { h with levelB := x }

/-- A change of release mode while the line stays INACTIVE (R111). -/
def HoldUnit.newMode (aspects : Vector AspectState 24) (mode : ReleaseMode) (l : HoldLine) (h : HoldUnit) : HoldUnit :=
  match mode with
  | .level => h.clearLine l
  | .cycle => h.cycleRelease aspects l
  | .latch => h.dropWaits l

/-- A change of a line's sensed level (R104). A level that is already present is no change. -/
def State.changeLevel (l : HoldLine) (x : Level) (s : State) : State :=
  if s.holds.sensed l = x then s
  else
    let s1 := s.onHolds (HoldUnit.sense l x)
    match lineActive s.store s.holds l, lineActive s.store s1.holds l with
    | false, true => s1.onHolds (HoldUnit.activate s.store l)
    | true, false => s1.onHolds (HoldUnit.goInactive s.aspects (s.store.line l).releaseMode l)
    | _, _ => s1

/-- What a WRITE STREET does to one line (R111): `before` is the Profile Store before the write, and the state holds the new
settings. -/
def State.applyLine (before : ProfileStore) (l : HoldLine) (s : State) : State :=
  match lineActive before s.holds l, lineActive s.store s.holds l with
  | false, true => s.onHolds (HoldUnit.activate s.store l)
  | true, false => s.onHolds (HoldUnit.goInactive s.aspects (s.store.line l).releaseMode l)
  | false, false =>
    if (before.line l).releaseMode = (s.store.line l).releaseMode then s
    else s.onHolds (HoldUnit.newMode s.aspects (s.store.line l).releaseMode l)
  | true, true => s

/-- A new software hold over a set (R113): the set, the timer in ms, and flag S on exactly the crossings of the set. -/
def HoldUnit.startSoftware (set : List Crossing) (seconds : Nat) (h : HoldUnit) : HoldUnit :=
  { h with flags := mapAll (fun c f => { f with s := set.contains c }) h.flags, timer := some (seconds * 1000),
           softwareSet := set }

/-- A SET HOLD comes before a run-out of the timer that has fallen due at this very moment, which will not be taken
(R114, log 30). -/
def HoldUnit.lapseExpiry (h : HoldUnit) : HoldUnit := { h with expiryLapsed := h.expiryLapsed || h.timer == some 0 }

/-- The end of the software hold (R113 time 0, R114): every flag S clear, the set empty, the timer stopped. -/
def HoldUnit.stopSoftware (h : HoldUnit) : HoldUnit :=
  { h with flags := mapAll (fun _ f => { f with s := false }) h.flags, timer := none, softwareSet := [] }

/-- Time remaining of the software timer in whole seconds, 0 while it is stopped (R114, R116). -/
def HoldUnit.secondsLeft (h : HoldUnit) : Nat := h.timer.getD 0 / 1000

/-- The lines as a part reset senses them (R103): each line that is active has its activation taken at once. -/
def State.senseLines (s : State) : State :=
  let s1 := if lineActive s.store s.holds .a then s.onHolds (HoldUnit.activate s.store .a) else s
  if lineActive s1.store s1.holds .b then s1.onHolds (HoldUnit.activate s1.store .b) else s1

end Sys2Proof.Machine
end

