-- ==== Sys2Proof/Machine/Operands.lean ====
section
/-! DEFINITION. The operands of requests: the codes of enumerated fields (R191), and bringing numeric fields into range
(R2, R3, R15). A field whose code is not defined gives none, and the request is refused with RANGE. -/

namespace Sys2Proof.Machine

/-! ## Codes of enumerated fields (R191) -/

/-- Yes/no and on/off fields. -/
def codeBool (b : Byte) : Option Bool :=
  match b.toNat with
  | 0 => some false
  | 1 => some true
  | _ => none

/-- Walk cue. -/
def codeWalkCue (b : Byte) : Option WalkCue :=
  match b.toNat with
  | 0 => some .tone
  | 1 => some .speech
  | _ => none

/-- Indicator source. -/
def codeIndicator (b : Byte) : Option IndicatorSource :=
  match b.toNat with
  | 0 => some .off
  | 1 => some .on
  | 2 => some .callWaiting
  | 3 => some .serving
  | 4 => some .walk
  | 5 => some .callOrWalk
  | 6 => some .stationFault
  | _ => none

/-- Street mode. -/
def codeMode (b : Byte) : Option StreetMode :=
  match b.toNat with
  | 0 => some .day
  | 1 => some .night
  | _ => none

/-- Active level of a hold line. -/
def codeLevel (b : Byte) : Option Level :=
  match b.toNat with
  | 0 => some .low
  | 1 => some .high
  | _ => none

/-- Release mode of a hold line. -/
def codeRelease (b : Byte) : Option ReleaseMode :=
  match b.toNat with
  | 0 => some .level
  | 1 => some .cycle
  | 2 => some .latch
  | _ => none

/-- Hold line. -/
def codeLine (b : Byte) : Option HoldLine :=
  match b.toNat with
  | 0 => some .a
  | 1 => some .b
  | _ => none

/-- Target of CANCEL. -/
inductive CancelTarget where
  | waiting
  | serving
  deriving DecidableEq, Repr

/-- Target of CANCEL. -/
def codeTarget (b : Byte) : Option CancelTarget :=
  match b.toNat with
  | 0 => some .waiting
  | 1 => some .serving
  | _ => none

/-- Scope of READ CALLS: all records, or one crossing. -/
inductive CallScope where
  | all
  | one (crossing : Crossing)
  deriving DecidableEq, Repr

/-- Scope of READ CALLS: 255 is all records (R191). -/
def codeScope (b : Byte) : Option CallScope :=
  if b.toNat = Config.emptyNumber then some .all else (crossingOf b).map .one

/-- Link group: 255 is none (R191). -/
def codeGroup (b : Byte) : Option (Option LinkGroup) :=
  if b.toNat = Config.emptyNumber then some none
  else if h : b.toNat < 8 then some (some ⟨b.toNat, h⟩) else none

/-- Speech message. -/
def codeMessage (b : Byte) : Option Message := if h : b.toNat < 16 then some ⟨b.toNat, h⟩ else none

/-- Information message: 255 is none (R191). -/
def codeInfo (b : Byte) : Option (Option Message) :=
  if b.toNat = Config.emptyNumber then some none else (codeMessage b).map some

/-! ## Numeric fields (R3) -/

/-- Replaced by the nearer end of the range when outside it. -/
def clamp (lo hi v : Nat) : Nat := if v < lo then lo else if hi < v then hi else v

/-- Rounded down to a multiple of the step. -/
def roundDown (step v : Nat) : Nat := v - v % step

/-- A field with a step: rounded down, then clamped (R3). -/
def bring (step lo hi v : Nat) : Nat := clamp lo hi (roundDown step v)

/-- The double-press window: 0 or 200..1500 in steps of 100; a result of 100 goes to 200 (R8). -/
def bringDoubleWindow (v : Nat) : Nat :=
  let r := bring 100 0 1500 v
  if r = 100 then 200 else r

/-- A crossing write brought into a profile (R2 step 2, R3, R4), with whether R3 changed a field; none is RANGE. -/
def crossingProfileOf (f : CrossingFields) : Option (CrossingProfile × Bool) :=
  match codeBool f.enabled, codeGroup f.linkGroup, codeBool f.propagate, codeBool f.recallPermitted,
    codeBool f.darkPermitted, codeBool f.respondsA, codeBool f.respondsB with
  | some enabled, some group, some propagate, some recallPermitted, some darkPermitted, some respondsA,
    some respondsB =>
    let length := clamp 30 400 f.length.toNat
    let standard := clamp 80 150 f.standardSpeed.toNat
    let extended := min (clamp 50 120 f.extendedSpeed.toNat) standard
    let settle := bring 50 100 1000 f.settle.toNat
    some
      ({ enabled := enabled, length := length, standardSpeed := standard, extendedSpeed := extended,
         linkGroup := group, propagate := propagate, recallPermitted := recallPermitted,
         darkPermitted := darkPermitted, respondsA := respondsA, respondsB := respondsB, settle := settle },
       length != f.length.toNat || standard != f.standardSpeed.toNat || extended != f.extendedSpeed.toNat ||
         settle != f.settle.toNat)
  | _, _, _, _, _, _, _ => none

/-- A station write brought into a profile (R2 step 2, R3, R8), with whether R3 changed a field; none is RANGE.
The assignment limits are checked by the caller. -/
def stationProfileOf (f : StationFields) : Option (StationProfile × Bool) :=
  match codeBool f.enabled, crossingOf f.crossing, cornerOf f.corner, codeWalkCue f.walkCue,
    codeMessage f.walkMessage, codeInfo f.infoMessage, codeIndicator f.indicator, codeBool f.invert,
    codeBool f.blink with
  | some enabled, some crossing, some corner, some walkCue, some walkMessage, some info, some indicator,
    some invert, some blink =>
    let noise := clamp 0 7 f.noiseCode.toNat
    let long := bring 100 500 3000 f.longThreshold.toNat
    let stuck := clamp 30 255 f.stuckLimit.toNat
    let double := bringDoubleWindow f.doubleWindow.toNat
    let margin := clamp 0 15 f.margin.toNat
    let maxLevel := clamp 40 100 f.maxLevel.toNat
    let minLevel := min (clamp 30 90 f.minLevel.toNat) maxLevel
    let cap := clamp 40 100 f.nightCap.toNat
    let boost := clamp 0 6 f.walkBoost.toNat
    some
      ({ enabled := enabled, crossing := crossing, corner := corner, walkCue := walkCue,
         walkMessage := walkMessage, infoMessage := info,
         wantSpeaker := f.wanted.getLsbD 3, wantTactile := f.wanted.getLsbD 2,
         wantMicrophone := f.wanted.getLsbD 1, wantSpeech := f.wanted.getLsbD 0,
         indicator := indicator, invert := invert, blink := blink, noiseCode := noise, longThreshold := long,
         stuckLimit := stuck, doubleWindow := double, margin := margin, minLevel := minLevel,
         maxLevel := maxLevel, nightCap := cap, walkBoost := boost },
       noise != f.noiseCode.toNat || long != f.longThreshold.toNat || stuck != f.stuckLimit.toNat ||
         double != f.doubleWindow.toNat || margin != f.margin.toNat || minLevel != f.minLevel.toNat ||
         maxLevel != f.maxLevel.toNat || cap != f.nightCap.toNat || boost != f.walkBoost.toNat)
  | _, _, _, _, _, _, _, _, _ => none

/-- A corner write brought into a profile (R2 step 2, R3, R12), with whether R3 changed a field; none is RANGE. -/
def cornerProfileOf (f : CornerFields) : Option (CornerProfile × Bool) :=
  match codeBool f.nightLocator with
  | some nightLocator =>
    let period := bring 50 500 2000 f.period.toNat
    let offset := bring 50 100 (period - 100) f.offset.toNat
    let gap := bring 50 0 1000 f.gap.toNat
    some
      ({ period := period, offset := offset, gap := gap, nightLocator := nightLocator },
       period != f.period.toNat || offset != f.offset.toNat || gap != f.gap.toNat)
  | none => none

end Sys2Proof.Machine
end

