-- ==== Sys2Proof/Machine/Levels.lean ====
section
/-! DEFINITION. The Level Tracker (R142 to R157), one station at a time. -/

namespace Sys2Proof.Machine

/-- Effective maximum of a profile by street mode (R148). -/
def effectiveMax (p : StationProfile) (m : StreetMode) : Nat :=
  match m with
  | .day => p.maxLevel
  | .night => min p.maxLevel p.nightCap

/-- Effective minimum of a profile by street mode (R148). -/
def effectiveMin (p : StationProfile) (m : StreetMode) : Nat := min p.minLevel (effectiveMax p m)

/-- The effective range computed again, and a present output level brought into it at once (R149, R150). -/
def LevelState.setRange (p : StationProfile) (m : StreetMode) (x : LevelState) : LevelState :=
  { x with maximum := effectiveMax p m, minimum := effectiveMin p m,
           output := x.output.map (clamp (effectiveMin p m) (effectiveMax p m)) }

/-- Target of a station (R151). -/
def LevelState.target (p : StationProfile) (x : LevelState) : Nat :=
  clamp x.minimum x.maximum (x.ambient / 16 + p.margin)

/-- A level moved toward a target by at most the slew limit (R152). -/
def slewTo (target o : Nat) : Nat :=
  if o + Config.slewLimit < target then o + Config.slewLimit
  else if target + Config.slewLimit < o then o - Config.slewLimit
  else target

/-- The slew of a period start (R152). -/
def LevelState.slew (p : StationProfile) (x : LevelState) : LevelState :=
  { x with output := x.output.map (slewTo (x.target p)) }

/-- A join at the Level Tracker (R153). -/
def LevelState.join (p : StationProfile) (x : LevelState) : LevelState :=
  let y := { x with ambient := Config.joinAmbient }
  { y with output := some (y.target p), windowOpen := false }

/-- Leaving ACTIVE at the Level Tracker (R154). -/
def LevelState.leave (x : LevelState) : LevelState := { x with output := none, windowOpen := false }

/-- The filter of R146: one eighth of the difference, truncated toward zero. -/
def filterAmbient (f sample : Nat) : Nat := ((f : Int) + Int.tdiv (16 * (sample : Int) - (f : Int)) 8).toNat

/-- A reported sample (R144 to R146): ignored under a USED window, tested under an OPEN one. -/
def LevelState.takeSample (microphone quiet clean : Bool) (sample : Nat) (x : LevelState) : LevelState :=
  if x.windowOpen then
    let v := clamp Config.sampleMin Config.sampleMax sample
    let y := { x with windowOpen := false, lastSample := some v }
    if !microphone then { y with outcome := .noMicrophone }
    else if !quiet then { y with outcome := .notQuiet }
    else if !clean then { y with outcome := .notClean }
    else { y with outcome := .admitted, ambient := filterAmbient x.ambient v }
  else x

/-- The clean flag the Cue Generator gives for a corner (R120). -/
def CornerPhase.cleanGiven (x : CornerPhase) : Bool := if x.samplePassed then x.openClean else x.closedClean

/-- The output level, or 0 while it is absent (R142). -/
def LevelState.level (x : LevelState) : Nat := x.output.getD 0

/-- The walk level (R155). -/
def LevelState.walkLevel (p : StationProfile) (x : LevelState) : Nat := min (x.level + p.walkBoost) x.maximum

/-- The level a command carries, by its sound (R155). -/
def LevelState.commandLevel (p : StationProfile) (sound : Sound) (x : LevelState) : Nat :=
  match sound with
  | .none => x.level
  | .locator => x.level
  | .waitAck => x.level
  | .silent => x.level
  | .walkTone => x.walkLevel p
  | .speech _ => x.walkLevel p

/-- Every station's effective range is computed again for the street mode in force (R149). -/
def State.rangeAll (s : State) : State :=
  { s with levels := mapAll (fun i x => x.setRange (s.store.station i) s.store.mode) s.levels }

end Sys2Proof.Machine
end

