-- ==== Sys2Proof/Machine/Formats.lean ====
section
/-! DEFINITION. Byte layouts (11_formats.md): the codes of enumerations, the fields of the read responses, and the
transmissions of the station bus. -/

namespace Sys2Proof.Machine

/-! ## Bytes -/

/-- A number as one byte. -/
def byte (n : Nat) : Byte := BitVec.ofNat 8 n

/-- A number as two bytes, most significant first (R191). -/
def bytes2 (n : Nat) : List Byte := [byte (n / 256), byte n]

/-- A number as three bytes, most significant first. -/
def bytes3 (n : Nat) : List Byte := [byte (n / 65536), byte (n / 256), byte n]

/-- A number as four bytes, most significant first. -/
def bytes4 (n : Nat) : List Byte := [byte (n / 16777216), byte (n / 65536), byte (n / 256), byte n]

/-- A number as six bytes, most significant first. -/
def bytes6 (n : Nat) : List Byte := [byte (n / 1099511627776), byte (n / 4294967296)] ++ bytes4 n

/-- A bit of a byte. -/
def bit (b : Bool) : Nat := if b then 1 else 0

/-- A byte from its bits, bit 7 first. -/
def bits (b7 b6 b5 b4 b3 b2 b1 b0 : Bool) : Nat :=
  bit b7 * 128 + bit b6 * 64 + bit b5 * 32 + bit b4 * 16 + bit b3 * 8 + bit b2 * 4 + bit b1 * 2 + bit b0

/-- A set as a bit map: member n is bit n of the whole value (R191). -/
def bitMap {n : Nat} (p : Fin n → Bool) : Nat := (members p).foldl (fun sum i => sum + 2 ^ i.val) 0

/-! ## Codes (R191) -/

/-- Code of an aspect. -/
def Aspect.code (a : Aspect) : Nat :=
  match a with
  | .unknown => 0
  | .dontWalk => 1
  | .walk => 2
  | .clearance => 3
  | .dark => 4
  | .conflict => 5

/-- Code of a fault kind, 0 for none. -/
def faultCode (f : Option FaultKind) : Nat :=
  match f with
  | none => 0
  | some .uncommandedWalk => 1
  | some .outOfSequence => 2
  | some .aspectConflict => 3
  | some .lampsDark => 4
  | some .undecodable => 5

/-- Code of a record state. -/
def CallState.code (x : CallState) : Nat :=
  match x with
  | .waiting => 0
  | .granted _ => 1
  | .walking _ => 2
  | .clearing _ => 3

/-- Code of an origin. -/
def Origin.code (o : Origin) : Nat :=
  match o with
  | .press => 0
  | .linked => 1
  | .recall => 2

/-- Code of a call kind. -/
def CallKind.code (k : CallKind) : Nat :=
  match k with
  | .standard => 0
  | .extended => 1

/-- Code of a speech kind. -/
def SpeechKind.code (k : SpeechKind) : Nat :=
  match k with
  | .walk => 0
  | .info => 1

/-- Code of an unrecorded walk. -/
def UnrecordedWalk.code (u : UnrecordedWalk) : Nat :=
  match u with
  | .none => 0
  | .walk => 1
  | .clearance => 2

/-- Code of a link state. -/
def LinkState.code (l : LinkState) : Nat :=
  match l with
  | .disabled => 0
  | .absent => 1
  | .active => 2
  | .silent => 3

/-- Code of a press phase. -/
def PressPhase.code (p : PressPhase) : Nat :=
  match p with
  | .idle => 0
  | .down => 1
  | .held => 2
  | .long => 3
  | .stuck => 4

/-- Code of a capture entry's ending, 0 for an empty entry. -/
def endingCode (e : Option CaptureEntry) : Nat :=
  match e with
  | none => 0
  | some e =>
    match e.ending with
    | .opened => 1
    | .held => 2
    | .long => 3
    | .stuck => 4
    | .abandoned => 5

/-- Code of a sound. -/
def Sound.code (x : Sound) : Nat :=
  match x with
  | .none => 0
  | .locator => 1
  | .waitAck => 2
  | .walkTone => 3
  | .speech .walk => 4
  | .speech .info => 5
  | .silent => 6

/-- Code of JOIN_INVITE in the sound byte. -/
def joinInviteCode : Nat := 7

/-- Code of an indicator state. -/
def Indicator.code (x : Indicator) : Nat :=
  match x with
  | .off => 0
  | .on => 1
  | .blinkFast => 2
  | .blinkSlow => 3

/-- Code of an indicator source. -/
def IndicatorSource.code (x : IndicatorSource) : Nat :=
  match x with
  | .off => 0
  | .on => 1
  | .callWaiting => 2
  | .serving => 3
  | .walk => 4
  | .callOrWalk => 5
  | .stationFault => 6

/-- Code of a walk cue. -/
def WalkCue.code (x : WalkCue) : Nat :=
  match x with
  | .tone => 0
  | .speech => 1

/-- Code of a speech result. -/
def SpeechResult.code (x : SpeechResult) : Nat :=
  match x with
  | .none => 0
  | .played => 1
  | .timeout => 2
  | .cut => 3
  | .dropped => 4

/-- Code of a sample outcome. -/
def SampleOutcome.code (x : SampleOutcome) : Nat :=
  match x with
  | .none => 0
  | .admitted => 1
  | .noMicrophone => 2
  | .notQuiet => 3
  | .notClean => 4

/-- Code of a channel state. -/
def Channel.code (x : Channel) : Nat :=
  match x with
  | .idle => 0
  | .playing _ _ _ => 1
  | .gap _ => 2

/-- Code of a release mode. -/
def ReleaseMode.code (x : ReleaseMode) : Nat :=
  match x with
  | .level => 0
  | .cycle => 1
  | .latch => 2

/-- Code of a status. -/
def Status.code (x : Status) : Nat :=
  match x with
  | .none => 0
  | .ok => 1
  | .adjusted => 2
  | .busy => 3
  | .state => 4
  | .full => 5
  | .fault => 6
  | .limit => 7
  | .range => 8
  | .unknown => 9
  | .length => 10

/-! ## Responses -/

/-- A response as it is shifted out: status, two-byte length, fields (R179). -/
def Response.bytes (r : Response) : List Byte := byte r.status.code :: bytes2 r.fields.length ++ r.fields

/-- What a select of n whole bytes shifts out: the pending response from its status byte, then bytes of value 0 (R176). -/
def Response.shiftOut (r : Response) (n : Nat) : List Byte := (r.bytes ++ List.replicate n 0).take n

/-- The fields of IDENTIFY (R193). -/
def identifyFields : List Byte := bytes2 Config.partCode ++ [byte Config.revision]

/-- One line's byte of READ SUMMARY (R116, R193). -/
def State.lineByte (s : State) (l : HoldLine) : Byte :=
  byte (bit (lineActive s.store s.holds l) * 128 + (s.store.line l).releaseMode.code * 32 + bit (s.holds.anyFlag l) * 16)

/-- The 20 bytes of READ SUMMARY (R181, R193). -/
def State.summaryFields (s : State) : List Byte :=
  [byte s.table.unseen, byte s.table.inUse] ++
    bytes4 (bitMap fun c : Crossing => s.crossingNotice c) ++
    bytes4 (bitMap fun c : Crossing => (look s.table.memos c).isSome) ++
    bytes6 (bitMap fun i : Station => s.stationNotice i) ++
    [s.lineByte .a, s.lineByte .b] ++ bytes2 s.holds.secondsLeft

/-- A place of a station set: the station's number, or 63 (R191). -/
def place (set : List Station) (n : Nat) : Nat :=
  match set[n]? with
  | some i => i.val
  | none => Config.emptyPlace

/-- A station set in four 6-bit places (R193). -/
def placesFields (set : List Station) : List Byte :=
  bytes3 (place set 0 * 262144 + place set 1 * 4096 + place set 2 * 64 + place set 3)

/-- The time field of a call entry (R62): window remaining in s, time since walk start in s, or 0. -/
def CallState.timeField (x : CallState) (now : StreetTime) : Nat :=
  match x with
  | .waiting => 0
  | .granted remaining => remaining / 1000
  | .walking start => min (ageOf now start / 10) Config.sinceWalkMax
  | .clearing start => min (ageOf now start / 10) Config.sinceWalkMax

/-- The 12 bytes of a call entry (R62, R193). -/
def callEntry (now : StreetTime) (r : CallRecord) : List Byte :=
  [byte r.crossing.val,
   byte (r.state.code * 64 + r.origin.code * 16 + r.kind.code * 8 + bit (!r.seen) * 4),
   byte r.pressCount] ++
    bytes2 (ageSeconds now r.registeredAt) ++ bytes3 (r.clearance * 4096 + r.extension) ++
    [byte (r.state.timeField now)] ++ placesFields r.stations

/-- The fields of READ CALLS (R62, R182). -/
def State.callsFields (s : State) (only : Option Crossing) : List Byte :=
  (s.table.listing s.store.streetTime only).flatMap (callEntry s.store.streetTime)

/-- A crossing profile in its 13 bytes (R192). -/
def CrossingProfile.fields (p : CrossingProfile) : List Byte :=
  [byte (bit p.enabled)] ++ bytes2 p.length ++
    [byte p.standardSpeed, byte p.extendedSpeed,
     byte (match p.linkGroup with
       | some g => g.val
       | none => Config.emptyNumber),
     byte (bit p.propagate), byte (bit p.recallPermitted), byte (bit p.darkPermitted), byte (bit p.respondsA),
     byte (bit p.respondsB)] ++ bytes2 p.settle

/-- A station profile in its 21 bytes (R192). -/
def StationProfile.fields (p : StationProfile) : List Byte :=
  [byte (bit p.enabled), byte p.crossing.val, byte p.corner.val, byte p.walkCue.code, byte p.walkMessage.val,
   byte (match p.infoMessage with
     | some m => m.val
     | none => Config.emptyNumber),
   byte (bits false false false false p.wantSpeaker p.wantTactile p.wantMicrophone p.wantSpeech),
   byte p.indicator.code, byte (bit p.invert), byte (bit p.blink), byte p.noiseCode] ++
    bytes2 p.longThreshold ++ [byte p.stuckLimit] ++ bytes2 p.doubleWindow ++
    [byte p.margin, byte p.minLevel, byte p.maxLevel, byte p.nightCap, byte p.walkBoost]

/-- A corner profile in its 7 bytes (R192). -/
def CornerProfile.fields (p : CornerProfile) : List Byte :=
  bytes2 p.period ++ bytes2 p.offset ++ bytes2 p.gap ++ [byte (bit p.nightLocator)]

/-- Bytes 5 to 11 of the crossing status block: the memo (R55, R193). While no memo is present the origin and kind bits of byte 5
are 0 (log 34). -/
def memoFields (now : StreetTime) (m : Option Memo) : List Byte :=
  match m with
  | some m =>
    [byte (128 + m.origin.code * 64 + m.kind.code * 32), byte m.count] ++ bytes2 (ageSeconds now m.since) ++
      placesFields m.stations
  | none => [byte 0, byte 0] ++ bytes2 0 ++ placesFields []

/-- The 25 bytes of READ CROSSING (R183, R193). -/
def State.crossingFields (s : State) (c : Crossing) : List Byte :=
  let x := look s.aspects c
  let g := look s.grants c
  let f := look s.holds.flags c
  [byte c.val,
   byte (bit x.w * 128 + bit x.d * 64 + x.observed.code),
   byte (faultCode x.fault),
   byte (bit x.notice * 128 + bit g.expired * 64 + bit g.truncated * 32 + bit g.unserved * 16 + bit x.further * 8 +
     g.unrecorded.code),
   byte (bits f.a f.b f.s f.held f.waitA f.waitB (look s.cues.gates c) (look s.store.crossings c).pending.isSome)] ++
    memoFields s.store.streetTime (look s.table.memos c) ++ (s.store.crossing c).fields

/-- A stamp of a capture entry, 0 where absent (R193). -/
def stampFields (t : Option Tick) : List Byte := bytes2 (t.getD 0).toNat

/-- The 52 bytes of READ STATION (R184, R193). While the offered capabilities are none, the offered features and message count
are 0, and while there is no last report tick its two bytes are 0 (log 34). -/
def State.stationFields (s : State) (i : Station) : List Byte :=
  let l := look s.bus.stations i
  let p := look s.press i
  let v := look s.cues.stations i
  let x := look s.levels i
  let profile := s.store.station i
  let released := fun e : Option CaptureEntry => (e.bind CaptureEntry.release).isSome
  [byte i.val,
   byte (l.state.code * 64 + bit l.beyond * 32 + l.misses * 4 + bit l.silentNotice * 2 + bit l.joinedNotice),
   byte (match l.offered with
     | some o => bits true o.speaker o.tactile o.microphone false false false false
     | none => 0),
   byte (match l.offered with
     | some o => o.messages
     | none => 0),
   byte (bits l.features.speaker l.features.tactile l.features.microphone l.features.speech
     (l.features.walkCue == .speech) l.features.cueDegraded l.features.infoUsable false),
   byte (bit l.speakerFault * 128 + bit l.tactileFault * 64 + bit p.buttonFault * 32 + bit p.stuckNotice * 16 +
     bit l.lastTick.isSome * 8 + p.phase.code)] ++
    stampFields l.lastTick ++ bytes3 p.heldTime ++
    [byte (endingCode p.lastEntry * 32 + bit (released p.lastEntry) * 16 + endingCode p.previousEntry * 2 +
      bit (released p.previousEntry))] ++
    stampFields (p.lastEntry.map CaptureEntry.press) ++ stampFields (p.lastEntry.bind CaptureEntry.release) ++
    stampFields (p.previousEntry.map CaptureEntry.press) ++ stampFields (p.previousEntry.bind CaptureEntry.release) ++
    [byte v.sound.code,
     byte (bit v.armed * 128 + bit v.covering * 64 + bit v.tactile * 32 + v.indicator.code * 8 + v.result.code)] ++
    bytes2 x.ambient ++
    [byte x.level, byte x.maximum, byte x.minimum,
     byte (if l.state = .active then x.target profile else 0),
     byte (bit x.windowOpen * 128 + x.outcome.code),
     byte (x.lastSample.getD 0),
     byte (bit (look s.store.stations i).pending.isSome)] ++ profile.fields

/-- Three bytes of a speech entry: station, message, kind (R193). -/
def entryFields (e : Option SpeechEntry) : List Byte :=
  match e with
  | some e => [byte e.station.val, byte e.message.val, byte e.kind.code]
  | none => [byte Config.emptyNumber, byte 0, byte 0]

/-- The playing entry of a channel (R193). -/
def Channel.entry (x : Channel) : Option SpeechEntry :=
  match x with
  | .idle => none
  | .playing e _ _ => some e
  | .gap _ => none

/-- Time since start while PLAYING, time remaining while in GAP, 0 while IDLE (R193). -/
def Channel.time (x : Channel) : Nat :=
  match x with
  | .idle => 0
  | .playing _ since _ => since
  | .gap remaining => remaining

/-- The 33 bytes of READ CORNER (R185, R193). -/
def State.cornerFields (s : State) (k : Corner) : List Byte :=
  let x := look s.cues.corners k
  let v := look s.cues.speech k
  [byte k.val] ++ bytes2 x.elapsed ++ bytes2 x.period ++ bytes2 x.offset ++
    [byte (bit x.openClean * 128 + bit x.closedClean * 64 + v.channel.code * 4 +
      bit (look s.store.corners k).pending.isSome)] ++
    entryFields v.channel.entry ++ bytes2 v.channel.time ++ [byte v.queue.length] ++
    entryFields v.queue[0]? ++ entryFields v.queue[1]? ++ entryFields v.queue[2]? ++ entryFields v.queue[3]? ++
    (s.store.corner k).fields

/-! ## Station bus transmissions (R194) -/

/-- A transmission closed with its check byte: all its bytes sum to 0 (R162). -/
def withCheck (body : List Byte) : List Byte := body ++ [0 - byteSum body]

/-- Slot 0: the frame number and the corners whose marks are raised (R160, R194). -/
def slotZero (frameNumber : Byte) (marks : Corner → Bool) : List Byte :=
  withCheck (frameNumber :: bytes4 (bitMap marks))

/-- JOIN_INVITE to a station (R194). -/
def joinInvite (i : Station) : List Byte := withCheck [byte i.val, byte joinInviteCode, 0, 0, 0, 0, 0]

end Sys2Proof.Machine
end

