-- ==== Sys2Proof/Machine/Press.lean ====
section
/-! DEFINITION. The Press Qualifier (02_button_presses.md): thresholds, edges, the level check, abandonment, and the taking of a
report's button part moment by moment. -/

namespace Sys2Proof.Machine

/-- Noise width of a profile in ms (R8). -/
def StationProfile.noiseWidth (p : StationProfile) : Nat := 4 * 2 ^ p.noiseCode

/-- Advancing held time and release age (R22). -/
def PressState.advance (gain : Nat) (x : PressState) : PressState :=
  { x with heldTime := if x.phase = .idle then x.heldTime else min (x.heldTime + gain) Config.heldMax,
           releaseAge := min (x.releaseAge + gain) Config.releaseAgeMax }

/-- Advancing to a moment of a report of this tick (R22). A moment before the last point adds 0 and leaves the last point. -/
def PressState.advanceTo (tick moment : Tick) (x : PressState) : PressState :=
  if backOf tick moment ≤ backOf tick x.lastPoint then
    { x.advance (backOf tick x.lastPoint - backOf tick moment) with lastPoint := moment }
  else x

/-- The double-press test (R31). -/
def PressState.doubleTest (p : StationProfile) (x : PressState) : Bool :=
  match x.lastEntry, x.stamp with
  | some e, some stamp =>
    match e.ending, e.release with
    | .held, some r =>
      decide (p.doubleWindow ≠ 0) && decide (x.releaseAge < Config.releaseAgeMax) &&
        decide (backOf stamp r ≤ p.doubleWindow)
    | _, _ => false
  | _, _ => false

/-- The capture entries move at a qualification (R30). -/
def PressState.capture (x : PressState) : PressState :=
  match x.stamp with
  | some t =>
    { x with previousEntry := x.lastEntry, lastEntry := some { press := t, release := none, ending := .opened } }
  | none => x

/-- A press qualifies (R23 step 1): phase HELD, the double-press test, the capture pair, then the registration with its answer to
the Press Qualifier and to the Cue Generator (R27, R40, R124). -/
def State.qualify (i : Station) (s : State) : State :=
  let p := s.store.station i
  let s1 := s.onPress i fun x => { x.capture with phase := .held, doublePending := x.doubleTest p }
  let answer := s1.table.register s.store i p.crossing
  let s2 := { s1 with table := answer.1 }
  let s3 := s2.onPress i fun x => { x with outcome := some answer.2 }
  match answer.2 with
  | .taken => s3.onCues fun g => g.onStation i fun v => { v with armed := true }
  | .discarded => s3

/-- A press reaches the long threshold (R23 step 2): the upgrade of a TAKEN press is handed to the Call Table (R28). -/
def State.reachLong (i : Station) (s : State) : State :=
  let s1 := s.onPress i fun x => { x with phase := .long, doublePending := false }
  match (look s.press i).outcome with
  | some .taken => s1.onTable fun t => t.upgrade s.store i
  | some .discarded => s1
  | none => s1

/-- A press reaches the stuck limit (R23 step 3, R29). -/
def State.reachStuck (i : Station) (s : State) : State :=
  s.onPress i fun x => { x with phase := .stuck, doublePending := false, buttonFault := true, stuckNotice := true }

/-- Every threshold the advance has reached, in order (R23). -/
def State.thresholds (i : Station) (s : State) : State :=
  let p := s.store.station i
  let s1 := if (look s.press i).phase = .down ∧ p.noiseWidth ≤ (look s.press i).heldTime then s.qualify i else s
  let s2 :=
    if (look s1.press i).phase = .held ∧ p.longThreshold ≤ (look s1.press i).heldTime then s1.reachLong i else s1
  if ((look s2.press i).phase = .held ∨ (look s2.press i).phase = .long) ∧
      p.stuckLimit * 1000 ≤ (look s2.press i).heldTime then s2.reachStuck i
  else s2

/-- What every end of a press clears (R25). -/
def PressState.clear (x : PressState) : PressState :=
  { x with phase := .idle, stamp := none, heldTime := 0, outcome := none, doublePending := false }

/-- The last capture entry is completed at the end of a qualified press, and release age is set (R25). -/
def PressState.complete (ending : CaptureEnding) (release : Option Tick) (x : PressState) : PressState :=
  { x with lastEntry := x.lastEntry.map fun e => { e with release := release, ending := ending },
           releaseAge := match release with
             | some _ => 0
             | none => Config.releaseAgeMax }

/-- The information request of a double press (R31): handed when the station's message is set and usable. -/
def State.askInfo (i : Station) (s : State) : State :=
  match (s.store.station i).infoMessage with
  | some m =>
    if (look s.bus.stations i).features.infoUsable then
      s.onCues (CueGenerator.enqueueInfo s.store (s.store.station i).corner
        { station := i, message := m, kind := .info })
    else s
  | none => s

/-- A release, with its stamp where it has one, taken by the phase (R25). -/
def State.takeRelease (i : Station) (release : Option Tick) (s : State) : State :=
  match (look s.press i).phase with
  | .idle => s
  | .down => s.onPress i PressState.clear
  | .held =>
    let s1 := if (look s.press i).doublePending then s.askInfo i else s
    s1.onPress i fun x => (x.complete .held release).clear
  | .long => s.onPress i fun x => (x.complete .long release).clear
  | .stuck => s.onPress i fun x => { (x.complete .stuck release).clear with buttonFault := false }

/-- A press edge (R24): a press in progress first ends as by an implied release, then the new press begins. -/
def State.takePress (i : Station) (stamp : Tick) (s : State) : State :=
  (s.takeRelease i none).onPress i fun x =>
    { x with phase := .down, stamp := some stamp, heldTime := 0, outcome := none, doublePending := false }

/-- Advancing to a moment and taking every threshold reached (R21 steps 1 and 2). -/
def State.toMoment (i : Station) (tick moment : Tick) (s : State) : State :=
  (s.onPress i (PressState.advanceTo tick moment)).thresholds i

/-- A press edge as a moment of a report (R21). -/
def State.pressMoment (i : Station) (tick stamp : Tick) (s : State) : State :=
  (s.toMoment i tick stamp).takePress i stamp

/-- A release edge as a moment of a report (R21). -/
def State.releaseMoment (i : Station) (tick stamp : Tick) (s : State) : State :=
  (s.toMoment i tick stamp).takeRelease i (some stamp)

/-- The edges of a report in time order; of two edges of the same millisecond the press comes first (R21). -/
def State.takeEdges (i : Station) (r : Report) (s : State) : State :=
  match r.press, r.release with
  | none, none => s
  | some p, none => s.pressMoment i r.tick p
  | none, some q => s.releaseMoment i r.tick q
  | some p, some q =>
    if backOf r.tick p < backOf r.tick q then (s.releaseMoment i r.tick q).pressMoment i r.tick p
    else (s.pressMoment i r.tick p).releaseMoment i r.tick q

/-- The level check after the moment of the tick (R26). -/
def State.checkButton (i : Station) (r : Report) (s : State) : State :=
  match r.down, (look s.press i).phase with
  | true, .idle => s.takePress i r.tick
  | true, _ => s
  | false, .idle => s
  | false, _ => s.takeRelease i none

/-- The button part of a report is taken (R21). -/
def State.takeButton (i : Station) (r : Report) (s : State) : State :=
  ((s.takeEdges i r).toMoment i r.tick r.tick).checkButton i r

/-- Abandonment of the press of a station (R32); R18 for a section reset, a join and a rejoin. -/
def PressState.abandon (x : PressState) : PressState :=
  { x.clear with
    buttonFault := false
    lastEntry := x.lastEntry.map fun e => if e.ending = .opened then { e with release := none, ending := .abandoned } else e
    releaseAge := Config.releaseAgeMax }

/-- Abandonment at the Press Qualifier, and the station's upgrade target becomes none (R32, R38). -/
def State.abandonPress (i : Station) (s : State) : State :=
  (s.onPress i PressState.abandon).onTable fun t => t.aim i .none

end Sys2Proof.Machine
end

