-- ==== Sys2Proof/Machine/Bus.lean ====
section
/-! DEFINITION. The Station Bus Controller (09_the_station_bus.md) with the commands the Cue Generator chooses (R123 to R129):
leaving ACTIVE, joining, capability resolution, slots, reports, station transfers, frame starts and the section reset. -/

namespace Sys2Proof.Machine

/-! ## Commands (R123 to R129) -/

/-- The sound of a station's command: the first case of R123 that applies. -/
def State.chooseSound (s : State) (i : Station) : Sound :=
  let p := s.store.station i
  let l := look s.bus.stations i
  match (look s.cues.speech p.corner).channel, (look s.cues.speech p.corner).channel.playingFor i with
  | .playing e _ _, true => .speech e.kind
  | _, _ =>
    if look s.cues.gates p.crossing then .walkTone
    else if l.speakerFault || !l.features.speaker then .silent
    else if (look s.cues.stations i).covering then .waitAck
    else if s.store.mode = .night ∧ (s.store.corner p.corner).nightLocator = false then .silent
    else .locator

/-- The playing message and playback a command of a station carries, where the channel is PLAYING for it (R123, R127). -/
def State.playingOf (s : State) (i : Station) : Option (Message × Nat) :=
  match (look s.cues.speech (s.store.station i).corner).channel with
  | .idle => none
  | .playing e _ n => if e.station = i then some (e.message, n) else none
  | .gap _ => none

/-- The tactile state of a command (R126). -/
def State.chooseTactile (s : State) (i : Station) : Bool :=
  look s.cues.gates (s.store.station i).crossing && (look s.bus.stations i).features.tactile

/-- Whether the crossing has a WAITING record, a GRANTED record or a memo (R128, R129). -/
def State.callStands (s : State) (c : Crossing) : Bool :=
  (s.table.waitingSlot c).isSome || (s.table.grantedSlot c).isSome || (look s.table.memos c).isSome

/-- Whether an indicator source is asserted (R128). -/
def State.asserted (s : State) (i : Station) : Bool :=
  let c := (s.store.station i).crossing
  match (s.store.station i).indicator with
  | .off => false
  | .on => true
  | .callWaiting => (s.table.waitingSlot c).isSome || (look s.table.memos c).isSome
  | .serving => (s.table.servingSlot c).isSome
  | .walk => look s.cues.gates c
  | .callOrWalk => (s.table.walkingSlot c).isSome || s.callStands c
  | .stationFault =>
    (look s.press i).buttonFault || (look s.bus.stations i).speakerFault || (look s.bus.stations i).tactileFault

/-- BLINK of the street mode (R129). -/
def blinkOf (m : StreetMode) : Indicator :=
  match m with
  | .day => .blinkFast
  | .night => .blinkSlow

/-- ON, or BLINK where blink is set (R129). -/
def litOf (blink : Bool) (m : StreetMode) : Indicator := if blink then blinkOf m else .on

/-- The indicator state of a command (R129). -/
def State.chooseIndicator (s : State) (i : Station) : Indicator :=
  let p := s.store.station i
  match p.indicator with
  | .callOrWalk =>
    if (s.table.walkingSlot p.crossing).isSome then (if p.invert then .off else litOf p.blink s.store.mode)
    else if s.callStands p.crossing then (if p.invert then .off else .on)
    else if p.invert then litOf p.blink s.store.mode else .off
  | _ => if s.asserted i != p.invert then litOf p.blink s.store.mode else .off

/-- The 8 bytes of a station's command (R127, R155, R194). -/
def State.commandBytes (s : State) (i : Station) : List Byte :=
  let p := s.store.station i
  let sound := s.chooseSound i
  withCheck
    [byte i.val, byte sound.code,
     byte (match s.playingOf i with
       | some (m, _) => m.val
       | none => 0),
     byte ((look s.levels i).commandLevel p sound),
     byte (bit (s.chooseTactile i) * 128 + (s.chooseIndicator i).code),
     byte ((s.store.corner p.corner).period / 50), byte ((s.store.corner p.corner).offset / 50)]

/-- Whether a command with this sound makes the period not clean (R120). -/
def Sound.spoils (x : Sound) : Bool :=
  match x with
  | .none => false
  | .locator => false
  | .waitAck => true
  | .walkTone => true
  | .speech _ => true
  | .silent => false

/-- What a sent command leaves at the Cue Generator (R120, R123, R134): the sound in force, the latest tactile and indicator
states, the clean flag, the start test. -/
def CueGenerator.sent (p : ProfileStore) (i : Station) (sound : Sound) (tactile : Bool) (indicator : Indicator)
    (g : CueGenerator) : CueGenerator :=
  let k := (p.station i).corner
  ((g.onStation i fun x => { x with sound := sound, tactile := tactile, indicator := indicator }).onCorner k fun x =>
    if sound.spoils then { x with openClean := false } else x).startTest p k

/-- The start of the slot of station i (R162): a slot of the frame is begun and its transmission sent. A station numbered N or
above has no slot (R159). A slot before it that no report and no MISSED_SLOT has ended is dropped without a miss (log 33). -/
def State.beginSlot (i : Station) (s : State) : State :=
  let l := look s.bus.stations i
  if s.bus.frameLength ≤ i.val then s
  else if l.state = .active then
    (s.onBus fun b =>
      { b with slot := some { station := i, linkAtStart := .active, playback := (s.playingOf i).map Prod.snd,
                              settled := false },
               sent := s.commandBytes i }).onCues
      (CueGenerator.sent s.store i (s.chooseSound i) (s.chooseTactile i) (s.chooseIndicator i))
  else if l.state = .silent ∨ (l.state = .absent ∧ l.beyond = false) then
    s.onBus fun b =>
      { b with slot := some { station := i, linkAtStart := l.state, playback := none, settled := false },
               sent := joinInvite i }
  else
    s.onBus fun b =>
      { b with slot := some { station := i, linkAtStart := l.state, playback := none, settled := true }, sent := [] }

/-! ## Leaving ACTIVE and joining -/

/-- A station leaves ACTIVE, at the three blocks it is handed to, and its miss count becomes 0 (R166). Its link state is set by
the event. -/
def State.leaveActive (i : Station) (s : State) : State :=
  (((s.abandonPress i).onCues (CueGenerator.leave s.store i)).onLevel i LevelState.leave).onLink i fun l =>
    { l with misses := 0 }

/-- Capability resolution (R170). -/
def resolve (p : StationProfile) (o : Offer) : Features :=
  let speaker := p.wantSpeaker && o.speaker
  let speech := p.wantSpeech && decide (1 ≤ o.messages)
  let cue : WalkCue :=
    if p.walkCue = .speech ∧ speaker = true ∧ speech = true ∧ p.walkMessage.val < o.messages then .speech else .tone
  { speaker := speaker
    tactile := p.wantTactile && o.tactile
    microphone := p.wantMicrophone && o.microphone
    speech := speech
    walkCue := cue
    cueDegraded := p.walkCue == .speech && cue == .tone
    infoUsable :=
      match p.infoMessage with
      | some m => speaker && speech && decide (m.val < o.messages)
      | none => false }

/-- The ambient part of a report is handed to the Level Tracker (R144, R145, R164). -/
def State.takeAmbient (i : Station) (r : Report) (s : State) : State :=
  match r.sample with
  | some v =>
    s.onLevel i (LevelState.takeSample (look s.bus.stations i).features.microphone r.quiet
      (look s.cues.corners (s.store.station i).corner).cleanGiven v.toNat)
  | none => s

/-- The "message done" flag of a report is handed to the Cue Generator with the playback its slot's command carried
(R135, R164). -/
def State.takeMessageDone (i : Station) (r : Report) (playback : Option Nat) (s : State) : State :=
  match playback with
  | some n =>
    if r.messageDone then s.onCues (CueGenerator.messageDone s.store (s.store.station i).corner n) else s
  | none => s

/-- The parts of a taken report, handed on in the order R164 lists them (log 12). -/
def State.takeParts (i : Station) (r : Report) (playback : Option Nat) (s : State) : State :=
  ((s.takeButton i r).takeAmbient i r).takeMessageDone i r playback

/-- A join (R168). -/
def State.join (i : Station) (r : Report) (o : Offer) (s : State) : State :=
  let p := s.store.station i
  let s1 := s.onLink i fun l =>
    { l with state := .active, misses := 0, lastTick := some r.tick, offered := some o, features := resolve p o,
             speakerFault := r.speakerFault, tactileFault := r.tactileFault }
  let s2 := s1.onLevel i (LevelState.join p)
  let s3 := (s2.abandonPress i).onPress i fun x => { x with lastPoint := r.tick }
  let s4 := s3.onLink i fun l => { l with joinedNotice := true }
  s4.takeParts i r none

/-- A valid report from an ACTIVE station: a rejoin (R169), or taken (R164). -/
def State.takeReport (i : Station) (r : Report) (playback : Option Nat) (s : State) : State :=
  match r.offer with
  | some o => (s.leaveActive i).join i r o
  | none =>
    (s.onLink i fun l =>
      { l with misses := 0, lastTick := some r.tick, speakerFault := r.speakerFault,
               tactileFault := r.tactileFault }).takeParts i r playback

/-- A missed slot of an ACTIVE station (R165). -/
def State.missSlot (i : Station) (s : State) : State :=
  if (look s.bus.stations i).misses + 1 < Config.missLimit then
    s.onLink i fun l => { l with misses := l.misses + 1 }
  else
    (s.onLink i fun l => { l with state := .silent, misses := 0, silentNotice := true }).leaveActive i

/-- The slot in progress is settled: its report has been dealt with, or it has ended (log 10). -/
def State.settleSlot (s : State) : State :=
  s.onBus fun b => { b with slot := b.slot.map fun x => { x with settled := true } }

/-- What a valid report does, by the link state of its station when the slot began (R163, R164, R167). -/
def State.dealReport (x : Slot) (r : Report) (s : State) : State :=
  match x.linkAtStart with
  | .active => s.takeReport x.station r x.playback
  | .absent =>
    match r.offer with
    | some o => s.join x.station r o
    | none => s
  | .silent =>
    match r.offer with
    | some o => s.join x.station r o
    | none => s
  | .disabled => s

/-- What a missed slot does, by the link state of its station when the slot began (R165, R167). -/
def State.dealMiss (x : Slot) (s : State) : State :=
  match x.linkAtStart with
  | .active => s.missSlot x.station
  | .absent => s
  | .silent => s
  | .disabled => s

/-- Bytes received in the slot in progress (R159, R163): the first 12 are the slot's report, fewer are no report, and bytes after
it, in slot 0 or in a slot passed over are discarded. -/
def State.receive (bytes : List Byte) (s : State) : State :=
  match s.bus.slot with
  | none => s
  | some x =>
    if x.settled || decide (bytes.length < 12) then s
    else
      match validReport (bytes.take 12) with
      | some r => s.settleSlot.dealReport x r
      | none => s.settleSlot.dealMiss x

/-- The slot in progress ends (R163, R165): where no report was dealt with in it, it counts as missed. -/
def State.endSlot (s : State) : State :=
  match s.bus.slot with
  | none => s
  | some x => if x.settled then s else s.settleSlot.dealMiss x

/-! ## Station transfers (R10, R11) -/

/-- An INFO entry that a re-resolution leaves without its message (R171). -/
def staleInfo (f : Features) (p : StationProfile) (e : SpeechEntry) : Bool :=
  e.kind == .info && (!f.infoUsable || p.infoMessage != some e.message)

/-- Step 1 of R11, at the Station Bus Controller, taken while the old copy is still the active one (log 16). -/
def State.transferLink (i : Station) (new : StationProfile) (s : State) : State :=
  let l := look s.bus.stations i
  let old := s.store.station i
  if old.enabled ∧ ¬ new.enabled then
    (if l.state = .active then s.leaveActive i else s).onLink i fun l =>
      { l with state := .disabled, beyond := false, misses := 0 }
  else if ¬ old.enabled ∧ new.enabled then
    s.onLink i fun l => { l with state := .absent, beyond := decide (s.bus.frameLength ≤ i.val) }
  else if new.enabled ∧ l.state = .active then
    match l.offered with
    | some o =>
      (s.onLink i fun l => { l with features := resolve new o }).onCues
        (CueGenerator.dropEntries old.corner i (staleInfo (resolve new o) new))
    | none => s
  else s

/-- A station transfer that is made: the pending copy becomes active and is handed on in the order of R11. -/
def State.transferStation (i : Station) (new : StationProfile) (s : State) : State :=
  let old := s.store.station i
  let s1 := s.transferLink i new
  let s2 := s1.onStore fun p => { p with stations := put p.stations i { active := new, pending := none } }
  let s3 := if new.crossing = old.crossing then s2 else s2.onTable fun t => t.reassign i old.crossing
  let s4 :=
    if new.corner = old.corner then s3
    else
      (s3.onCues (CueGenerator.dropEntries old.corner i fun _ => true)).onCues fun g =>
        g.onStation i fun x => { x with armed := x.armed || x.covering, covering := false }
  s4.onLevel i fun x =>
    { x.setRange new s.store.mode with windowOpen := x.windowOpen && decide (new.corner = old.corner) }

/-- The transfer test of a station at a frame start (R10). -/
def State.testStation (i : Station) (s : State) : State :=
  match (look s.store.stations i).pending with
  | none => s
  | some new => if s.stationTransferPoint i then s.transferStation i new else s

/-! ## Frames (R160, R161, R174) -/

/-- What a new frame length does to one station (R161). -/
def State.fitStation (n : Nat) (s : State) (i : Station) : State :=
  let l := look s.bus.stations i
  if l.state = .disabled then s
  else if n ≤ i.val then
    (if l.state = .active then s.leaveActive i else s).onLink i fun l =>
      { l with state := .absent, beyond := true, misses := 0 }
  else if l.beyond then s.onLink i fun l => { l with state := .absent, beyond := false }
  else s

/-- Step 1 of R160: a held frame length is put in force. One equal to the length in force changes nothing else
(R15, R161). -/
def State.applyLength (s : State) : State :=
  match s.store.nextFrameLength with
  | none => s
  | some n =>
    let s1 := s.onStore fun p => { p with nextFrameLength := none }
    if n = s.bus.frameLength then s1
    else (List.finRange 48).foldl (State.fitStation n) (s1.onBus fun b => { b with frameLength := n })

/-- Steps 3 and 4 of R160: the frame number, then slot 0 with the raised marks, which are then cleared (R119). A slot that no
report and no MISSED_SLOT has ended is dropped without a miss (log 33). -/
def State.sendSlotZero (s : State) : State :=
  let number := if s.bus.firstFrame then s.bus.frameNumber else s.bus.frameNumber + 1
  (s.onBus fun b =>
    { b with frameNumber := number, firstFrame := false, frameTime := 0, slot := none,
             sent := slotZero number fun k => (look s.cues.corners k).mark }).onCues fun g =>
    { g with corners := mapAll (fun _ x => { x with mark := false }) g.corners }

/-- A frame start (R160). Station transfers are tested in ascending order (log 14). -/
def State.startFrame (s : State) : State :=
  ((List.finRange 48).foldl (fun s i => s.testStation i) s.applyLength).sendSlotZero

/-- Step 2 of R174 at the Cue Generator: the ACTIVE stations leave together (R139). -/
def State.leaveAllCues (s : State) : State :=
  s.onCues (CueGenerator.leaveAll s.store (members fun i : Station => decide (s.linkState i = .active)))

/-- The section reset, up to the new frame: steps 2 to 4 of R174 for one station, but for what it leaves at the Cue Generator. -/
def State.sectionStation (s : State) (i : Station) : State :=
  let s1 := if s.linkState i = .active then (s.abandonPress i).onLevel i LevelState.leave else s.abandonPress i
  s1.onLink i fun l =>
    if (s.store.station i).enabled then
      { l with state := .absent, beyond := decide (s.bus.frameLength ≤ i.val), misses := 0 }
    else { l with state := .disabled, beyond := false, misses := 0 }

/-- The section reset (R174): the ACTIVE stations leave the Cue Generator together, the rest of it is done for every station in
turn, then a new frame numbered 0 starts at once (logs 14, 29). -/
def State.sectionReset (s : State) : State :=
  (((List.finRange 48).foldl State.sectionStation (s.onBus fun b => { b with slot := none }).leaveAllCues).onBus fun b =>
    { b with frameNumber := 0, firstFrame := true }).startFrame

end Sys2Proof.Machine
end

