-- ==== Sys2Proof/Machine/Clock.lean ====
section
/-! DEFINITION. The part's own clock (log 1, DESIGN CHOICE): what one millisecond adds to every measure of time, and which of
the part's events then fall due (R16, R69, R70, R87, R91, R114, R118, R135, R136, R159). -/

namespace Sys2Proof.Machine

/-! ## One millisecond -/

/-- A GRANTED record's window runs down (R69). -/
def CallState.passTime (x : CallState) : CallState :=
  match x with
  | .waiting => .waiting
  | .granted remaining => .granted (remaining - 1)
  | .walking start => .walking start
  | .clearing start => .clearing start

/-- Steady times and a running undecodable measure grow (R85, R91). A limit that lapsed belongs to the moment that has passed
(log 30). -/
def AspectState.passTime (x : AspectState) : AspectState :=
  { x with wSteady := x.wSteady + 1, dSteady := x.dSteady + 1,
           undecodable := x.undecodable.map fun m => { m with time := m.time + 1 },
           limitLapsed := false }

/-- The software timer runs down (R114). A run-out that lapsed belongs to the moment that has passed (log 30). -/
def HoldUnit.passTime (h : HoldUnit) : HoldUnit :=
  { h with timer := h.timer.map fun t => t - 1, expiryLapsed := false }

/-- A playback's time since start grows, and a gap runs down (R130). -/
def Channel.passTime (x : Channel) : Channel :=
  match x with
  | .idle => .idle
  | .playing e since n => .playing e (since + 1) n
  | .gap remaining => .gap (remaining - 1)

/-- The locator phases and the speech channels move on (R117, R130). A play limit that lapsed belongs to the moment that has
passed (log 30). -/
def CueGenerator.passTime (g : CueGenerator) : CueGenerator :=
  { g with corners := mapAll (fun _ x => { x with elapsed := x.elapsed + 1 }) g.corners
           speech := mapAll (fun _ v => { v with channel := v.channel.passTime, limitLapsed := false }) g.speech }

/-- One millisecond passes. -/
def State.passTime (s : State) : State :=
  { s with
    table := { s.table with
      records := mapAll (fun _ r => r.map fun r => { r with state := r.state.passTime }) s.table.records }
    aspects := mapAll (fun _ x => x.passTime) s.aspects
    holds := s.holds.passTime
    cues := s.cues.passTime
    bus := { s.bus with frameTime := s.bus.frameTime + 1 }
    subTime := (s.subTime + 1) % Config.streetPeriod }

/-! ## Events that fall due -/

/-- A command that falls due where its condition holds. -/
def dueIf (b : Bool) (i : Instr) : List Instr := if b then [i] else []

/-- Crossing c has a steady time at a mark (R87). -/
def State.dueSteady (s : State) (c : Crossing) : List Instr :=
  let x := look s.aspects c
  let settle := (s.store.crossing c).settle
  dueIf (x.wSteady == settle) (.steadyTimeReached c .walk .settle) ++
    dueIf (x.dSteady == settle) (.steadyTimeReached c .dontWalk .settle) ++
    dueIf (x.wSteady == Config.flashLoss) (.steadyTimeReached c .walk .flashLoss) ++
    dueIf (x.dSteady == Config.flashLoss) (.steadyTimeReached c .dontWalk .flashLoss)

/-- The grant window of crossing c has run out (R70). -/
def State.windowOut (s : State) (c : Crossing) : Bool :=
  anyWhere fun i : RecordSlot => recordIs c (fun x => x == .granted 0) (look s.table.records i)

/-- A separation gap that has run out (R136). -/
def Channel.gapOut (x : Channel) : Bool :=
  match x with
  | .idle => false
  | .playing _ _ _ => false
  | .gap remaining => remaining == 0

/-- A playback at the play limit (R135). -/
def Channel.limitOut (x : Channel) : Bool :=
  match x with
  | .idle => false
  | .playing _ since _ => decide (Config.playLimit ≤ since)
  | .gap _ => false

/-- The phase of a corner is at its sample point (R118). -/
def CornerPhase.atSample (x : CornerPhase) : Bool := !x.samplePassed && decide (x.offset ≤ x.elapsed)

/-- The frame is over (R159). -/
def BusController.frameOver (b : BusController) : Bool := decide ((b.frameLength + 1) * Config.slotTime ≤ b.frameTime)

/-- The frame is at a slot boundary (R159). -/
def BusController.atBoundary (b : BusController) : Bool := b.frameTime % Config.slotTime == 0

/-- A slot is in progress in which no report has been dealt with (R163). -/
def BusController.slotOpen (b : BusController) : Bool :=
  match b.slot with
  | some x => !x.settled
  | none => false

/-- The frame start, or the station slot, that falls at this moment (R159): slot k begins 2k ms after the frame start and is
station k - 1's. -/
def BusController.dueSlot (b : BusController) : List Instr :=
  if b.frameOver then [.frameStart]
  else if b.atBoundary then
    if h : 1 ≤ b.frameTime / Config.slotTime ∧ b.frameTime / Config.slotTime - 1 < 48 then
      [.stationSlot ⟨b.frameTime / Config.slotTime - 1, h.2⟩]
    else []
  else []

/-- The events that fall due at this millisecond, in the model's one order (log 3, DESIGN CHOICE). -/
def State.due (s : State) : List Instr :=
  dueIf (s.subTime == 0) .streetTimeTick ++
    dueIf (s.bus.atBoundary && s.bus.slotOpen) .missedSlot ++
    (List.finRange 24).flatMap (fun c => s.dueSteady c) ++
    (members fun c : Crossing => (look s.aspects c).atLimit).map Instr.undecodableLimit ++
    (members fun c : Crossing => s.windowOut c).map Instr.grantWindowExpiry ++
    dueIf (s.holds.timer == some 0) .softwareHoldExpiry ++
    (members fun k : Corner => (look s.cues.speech k).channel.gapOut).map Instr.gapEnd ++
    (members fun k : Corner => (look s.cues.speech k).channel.limitOut).map Instr.playLimit ++
    (members fun k : Corner => (look s.cues.corners k).atSample).map Instr.samplePoint ++
    (members fun k : Corner => decide ((look s.cues.corners k).period ≤ (look s.cues.corners k).elapsed)).map
      Instr.periodStart ++
    s.bus.dueSlot

/-- A step on an empty queue (log 1): the first frame after a reset starts at once (R160, log 21); otherwise one millisecond
passes and the events that fall due are queued. -/
def State.idle (s : State) : State :=
  if s.bus.firstFrame then { s with pending := [.frameStart] }
  else { s.passTime with pending := s.passTime.due }

end Sys2Proof.Machine
end

