-- ==== Sys2Proof/Machine/BusEvents.lean ====
section
/-! DEFINITION. The station bus family: RESTART_STATION_BUS, FRAME_START, STATION_TRANSFER, STATION_SLOT, STATION_REPORT,
MISSED_SLOT. -/

namespace Sys2Proof.Machine

/-- RESTART STATION BUS (R174, R189): the section reset, answered OK. -/
def execRestartStationBus (s : State) : Host.Outcome State Fault Refusal := .next (s.sectionReset.answer .ok)

/-- FRAME_START (R160). -/
def execFrameStart (s : State) : Host.Outcome State Fault Refusal := .next s.startFrame

/-- STATION_TRANSFER (R10, R11): the transfer test of one station at a frame start. -/
def execStationTransfer (station : Station) (s : State) : Host.Outcome State Fault Refusal :=
  .next (s.testStation station)

/-- STATION_SLOT (R162). -/
def execStationSlot (station : Station) (s : State) : Host.Outcome State Fault Refusal := .next (s.beginSlot station)

/-- STATION_REPORT (R163). -/
def execStationReport (bytes : List Byte) (s : State) : Host.Outcome State Fault Refusal := .next (s.receive bytes)

/-- MISSED_SLOT (R165). -/
def execMissedSlot (s : State) : Host.Outcome State Fault Refusal := .next s.endSlot

end Sys2Proof.Machine
end

