-- ==== Sys2Proof/Machine/CueEvents.lean ====
section
/-! DEFINITION. The cues and speech family: PERIOD_START, CORNER_TRANSFER, SAMPLE_POINT, SPEECH_START, PLAY_LIMIT, GAP_END. -/

namespace Sys2Proof.Machine

/-- A corner's pending copy becomes active (R13). -/
def Copies.transfer {α : Type} (x : Copies α) : Copies α :=
  match x.pending with
  | some new => { active := new, pending := none }
  | none => x

/-- The transfer of a corner profile at a period start (R13). -/
def State.transferCorner (k : Corner) (s : State) : State :=
  s.onStore fun p => { p with corners := change p.corners k Copies.transfer }

/-- CORNER_TRANSFER (R13). -/
def execCornerTransfer (corner : Corner) (s : State) : Host.Outcome State Fault Refusal :=
  .next (s.transferCorner corner)

/-- A period begins with the profile in force (R118 steps 2, 4 and 6). -/
def CornerPhase.begin (p : CornerProfile) (x : CornerPhase) : CornerPhase :=
  { elapsed := 0, period := p.period, offset := p.offset, samplePassed := false, openClean := true,
    closedClean := x.openClean, mark := true }

/-- The wait acknowledgement of a station at a period start of its corner (R124). -/
def StationCue.nextPeriod (x : StationCue) : StationCue := { x with covering := x.armed, armed := false }

/-- The slew of a corner's ACTIVE stations (R118 step 3, R152). -/
def State.slewCorner (k : Corner) (s : State) : State :=
  { s with levels := mapAll (fun i x =>
      if (s.store.station i).corner = k ∧ s.linkState i = .active then x.slew (s.store.station i) else x) s.levels }

/-- A period start of corner k, its six steps in order (R118). -/
def State.startPeriod (k : Corner) (s : State) : State :=
  let s1 := s.transferCorner k
  (s1.slewCorner k).onCues fun g =>
    { g with corners := change g.corners k (CornerPhase.begin (s1.store.corner k))
             stations := mapAll (fun i x => if (s1.store.station i).corner = k then x.nextPeriod else x) g.stations }

/-- PERIOD_START (R118). -/
def execPeriodStart (corner : Corner) (s : State) : Host.Outcome State Fault Refusal := .next (s.startPeriod corner)

/-- SAMPLE_POINT (R118, R144): the period's sample point is reached, once in a period, and the sample windows of the corner's
stations open. -/
def execSamplePoint (corner : Corner) (s : State) : Host.Outcome State Fault Refusal :=
  if (look s.cues.corners corner).samplePassed then .next s
  else
    .next
      { s.onCues (fun g => g.onCorner corner fun x => { x with samplePassed := true }) with
        levels := mapAll (fun i x =>
          if (s.store.station i).corner = corner then { x with windowOpen := true } else x) s.levels }

/-- SPEECH_START (R134): the start test of a corner. -/
def execSpeechStart (corner : Corner) (s : State) : Host.Outcome State Fault Refusal :=
  .next (s.onCues (CueGenerator.startTest s.store corner))

/-- PLAY_LIMIT (R135): a playback reaches 20 s; nothing where the channel is not PLAYING. -/
def execPlayLimit (corner : Corner) (s : State) : Host.Outcome State Fault Refusal :=
  .next (s.onCues (CueGenerator.limitPlayback s.store corner))

/-- GAP_END (R136): a running separation gap ends; nothing where no gap runs. -/
def execGapEnd (corner : Corner) (s : State) : Host.Outcome State Fault Refusal :=
  .next (s.onCues (CueGenerator.endGap s.store corner))

end Sys2Proof.Machine
end

