-- ==== Sys2Proof/Machine/Reads.lean ====
section
/-! DEFINITION. The requests that read (R180 to R185). A refused read returns the refusal with no fields and clears
nothing (R179). -/

namespace Sys2Proof.Machine

/-- NO REQUEST (R180). -/
def execNoRequest (s : State) : Host.Outcome State Fault Refusal := .next (s.answer .none)

/-- IDENTIFY (R180, R193). -/
def execIdentify (s : State) : Host.Outcome State Fault Refusal := .next (s.respond .ok identifyFields)

/-- READ SUMMARY (R181). -/
def execReadSummary (s : State) : Host.Outcome State Fault Refusal := .next (s.respond .ok s.summaryFields)

/-- The scope of READ CALLS as the crossing asked for, if one is. -/
def CallScope.only (x : CallScope) : Option Crossing :=
  match x with
  | .all => none
  | .one c => some c

/-- READ CALLS (R62, R63, R182): the records asked for, as they stood, and every record listed is then seen. -/
def execReadCalls (scope : Byte) (s : State) : Host.Outcome State Fault Refusal :=
  match codeScope scope with
  | some x => .next ((s.onTable fun t => t.markSeen x.only).respond .ok (s.callsFields x.only))
  | none => .next (s.answer .range)

/-- The four notices of a crossing are cleared by its read (R82, R99, R183). -/
def State.clearCrossingNotices (c : Crossing) (s : State) : State :=
  (s.onAspect c fun x => { x with notice := false }).onGrant c fun g =>
    { g with expired := false, truncated := false, unserved := false }

/-- READ CROSSING (R183). -/
def execReadCrossing (crossing : Byte) (s : State) : Host.Outcome State Fault Refusal :=
  match crossingOf crossing with
  | some c => .next ((s.clearCrossingNotices c).respond .ok (s.crossingFields c))
  | none => .next (s.answer .range)

/-- The three notices of a station are cleared by its read (R33, R173, R184). -/
def State.clearStationNotices (i : Station) (s : State) : State :=
  (s.onLink i fun l => { l with silentNotice := false, joinedNotice := false }).onPress i fun x =>
    { x with stuckNotice := false }

/-- READ STATION (R184). -/
def execReadStation (station : Byte) (s : State) : Host.Outcome State Fault Refusal :=
  match stationOf station with
  | some i => .next ((s.clearStationNotices i).respond .ok (s.stationFields i))
  | none => .next (s.answer .range)

/-- READ CORNER (R185). -/
def execReadCorner (corner : Byte) (s : State) : Host.Outcome State Fault Refusal :=
  match cornerOf corner with
  | some k => .next (s.respond .ok (s.cornerFields k))
  | none => .next (s.answer .range)

end Sys2Proof.Machine
end

