-- ==== Sys2Proof/Machine/System.lean ====
section
/-! DEFINITION. The system family: PART_RESET, RESET and STREET_TIME_TICK. -/

namespace Sys2Proof.Machine

/-- The part reset: every block in its part-reset state (R1, R18, R38, R65, R85, R103, R117, R122, R130, R142, R158, R176), with
the lamp lines and hold lines as sensed at the reset, and each hold line that is active activated at once (R103). The
queue of commands waiting is the sender's, and stays. -/
def State.partReset (s : State) : State :=
  State.senseLines
    { State.reset with
      aspects := mapAll (fun c _ => AspectState.reset (look s.aspects c).w (look s.aspects c).d) s.aspects
      holds := HoldUnit.reset s.holds.levelA s.holds.levelB
      pending := s.pending }

/-- PART_RESET (R1): power-on or the reset input. -/
def execPartReset (s : State) : Host.Outcome State Fault Refusal := .next s.partReset

/-- RESET (R189): a part reset within the taking of the request; the OK response is lost, and the pending response is
NONE (R176). -/
def execReset (s : State) : Host.Outcome State Fault Refusal := .next (s.answer .ok).partReset

/-- STREET_TIME_TICK (R16): street time advances by one and returns to 0 after 2^32 - 1. -/
def execStreetTimeTick (s : State) : Host.Outcome State Fault Refusal :=
  .next (s.onStore fun p => { p with streetTime := p.streetTime + 1 })

end Sys2Proof.Machine
end

