-- ==== Sys2Proof/Machine/Requests.lean ====
section
/-! DEFINITION. The requests that act on service and holds: GRANT, CANCEL, CLEAR FAULT, SET HOLD, RELEASE LINE HOLD
(R186, R187). A number or code out of range is refused with RANGE and has no effect (R178). -/

namespace Sys2Proof.Machine

/-- OK, or ADJUSTED where a numeric field was brought into range (R179). -/
def okOr (adjusted : Bool) : Status := if adjusted then .adjusted else .ok

/-- A GRANT for crossing c with a window in s, after R178: the checks of R66 in order, R67 and R68. Over an accepted recall walk
that has a record, check 3 gives BUSY, where R94 says STATE: the model follows R66, the owning chapter's rule (log 31). -/
def State.grant (c : Crossing) (window : Nat) (s : State) : State :=
  let w := clamp Config.windowMin Config.windowMax window
  if (s.store.crossing c).enabled = false then s.answer .state
  else if (look s.aspects c).fault.isSome then s.answer .fault
  else if (s.table.servingSlot c).isSome then s.answer .busy
  else if (look s.aspects c).observed ≠ .dontWalk then s.answer .state
  else
    match s.table.waitingSlot c with
    | some i =>
      ((s.onTable fun t => t.edit i (moveTo (.granted (w * 1000)))).findGate c).answer (okOr (w != window))
    | none =>
      match s.table.makeRecall s.store c (.granted (w * 1000)) with
      | some t => (State.findGate c { s with table := t }).answer (okOr (w != window))
      | none => s.answer .full

/-- GRANT (R66). -/
def execGrant (crossing window : Byte) (s : State) : Host.Outcome State Fault Refusal :=
  match crossingOf crossing with
  | some c => .next (s.grant c window.toNat)
  | none => .next (s.answer .range)

/-- CANCEL of waiting demand (R60). -/
def State.cancelWaiting (c : Crossing) (s : State) : State :=
  match s.table.waitingSlot c with
  | some i => ((s.removeRecord i).settleCrossing c).answer .ok
  | none =>
    match look s.table.memos c with
    | some _ => (s.onTable fun t => t.clearMemo c).answer .ok
    | none => s.answer .none

/-- CANCEL of service (R61). The removal is whole, the freed record's allocation to a memo included, before the crossing's transfer
point is tested (log 35). -/
def State.cancelServing (c : Crossing) (s : State) : State :=
  match s.table.servingSlot c with
  | none => s.answer .none
  | some _ =>
    match s.table.grantedSlot c with
    | some i => ((s.removeRecord i).settleCrossing c).answer .ok
    | none => s.answer .state

/-- CANCEL (R60, R61). -/
def execCancel (crossing target : Byte) (s : State) : Host.Outcome State Fault Refusal :=
  match crossingOf crossing, codeTarget target with
  | some c, some .waiting => .next (s.cancelWaiting c)
  | some c, some .serving => .next (s.cancelServing c)
  | _, _ => .next (s.answer .range)

/-- A fault and its further-fault flag are cleared; a running undecodable measure restarts from 0 (R91, R98), and a
limit that it had reached at this moment lapses (log 30). -/
def AspectState.clearFault (x : AspectState) : AspectState :=
  { x with fault := none, further := false,
           undecodable := x.undecodable.map fun _ => { time := 0, acted := false },
           limitLapsed := x.limitLapsed || x.atLimit }

/-- CLEAR FAULT (R98). -/
def execClearFault (crossing : Byte) (s : State) : Host.Outcome State Fault Refusal :=
  match crossingOf crossing with
  | some c =>
    match (look s.aspects c).fault with
    | some _ =>
      if (look s.aspects c).observed = .dontWalk then .next ((s.onAspect c AspectState.clearFault).answer .ok)
      else .next (s.answer .state)
    | none => .next (s.answer .none)
  | none => .next (s.answer .range)

/-- A SET HOLD after R178 (R113). -/
def State.setHold (set : List Crossing) (seconds : Nat) (s : State) : State :=
  if seconds = 0 then
    match s.holds.timer with
    | some _ => ((s.onHolds fun h => h.lapseExpiry.stopSoftware).findGates).answer .ok
    | none => ((s.onHolds fun h => h.lapseExpiry.stopSoftware).findGates).answer .none
  else
    ((s.onHolds fun h => h.lapseExpiry.startSoftware set (min seconds Config.softwareHoldMax)).findGates).answer
      (okOr (min seconds Config.softwareHoldMax != seconds))

/-- SET HOLD (R113, R187): member n of the set is bit n; a set naming any of 24..31 is refused with RANGE. -/
def execSetHold (crossings : BitVec 32) (seconds : Word16) (s : State) : Host.Outcome State Fault Refusal :=
  if crossings.toNat < 2 ^ 24 then
    .next (s.setHold (members fun c : Crossing => crossings.getLsbD c.val) seconds.toNat)
  else .next (s.answer .range)

/-- A RELEASE LINE HOLD after R178 (R109). -/
def State.releaseHold (l : HoldLine) (s : State) : State :=
  if lineActive s.store s.holds l then s.answer .state
  else if s.holds.anyFlag l then ((s.onHolds (HoldUnit.clearLine l)).findGates).answer .ok
  else s.answer .none

/-- RELEASE LINE HOLD (R109, R187). -/
def execReleaseLineHold (line : Byte) (s : State) : Host.Outcome State Fault Refusal :=
  match codeLine line with
  | some l => .next (s.releaseHold l)
  | none => .next (s.answer .range)

end Sys2Proof.Machine
end

