-- ==== Sys2Proof/Machine/Writes.lean ====
section
/-! DEFINITION. The requests that write: SET STREET MODE, the profile writes and WRITE STREET (R2, R3, R9, R14, R15,
R188). -/

namespace Sys2Proof.Machine

/-- A street mode put in force; where it differs, every effective range is computed again and every output level clamped
(R14, R149). -/
def State.setMode (m : StreetMode) (s : State) : State :=
  if s.store.mode = m then s else (s.onStore fun p => { p with mode := m }).rangeAll

/-- SET STREET MODE (R14). -/
def execSetStreetMode (mode : Byte) (s : State) : Host.Outcome State Fault Refusal :=
  match codeMode mode with
  | some m => .next ((s.setMode m).answer .ok)
  | none => .next (s.answer .range)

/-- WRITE CROSSING (R2 to R5): the write becomes the pending copy, and transfers at once where the transfer point holds. -/
def execWriteCrossing (crossing : Byte) (fields : CrossingFields) (s : State) : Host.Outcome State Fault Refusal :=
  match crossingOf crossing, crossingProfileOf fields with
  | some c, some (new, adjusted) =>
    .next
      (((s.onStore fun p =>
          { p with crossings := change p.crossings c fun x => { x with pending := some new } }).settleCrossing c).answer
        (okOr adjusted))
  | _, _ => .next (s.answer .range)

/-- The profile a station is counted by: its pending copy where one exists, its active copy otherwise (R9). -/
def Copies.counted {α : Type} (x : Copies α) : α := x.pending.getD x.active

/-- Stations other than i counted at a crossing (R9). -/
def ProfileStore.countAtCrossing (p : ProfileStore) (i : Station) (c : Crossing) : Nat :=
  countWhere fun j : Station => j != i && (look p.stations j).counted.crossing == c

/-- Stations other than i counted at a corner (R9). -/
def ProfileStore.countAtCorner (p : ProfileStore) (i : Station) (k : Corner) : Nat :=
  countWhere fun j : Station => j != i && (look p.stations j).counted.corner == k

/-- Whether a write to station i would break the assignment limits (R9). -/
def ProfileStore.breaksLimits (p : ProfileStore) (i : Station) (new : StationProfile) : Bool :=
  decide (Config.stationsPerCrossing < p.countAtCrossing i new.crossing + 1) ||
    decide (Config.stationsPerCorner < p.countAtCorner i new.corner + 1)

/-- WRITE STATION (R2, R3, R8, R9): the write becomes the pending copy until a frame start at which R10 holds. -/
def execWriteStation (station : Byte) (fields : StationFields) (s : State) : Host.Outcome State Fault Refusal :=
  match stationOf station, stationProfileOf fields with
  | some i, some (new, adjusted) =>
    if s.store.breaksLimits i new then .next (s.answer .limit)
    else
      .next
        ((s.onStore fun p =>
            { p with stations := change p.stations i fun x => { x with pending := some new } }).answer (okOr adjusted))
  | _, _ => .next (s.answer .range)

/-- WRITE CORNER (R2, R3, R12): the write becomes the pending copy until the corner's next period start (R13). -/
def execWriteCorner (corner : Byte) (fields : CornerFields) (s : State) : Host.Outcome State Fault Refusal :=
  match cornerOf corner, cornerProfileOf fields with
  | some k, some (new, adjusted) =>
    .next
      ((s.onStore fun p =>
          { p with corners := change p.corners k fun x => { x with pending := some new } }).answer (okOr adjusted))
  | _, _ => .next (s.answer .range)

/-- A WRITE STREET whose codes are defined (R14, R15, R111): the line settings act at once, line A then line B, and the frame
length is held. The gates are found once, after both lines (log 32). -/
def State.writeStreet (lineA lineB : LineSettings) (frameLength : Nat) (s : State) : State :=
  let s1 := s.onStore fun p =>
    { p with lineA := lineA, lineB := lineB,
             nextFrameLength := some (clamp Config.frameMin Config.frameMax frameLength) }
  (((s1.applyLine s.store .a).applyLine s.store .b).findGates).answer
    (okOr (clamp Config.frameMin Config.frameMax frameLength != frameLength))

/-- WRITE STREET (R14, R15, R111). -/
def execWriteStreet (levelA modeA levelB modeB frameLength : Byte) (s : State) : Host.Outcome State Fault Refusal :=
  match codeLevel levelA, codeRelease modeA, codeLevel levelB, codeRelease modeB with
  | some la, some ma, some lb, some mb =>
    .next
      (s.writeStreet { activeLevel := la, releaseMode := ma } { activeLevel := lb, releaseMode := mb }
        frameLength.toNat)
  | _, _, _, _ => .next (s.answer .range)

end Sys2Proof.Machine
end

