-- ==== Sys2Proof/Machine/Frames.lean ====
section
/-! DEFINITION. The framing of the control link: REQUEST_FRAME_REFUSED and the checks of R177 on the bytes a select took in. -/

namespace Sys2Proof.Machine

/-- The request a passing frame spells is dealt with (R177, R178). `decodeFrame` answers requests only; of the part's own
events nothing is dealt with here. -/
def dealRequest (i : Instr) (s : State) : Host.Outcome State Fault Refusal :=
  match i with
  | .noRequest => execNoRequest s
  | .identify => execIdentify s
  | .readSummary => execReadSummary s
  | .readCalls scope => execReadCalls scope s
  | .readCrossing crossing => execReadCrossing crossing s
  | .readStation station => execReadStation station s
  | .readCorner corner => execReadCorner corner s
  | .grant crossing window => execGrant crossing window s
  | .cancel crossing target => execCancel crossing target s
  | .clearFault crossing => execClearFault crossing s
  | .setHold crossings seconds => execSetHold crossings seconds s
  | .releaseLineHold line => execReleaseLineHold line s
  | .setStreetMode mode => execSetStreetMode mode s
  | .writeCrossing crossing fields => execWriteCrossing crossing fields s
  | .writeStation station fields => execWriteStation station fields s
  | .writeCorner corner fields => execWriteCorner corner fields s
  | .writeStreet levelA modeA levelB modeB frameLength => execWriteStreet levelA modeA levelB modeB frameLength s
  | .restartStationBus => execRestartStationBus s
  | .reset => execReset s
  | .partReset => .next s
  | .streetTimeTick => .next s
  | .requestFrameRefused _ => .next s
  | .frameStart => .next s
  | .stationTransfer _ => .next s
  | .stationSlot _ => .next s
  | .stationReport _ => .next s
  | .missedSlot => .next s
  | .lampLineChange _ _ _ => .next s
  | .steadyTimeReached _ _ _ => .next s
  | .undecodableLimit _ => .next s
  | .memoAllocation => .next s
  | .crossingTransfer _ => .next s
  | .grantWindowExpiry _ => .next s
  | .holdLineChange _ _ => .next s
  | .cycleWaitComplete _ => .next s
  | .softwareHoldExpiry => .next s
  | .periodStart _ => .next s
  | .cornerTransfer _ => .next s
  | .samplePoint _ => .next s
  | .speechStart _ => .next s
  | .playLimit _ => .next s
  | .gapEnd _ => .next s

/-- REQUEST_FRAME_REFUSED (R177): a frame that fails a check is answered UNKNOWN or LENGTH and has no effect. A frame that passes
is dealt with as the request it spells (log 9). -/
def execRequestFrameRefused (frame : List Byte) (s : State) : Host.Outcome State Fault Refusal :=
  match decodeFrame frame with
  | .error .unknown => .next (s.answer .unknown)
  | .error .length => .next (s.answer .length)
  | .ok i => dealRequest i s

end Sys2Proof.Machine
end

