-- ==== Sys2Proof/Machine/HoldEvents.lean ====
section
/-! DEFINITION. The holds family's events: HOLD_LINE_CHANGE, CYCLE_WAIT_COMPLETE, SOFTWARE_HOLD_EXPIRY. -/

namespace Sys2Proof.Machine

/-- HOLD_LINE_CHANGE (R104). -/
def execHoldLineChange (line : HoldLine) (level : Level) (s : State) : Host.Outcome State Fault Refusal :=
  .next (s.changeLevel line level).findGates

/-- CYCLE_WAIT_COMPLETE (R108): over the aspect DONT_WALK, the crossing's cycle waits complete (log 24). -/
def execCycleWaitComplete (crossing : Crossing) (s : State) : Host.Outcome State Fault Refusal :=
  if (look s.aspects crossing).observed = .dontWalk then .next ((s.completeWaits crossing).findGate crossing)
  else .next s

/-- SOFTWARE_HOLD_EXPIRY (R114): a running software timer runs out; nothing where it is stopped, and nothing where a SET HOLD
was taken first at the moment of the run-out (log 30). -/
def execSoftwareHoldExpiry (s : State) : Host.Outcome State Fault Refusal :=
  if s.holds.expiryLapsed then .next (s.onHolds fun h => { h with expiryLapsed := false })
  else
    match s.holds.timer with
    | some _ => .next (s.onHolds HoldUnit.stopSoftware).findGates
    | none => .next s

end Sys2Proof.Machine
end

