-- ==== Sys2Proof/Machine/LampEvents.lean ====
section
/-! DEFINITION. The lamps and service family: LAMP_LINE_CHANGE, STEADY_TIME_REACHED, UNDECODABLE_LIMIT, MEMO_ALLOCATION,
CROSSING_TRANSFER, GRANT_WINDOW_EXPIRY. A time-driven event takes its moment as come (log 2). -/

namespace Sys2Proof.Machine

/-- LAMP_LINE_CHANGE (R86). -/
def execLampLineChange (crossing : Crossing) (w d : Bool) (s : State) : Host.Outcome State Fault Refusal :=
  .next (((s.onAspect crossing (AspectState.changeLines w d)).retest crossing).settleCrossing crossing)

/-- The time of a steadiness mark: the settle time of a profile, or 1500 ms (R87). -/
def markTime (m : SteadyMark) (settle : Nat) : Nat :=
  match m with
  | .settle => settle
  | .flashLoss => Config.flashLoss

/-- The steady time of a line has reached a time (R87, log 2). -/
def AspectState.reach (line : LampLine) (time : Nat) (x : AspectState) : AspectState :=
  match line with
  | .walk => { x with wSteady := max x.wSteady time }
  | .dontWalk => { x with dSteady := max x.dSteady time }

/-- STEADY_TIME_REACHED (R87). -/
def execSteadyTimeReached (crossing : Crossing) (line : LampLine) (mark : SteadyMark) (s : State) :
    Host.Outcome State Fault Refusal :=
  .next
    (((s.onAspect crossing (AspectState.reach line (markTime mark (s.store.crossing crossing).settle))).retest
      crossing).settleCrossing crossing)

/-- What the undecodable limit does at a crossing (R91): UNDECODABLE, a further fault, or nothing where it is disabled. -/
def State.limitReached (c : Crossing) (s : State) : State :=
  if (s.store.crossing c).enabled then
    match (look s.aspects c).fault with
    | none => s.raiseFault c .undecodable
    | some _ => s.furtherFault c
  else s

/-- The undecodable limit at a crossing (R91): a running measure reaches 3000 ms; it acts once on a stretch. -/
def State.takeLimit (c : Crossing) (s : State) : State :=
  match (look s.aspects c).undecodable with
  | none => s
  | some m =>
    if m.acted then s
    else
      ((s.onAspect c fun x =>
          { x with undecodable := some { time := max m.time Config.undecodableLimit, acted := true } }).limitReached
        c).settleCrossing c

/-- UNDECODABLE_LIMIT (R91). A limit before which a CLEAR FAULT restarted the measure at the same moment (R98) only loses its mark
(log 30). -/
def execUndecodableLimit (crossing : Crossing) (s : State) : Host.Outcome State Fault Refusal :=
  if (look s.aspects crossing).limitLapsed then .next (s.onAspect crossing fun x => { x with limitLapsed := false })
  else .next (s.takeLimit crossing)

/-- MEMO_ALLOCATION (R54): a free record goes to the oldest memo. -/
def execMemoAllocation (s : State) : Host.Outcome State Fault Refusal :=
  .next (s.onTable fun t => t.allocate s.store)

/-- CROSSING_TRANSFER (R5, R6): a pending copy transfers where the transfer point holds. -/
def execCrossingTransfer (crossing : Crossing) (s : State) : Host.Outcome State Fault Refusal :=
  .next (s.settleCrossing crossing)

/-- GRANT_WINDOW_EXPIRY (R70): the GRANTED record returns to WAITING and GRANT_EXPIRED is set; nothing where no window runs. -/
def execGrantWindowExpiry (crossing : Crossing) (s : State) : Host.Outcome State Fault Refusal :=
  match s.table.grantedSlot crossing with
  | some i =>
    .next
      (((s.onTable fun t => t.edit i (moveTo .waiting)).onGrant crossing fun g =>
        { g with expired := true }).settleCrossing crossing)
  | none => .next s

end Sys2Proof.Machine
end

