-- ==== Sys2Proof/Machine/Dispatch.lean ====
section
/-! DEFINITION. One arm for each command of the opcode table. -/

namespace Sys2Proof.Machine

def exec (i : Instr) (s : State) : Host.Outcome State Fault Refusal :=
  match i with
  | .partReset => Sys2Proof.Machine.execPartReset s
  | .streetTimeTick => Sys2Proof.Machine.execStreetTimeTick s
  | .requestFrameRefused frame => Sys2Proof.Machine.execRequestFrameRefused frame s
  | .noRequest => Sys2Proof.Machine.execNoRequest s
  | .identify => Sys2Proof.Machine.execIdentify s
  | .readSummary => Sys2Proof.Machine.execReadSummary s
  | .readCalls scope => Sys2Proof.Machine.execReadCalls scope s
  | .readCrossing crossing => Sys2Proof.Machine.execReadCrossing crossing s
  | .readStation station => Sys2Proof.Machine.execReadStation station s
  | .readCorner corner => Sys2Proof.Machine.execReadCorner corner s
  | .grant crossing window => Sys2Proof.Machine.execGrant crossing window s
  | .cancel crossing target => Sys2Proof.Machine.execCancel crossing target s
  | .clearFault crossing => Sys2Proof.Machine.execClearFault crossing s
  | .setHold crossings seconds => Sys2Proof.Machine.execSetHold crossings seconds s
  | .releaseLineHold line => Sys2Proof.Machine.execReleaseLineHold line s
  | .setStreetMode mode => Sys2Proof.Machine.execSetStreetMode mode s
  | .writeCrossing crossing fields => Sys2Proof.Machine.execWriteCrossing crossing fields s
  | .writeStation station fields => Sys2Proof.Machine.execWriteStation station fields s
  | .writeCorner corner fields => Sys2Proof.Machine.execWriteCorner corner fields s
  | .writeStreet levelA modeA levelB modeB frameLength => Sys2Proof.Machine.execWriteStreet levelA modeA levelB modeB frameLength s
  | .restartStationBus => Sys2Proof.Machine.execRestartStationBus s
  | .reset => Sys2Proof.Machine.execReset s
  | .frameStart => Sys2Proof.Machine.execFrameStart s
  | .stationTransfer station => Sys2Proof.Machine.execStationTransfer station s
  | .stationSlot station => Sys2Proof.Machine.execStationSlot station s
  | .stationReport bytes => Sys2Proof.Machine.execStationReport bytes s
  | .missedSlot => Sys2Proof.Machine.execMissedSlot s
  | .lampLineChange crossing w d => Sys2Proof.Machine.execLampLineChange crossing w d s
  | .steadyTimeReached crossing line mark => Sys2Proof.Machine.execSteadyTimeReached crossing line mark s
  | .undecodableLimit crossing => Sys2Proof.Machine.execUndecodableLimit crossing s
  | .memoAllocation => Sys2Proof.Machine.execMemoAllocation s
  | .crossingTransfer crossing => Sys2Proof.Machine.execCrossingTransfer crossing s
  | .grantWindowExpiry crossing => Sys2Proof.Machine.execGrantWindowExpiry crossing s
  | .holdLineChange line level => Sys2Proof.Machine.execHoldLineChange line level s
  | .cycleWaitComplete crossing => Sys2Proof.Machine.execCycleWaitComplete crossing s
  | .softwareHoldExpiry => Sys2Proof.Machine.execSoftwareHoldExpiry s
  | .periodStart corner => Sys2Proof.Machine.execPeriodStart corner s
  | .cornerTransfer corner => Sys2Proof.Machine.execCornerTransfer corner s
  | .samplePoint corner => Sys2Proof.Machine.execSamplePoint corner s
  | .speechStart corner => Sys2Proof.Machine.execSpeechStart corner s
  | .playLimit corner => Sys2Proof.Machine.execPlayLimit corner s
  | .gapEnd corner => Sys2Proof.Machine.execGapEnd corner s

end Sys2Proof.Machine
end

