-- ==== Sys2Proof/Safety.lean ====
section
/-! DEFINITION. What a safe run is: the part never stops, and the laws the spec states of it hold in every state. Each law is a
predicate on one state; "as a law of the part" is the spec's phrase. -/

namespace Sys2Proof.Machine

/-- k steps from s answer a next state each. -/
def RunsOn (k : Nat) (s : State) : Prop := ∃ t, Sys2Proof.core.run k s = .next t

/-! ## What statements are made of -/

/-- Every other entry of a table stands as it was. -/
def Beside {α : Type} {n : Nat} (v w : Vector α n) (i : Fin n) : Prop := ∀ j, j ≠ i → look w j = look v j

/-- Place i holds a record of crossing c. -/
def RecordAt (t : CallTable) (c : Crossing) (i : RecordSlot) (r : CallRecord) : Prop :=
  look t.records i = some r ∧ r.crossing = c

/-- Crossing c has a record in a state p accepts. -/
def HasRecord (t : CallTable) (c : Crossing) (p : CallState → Bool) : Prop :=
  ∃ i r, RecordAt t c i r ∧ p r.state = true

/-- Place i holds the one record of crossing c in a state p accepts. -/
def OnlyRecord (t : CallTable) (c : Crossing) (p : CallState → Bool) (i : RecordSlot) (r : CallRecord) : Prop :=
  RecordAt t c i r ∧ p r.state = true ∧ ∀ j q, RecordAt t c j q → p q.state = true → j = i

/-- Station i joins a requesting set: it stays as it is where the station is in it or four others are, and gains the station
otherwise (R42). -/
def JoinsSet (i : Station) (old new : List Station) : Prop :=
  if i ∈ old ∨ 4 ≤ old.length then new = old else new.Perm (i :: old)

/-- Crossing c's memo is the oldest: the largest age, and of equal ages the lower crossing (R54). -/
def OldestMemo (now : StreetTime) (t : CallTable) (c : Crossing) (m : Memo) : Prop :=
  look t.memos c = some m ∧ ∀ d m', look t.memos d = some m' →
    ageOf now m'.since < ageOf now m.since ∨ (ageOf now m'.since = ageOf now m.since ∧ c ≤ d)

/-- Some record is free (R35). -/
def HasFree (t : CallTable) : Prop := ∃ i : RecordSlot, look t.records i = none

/-- The serving group: GRANTED, WALKING, CLEARING (R36). -/
def CallState.isServing (x : CallState) : Bool := !x.isWaiting

/-- What the activation of a line leaves of a crossing's hold flags (R105). -/
def HoldFlags.Activated (p : CrossingProfile) (l : HoldLine) (f g : HoldFlags) : Prop :=
  (g.flag l = true ↔ f.flag l = true ∨ (p.enabled = true ∧ p.responds l = true)) ∧ g.wait l = false

/-- What a line's going INACTIVE under a release mode leaves of a crossing's hold flags (R106, R107, R109). -/
def HoldFlags.Released (mode : ReleaseMode) (a : Aspect) (l : HoldLine) (f g : HoldFlags) : Prop :=
  match mode with
  | .level => g.flag l = false ∧ g.wait l = false
  | .cycle =>
    (f.flag l = false → g = f) ∧
      (f.flag l = true →
        (a = .dontWalk ∨ a = .dark ∨ a = .unknown → g.flag l = false ∧ g.wait l = false) ∧
          (a = .walk ∨ a = .clearance ∨ a = .conflict → g.flag l = true ∧ g.wait l = true))
  | .latch => g = f

/-- The other line's flag and wait, and flag S, stand. -/
def HoldFlags.BesideLine (l : HoldLine) (f g : HoldFlags) : Prop :=
  (∀ m, m ≠ l → g.flag m = f.flag m ∧ g.wait m = f.wait m) ∧ g.s = f.s

/-- A crossing profile may transfer now (R5). -/
def AtTransferPoint (s : State) (c : Crossing) : Prop :=
  (s.store.crossing c).enabled = false ∨
    (¬ HasRecord s.table c CallState.isServing ∧
      ((look s.aspects c).observed = .dontWalk ∨ (look s.aspects c).observed = .dark ∨
        (look s.aspects c).observed = .unknown))

/-- A station profile may transfer at a frame start (R10). -/
def StationAtRest (s : State) (i : Station) : Prop :=
  ¬ HasRecord s.table (s.store.station i).crossing CallState.isServing ∧
    (∀ e since n, (look s.cues.speech (s.store.station i).corner).channel = .playing e since n → e.station ≠ i) ∧
    (look s.press i).phase = .idle

/-- A slot is in progress for station i, in which no report has been dealt with; the station's link state when it began was x, and
`playback` is the playback whose speech its command carried (log 10, log 19). -/
def InSlot (s : State) (i : Station) (x : LinkState) (playback : Option Nat) : Prop :=
  s.bus.slot = some { station := i, linkAtStart := x, playback := playback, settled := false }

/-- A level range by street mode: the lower of maximum level and night cap by NIGHT (R148). -/
def IsRange (p : StationProfile) (m : StreetMode) (lo hi : Nat) : Prop :=
  (m = .day → hi = p.maxLevel) ∧ (m = .night → hi = min p.maxLevel p.nightCap) ∧ lo = min p.minLevel hi

/-- From s to t, a fault is raised on crossing c, whose lamps' state was x (R95, R81): what it leaves of the lamps' state, of the
unrecorded walk and of the serving record. -/
def FaultRaised (s : State) (c : Crossing) (kind : FaultKind) (x : AspectState) (t : State) : Prop :=
  look t.aspects c = { x with fault := some kind, further := false, notice := true } ∧ Beside s.aspects t.aspects c ∧
    look t.grants c = { look s.grants c with unrecorded := .none } ∧ Beside s.grants t.grants c ∧
    (¬ HasRecord s.table c CallState.isServing → t.table = s.table) ∧
    ∀ k r, OnlyRecord s.table c CallState.isServing k r →
      t.table =
        if r.state.isGranted then
          { s.table with records := put s.table.records k (some { r with state := .waiting, seen := false }) }
        else s.table.remove s.store k

/-- Press y is press x abandoned (R32): IDLE with nothing of the press left and no button fault, the release age too long ago to
compare, an OPEN last entry ABANDONED without a release stamp; the last point, the previous entry and a STUCK notice stand. -/
def PressAbandoned (x y : PressState) : Prop :=
  y = { x with
        phase := .idle, stamp := none, heldTime := 0, outcome := none, doublePending := false
        buttonFault := false, releaseAge := 32768, lastEntry := y.lastEntry } ∧
    (x.lastEntry = none → y.lastEntry = none) ∧
    ∀ e, x.lastEntry = some e →
      (e.ending = .opened → y.lastEntry = some { e with release := none, ending := .abandoned }) ∧
        (e.ending ≠ .opened → y.lastEntry = some e)

/-- The start test of R134 from an IDLE channel: a WALK head starts, an INFO head where no walk sounds. -/
def StartTested (walking : Prop) (v w : CornerSpeech) : Prop :=
  (v.queue = [] → w = v) ∧
    ∀ d rest, v.queue = d :: rest →
      (d.kind = .walk ∨ ¬ walking → ∃ n, w = { v with channel := .playing d 0 n, queue := rest }) ∧
        (d.kind = .info → walking → w = v)

/-- From g to h, station i leaves ACTIVE at the Cue Generator (R139): its entries go as DROPPED, its playback is cut, its sound and
flags end, and the start test is taken at its corner. A cut at the moment of the play limit marks that limit (log 30). -/
def LeavesCues (p : ProfileStore) (i : Station) (g h : CueGenerator) : Prop :=
  ∀ (k : Corner) (v : CornerSpeech) (left : List SpeechEntry) (walking : Prop), k = (p.station i).corner →
    v = look g.speech k → left = v.queue.filter (fun e => decide (e.station ≠ i)) →
    (walking ↔ ∃ j, j ≠ i ∧ (p.station j).corner = k ∧
      ((look g.stations j).sound = .walkTone ∨ (look g.stations j).sound = .speech .walk)) →
    h = { g with stations := h.stations, speech := h.speech, nextSerial := h.nextSerial } ∧
      Beside g.stations h.stations i ∧ Beside g.speech h.speech k ∧
      look h.stations i =
        { sound := .none, armed := false, covering := false, tactile := false, indicator := .off
          result := (look h.stations i).result } ∧
      ((∃ e since n, v.channel = .playing e since n ∧ e.station = i) → (look h.stations i).result = .cut) ∧
      ((∀ e since n, v.channel = .playing e since n → e.station ≠ i) →
        ((∃ e ∈ v.queue, e.station = i) → (look h.stations i).result = .dropped) ∧
          ((∀ e ∈ v.queue, e.station ≠ i) → (look h.stations i).result = (look g.stations i).result)) ∧
      (v.channel = .idle → StartTested walking { v with queue := left } (look h.speech k)) ∧
      (∀ n, v.channel = .gap n → look h.speech k = { v with queue := left }) ∧
      ∀ e since n, v.channel = .playing e since n →
        (e.station ≠ i → look h.speech k = { v with queue := left }) ∧
          ∀ w, e.station = i →
            w = { v with queue := left, limitLapsed := v.limitLapsed || decide (20000 ≤ since) } →
            (0 < (p.corner k).gap → look h.speech k = { w with channel := .gap (p.corner k).gap }) ∧
              ((p.corner k).gap = 0 → StartTested walking { w with channel := .idle } (look h.speech k))

/-! ## Bytes as the formats lay them out -/

/-- Bytes a to a + n - 1 of a list as one number, most significant first (R191). -/
def bytesAt (l : List Byte) (a n : Nat) : Nat := ((l.drop a).take n).foldl (fun v b => v * 256 + b.toNat) 0

/-- A stamp field of a report with its presence bit (R195): absent, or the field's value, at most 32,767 ms back from the tick
(R20). -/
def StampReads (present : Bool) (value : Nat) (tick : Tick) (x : Option Tick) : Prop :=
  (present = false → x = none) ∧
    (present = true → ∃ t, x = some t ∧ t.toNat = value ∧ (tick - t).toNat ≤ 32767)

/-- The 12 bytes b pass the checks of R163 and are read as the report r, as R195 lays it out. -/
def ReportReads (b : List Byte) (r : Report) : Prop :=
  (b.map BitVec.toNat).sum % 256 = 0 ∧ r.tick.toNat = bytesAt b 0 2 ∧
    r.down = (b.getD 2 0).getLsbD 7 ∧
    StampReads ((b.getD 2 0).getLsbD 6) (bytesAt b 4 2) r.tick r.press ∧
    StampReads ((b.getD 2 0).getLsbD 5) (bytesAt b 6 2) r.tick r.release ∧
    r.sample = (if (b.getD 2 0).getLsbD 4 then some (b.getD 8 0) else none) ∧
    r.quiet = (b.getD 2 0).getLsbD 3 ∧ r.messageDone = (b.getD 2 0).getLsbD 2 ∧
    r.speakerFault = (b.getD 3 0).getLsbD 7 ∧ r.tactileFault = (b.getD 3 0).getLsbD 6 ∧
    ((b.getD 9 0).getLsbD 7 = false → r.offer = none) ∧
    ((b.getD 9 0).getLsbD 7 = true → r.offer = some
      { speaker := (b.getD 9 0).getLsbD 6, tactile := (b.getD 9 0).getLsbD 5, microphone := (b.getD 9 0).getLsbD 4
        messages := min (bytesAt b 10 1) 16 })

/-- Four 6-bit places, the first in bits 23 to 18, show a station set in its order, 63 in the rest (R193). -/
def PlacesShow (set : List Station) (value : Nat) : Prop :=
  ∀ j, j < 4 → value / 64 ^ (3 - j) % 64 =
    match set[j]? with
    | some i => i.val
    | none => 63

/-- The 12 bytes l are the call entry of record r at a street time (R62, R193). A number is shown in the bytes of its field; the laws of
the part keep it within them. -/
def CallEntryShows (now : StreetTime) (r : CallRecord) (l : List Byte) : Prop :=
  l.length = 12 ∧ bytesAt l 0 1 = r.crossing.val ∧
    bytesAt l 1 1 = r.state.code * 64 + r.origin.code * 16 + r.kind.code * 8 + (!r.seen).toNat * 4 ∧
    bytesAt l 2 1 = r.pressCount % 256 ∧ bytesAt l 3 2 = min ((now - r.registeredAt).toNat / 10) 65535 ∧
    bytesAt l 5 3 = (r.clearance * 4096 + r.extension) % 16777216 ∧
    bytesAt l 8 1 =
      (match r.state with
       | .waiting => 0
       | .granted remaining => remaining / 1000 % 256
       | .walking start => min ((now - start).toNat / 10) 255
       | .clearing start => min ((now - start).toNat / 10) 255) ∧
    PlacesShow r.stations (bytesAt l 9 3)

/-- Bytes a to a + 12 of l show a crossing profile (R192). -/
def CrossingProfile.ShownAt (p : CrossingProfile) (l : List Byte) (a : Nat) : Prop :=
  bytesAt l a 1 = p.enabled.toNat ∧ bytesAt l (a + 1) 2 = p.length % 65536 ∧
    bytesAt l (a + 3) 1 = p.standardSpeed % 256 ∧ bytesAt l (a + 4) 1 = p.extendedSpeed % 256 ∧
    bytesAt l (a + 5) 1 =
      (match p.linkGroup with
       | some g => g.val
       | none => 255) ∧
    bytesAt l (a + 6) 1 = p.propagate.toNat ∧ bytesAt l (a + 7) 1 = p.recallPermitted.toNat ∧
    bytesAt l (a + 8) 1 = p.darkPermitted.toNat ∧ bytesAt l (a + 9) 1 = p.respondsA.toNat ∧
    bytesAt l (a + 10) 1 = p.respondsB.toNat ∧ bytesAt l (a + 11) 2 = p.settle % 65536

/-- Bytes a to a + 20 of l show a station profile (R192). -/
def StationProfile.ShownAt (p : StationProfile) (l : List Byte) (a : Nat) : Prop :=
  bytesAt l a 1 = p.enabled.toNat ∧ bytesAt l (a + 1) 1 = p.crossing.val ∧ bytesAt l (a + 2) 1 = p.corner.val ∧
    bytesAt l (a + 3) 1 = p.walkCue.code ∧ bytesAt l (a + 4) 1 = p.walkMessage.val ∧
    bytesAt l (a + 5) 1 =
      (match p.infoMessage with
       | some m => m.val
       | none => 255) ∧
    bytesAt l (a + 6) 1 =
      p.wantSpeaker.toNat * 8 + p.wantTactile.toNat * 4 + p.wantMicrophone.toNat * 2 + p.wantSpeech.toNat ∧
    bytesAt l (a + 7) 1 = p.indicator.code ∧ bytesAt l (a + 8) 1 = p.invert.toNat ∧
    bytesAt l (a + 9) 1 = p.blink.toNat ∧ bytesAt l (a + 10) 1 = p.noiseCode % 256 ∧
    bytesAt l (a + 11) 2 = p.longThreshold % 65536 ∧ bytesAt l (a + 13) 1 = p.stuckLimit % 256 ∧
    bytesAt l (a + 14) 2 = p.doubleWindow % 65536 ∧ bytesAt l (a + 16) 1 = p.margin % 256 ∧
    bytesAt l (a + 17) 1 = p.minLevel % 256 ∧ bytesAt l (a + 18) 1 = p.maxLevel % 256 ∧
    bytesAt l (a + 19) 1 = p.nightCap % 256 ∧ bytesAt l (a + 20) 1 = p.walkBoost % 256

/-- Bytes a to a + 6 of l show a corner profile (R192). -/
def CornerProfile.ShownAt (p : CornerProfile) (l : List Byte) (a : Nat) : Prop :=
  bytesAt l a 2 = p.period % 65536 ∧ bytesAt l (a + 2) 2 = p.offset % 65536 ∧ bytesAt l (a + 4) 2 = p.gap % 65536 ∧
    bytesAt l (a + 6) 1 = p.nightLocator.toNat

/-- Bytes a to a + 2 of l show a speech entry, or 255, 0, 0 (R193). -/
def SpeechShown (e : Option SpeechEntry) (l : List Byte) (a : Nat) : Prop :=
  match e with
  | some e => bytesAt l a 1 = e.station.val ∧ bytesAt l (a + 1) 1 = e.message.val ∧ bytesAt l (a + 2) 1 = e.kind.code
  | none => bytesAt l a 1 = 255 ∧ bytesAt l (a + 1) 1 = 0 ∧ bytesAt l (a + 2) 1 = 0

/-! ## The laws of the part -/

/-- The assignment limits (R9): at most 4 stations count at any crossing and at most 6 at any corner. -/
def AssignmentLaw (p : ProfileStore) : Prop :=
  (∀ c : Crossing, countWhere (fun j : Station => (look p.stations j).counted.crossing == c) ≤ 4) ∧
    ∀ k : Corner, countWhere (fun j : Station => (look p.stations j).counted.corner == k) ≤ 6

/-- A press state between reports (R18, R29): in IDLE there is no stamp, no held time, no outcome and nothing pending; the button
fault is set exactly in STUCK; the two times are within their ranges. -/
def PressState.Lawful (x : PressState) : Prop :=
  (x.phase = .idle → x.stamp = none ∧ x.heldTime = 0 ∧ x.outcome = none ∧ x.doublePending = false) ∧
    (x.phase ≠ .idle → x.stamp.isSome = true) ∧ (x.buttonFault = true ↔ x.phase = .stuck) ∧
    x.heldTime ≤ 300000 ∧ x.releaseAge ≤ 32768

/-- Every station's press state is lawful (R18). -/
def PressLaw (s : State) : Prop := ∀ i : Station, (look s.press i).Lawful

/-- A serving state that its crossing's observed aspect allows (R67, R69, R73, R77, R80). -/
def CallState.fits (x : CallState) (a : Aspect) : Prop :=
  match x with
  | .waiting => True
  | .granted _ => a = .dontWalk ∨ a = .dark
  | .walking _ => a = .walk ∨ a = .dark
  | .clearing _ => a = .clearance ∨ a = .dark

/-- The laws of the Call Table (R36, R51), with what keeps them: a serving record stands only on an enabled crossing that is not
FAULTED, under an aspect its state allows. -/
structure ServiceLaw (s : State) : Prop where
  /-- At most one record of each group for a crossing (R36). -/
  oneOfGroup : ∀ (i j : RecordSlot) (r q : CallRecord), look s.table.records i = some r →
    look s.table.records j = some q → r.crossing = q.crossing → r.state.isWaiting = q.state.isWaiting → i = j
  /-- A GRANTED or WALKING record stands alone (R36). -/
  joinableAlone : ∀ (i j : RecordSlot) (r q : CallRecord), look s.table.records i = some r →
    look s.table.records j = some q → r.crossing = q.crossing → r.state.isJoinable = true → i = j
  /-- While a memo is present every record is in use (R51). -/
  memoFull : ∀ (c : Crossing) (i : RecordSlot), (look s.table.memos c).isSome = true →
    (look s.table.records i).isSome = true
  /-- A crossing with a memo has at most a CLEARING record (R51). -/
  memoBeside : ∀ (c : Crossing) (i : RecordSlot) (r : CallRecord), (look s.table.memos c).isSome = true →
    look s.table.records i = some r → r.crossing = c → ∃ start, r.state = .clearing start
  /-- A serving record's crossing is enabled, not FAULTED, and shows an aspect the record's state allows. -/
  servingFits : ∀ (i : RecordSlot) (r : CallRecord), look s.table.records i = some r → r.state.isWaiting = false →
    (s.store.crossing r.crossing).enabled = true ∧ (look s.aspects r.crossing).fault = none ∧
      r.state.fits (look s.aspects r.crossing).observed

/-- A requesting set and its count (R37): 0..4 distinct stations of the crossing, kept in ascending order for R62, 0..255 presses,
none exactly with no station. -/
def RequestSet (p : ProfileStore) (c : Crossing) (set : List Station) (count : Nat) : Prop :=
  set.length ≤ 4 ∧ set.Pairwise (· < ·) ∧ count ≤ 255 ∧ (count = 0 ↔ set = []) ∧ ∀ i ∈ set, (p.station i).crossing = c

/-- Every record's and every memo's requesting set is lawful, and a memo's origin is PRESS or LINKED (R37, R51). -/
def RequestLaw (s : State) : Prop :=
  (∀ (i : RecordSlot) (r : CallRecord), look s.table.records i = some r →
      RequestSet s.store r.crossing r.stations r.pressCount) ∧
    ∀ (c : Crossing) (m : Memo), look s.table.memos c = some m →
      RequestSet s.store c m.stations m.count ∧ m.origin ≠ .recall

/-- The software timer never holds more than 3600 s (R114). -/
def TimerLaw (h : HoldUnit) : Prop := ∀ t, h.timer = some t → t ≤ 3600 * 1000

/-- A cycle wait stands only with its flag, while its line is INACTIVE (R103). -/
def WaitLaw (s : State) : Prop :=
  ∀ (c : Crossing) (l : HoldLine), (look s.holds.flags c).wait l = true →
    (look s.holds.flags c).flag l = true ∧ lineActive s.store s.holds l = false

/-- The cue gate of each crossing is open exactly while it has a WALKING record, its observed aspect is WALK, it is neither held
nor FAULTED, and it is enabled (R121). -/
def GateLaw (s : State) : Prop :=
  ∀ c : Crossing, look s.cues.gates c = true ↔
    (∃ (i : RecordSlot) (r : CallRecord) (start : StreetTime), look s.table.records i = some r ∧ r.crossing = c ∧
        r.state = .walking start) ∧
      (look s.aspects c).observed = .walk ∧
      ((look s.holds.flags c).a = false ∧ (look s.holds.flags c).b = false ∧ (look s.holds.flags c).s = false) ∧
      (look s.aspects c).fault = none ∧ (s.store.crossing c).enabled = true

/-- A speech queue holds at most 4 entries, never two of one station and kind, its WALK entries first (R130, R133). -/
def QueueLaw (g : CueGenerator) : Prop :=
  ∀ k : Corner, (look g.speech k).queue.length ≤ 4 ∧
    (look g.speech k).queue.Pairwise (fun x y => ¬ (x.station = y.station ∧ x.kind = y.kind)) ∧
    (look g.speech k).queue.Pairwise (fun x y => x.kind = .info → y.kind = .info)

/-- Each filtered ambient lies within 480..1760 (R146), and each output level within its effective range (R152). -/
def LevelState.Lawful (x : LevelState) : Prop :=
  (480 ≤ x.ambient ∧ x.ambient ≤ 1760) ∧ x.minimum ≤ x.maximum ∧
    ∀ o, x.output = some o → x.minimum ≤ o ∧ o ≤ x.maximum

/-- Every station's level state is lawful (R146, R152). -/
def LevelLaw (s : State) : Prop := ∀ i : Station, (look s.levels i).Lawful

end Sys2Proof.Machine
end

