-- ==== Sys2Proof/Certificates/Slice0/Obligations.lean ====
section
/-! DEFINITION. The statements about the model, each a proposition named for what it states. -/

open Sys2Proof Sys2Proof.Machine

/-! ## The step, and the whole part -/

/-- A step takes the command at the front of the queue and deals with it on the queue's rest.
The order of the queue is the order in which events come, and it is the sender's (log 23). -/
def Obligations.StepTakesFront : Prop :=
  ∀ (i : Instr) (rest : List Instr) (s : State), s.pending = i :: rest → step s = exec i { s with pending := rest }

/-- STREET_TIME_TICK advances street time by one, from 4,294,967,295 to 0, and changes nothing else. The step on an empty queue is
the model's choice (log 1, log 21, log 27, log 30): the first frame after a reset starts at once; otherwise one millisecond passes on
every measure of time and on every timer, everything else stands, and exactly the events that then fall due are queued, each once. -/
def Obligations.IdleStepAndStreetTimeTick : Prop :=
  (∀ s : State, ∃ t, exec .streetTimeTick s = .next t ∧
    t = { s with store := { s.store with streetTime := t.store.streetTime } } ∧
    t.store.streetTime.toNat = (s.store.streetTime.toNat + 1) % 4294967296) ∧
  ∀ s : State, s.pending = [] →
    (s.bus.firstFrame = true → step s = .next { s with pending := [.frameStart] }) ∧
    (s.bus.firstFrame = false → ∃ t, step s = .next t ∧
      t = { s with
            table := { s.table with records := t.table.records }
            aspects := t.aspects
            holds := { s.holds with timer := s.holds.timer.map fun x => x - 1, expiryLapsed := false }
            cues := { s.cues with corners := t.cues.corners, speech := t.cues.speech }
            bus := { s.bus with frameTime := s.bus.frameTime + 1 }
            subTime := (s.subTime + 1) % 100
            pending := t.pending } ∧
      (∀ i, look s.table.records i = none → look t.table.records i = none) ∧
      (∀ i r, look s.table.records i = some r →
        (∀ n, r.state = .granted n → look t.table.records i = some { r with state := .granted (n - 1) }) ∧
        (r.state.isGranted = false → look t.table.records i = some r)) ∧
      (∀ c, look t.aspects c = { look s.aspects c with
        wSteady := (look s.aspects c).wSteady + 1, dSteady := (look s.aspects c).dSteady + 1,
        undecodable := (look s.aspects c).undecodable.map fun m => { m with time := m.time + 1 }
        limitLapsed := false }) ∧
      (∀ k, look t.cues.corners k = { look s.cues.corners k with elapsed := (look s.cues.corners k).elapsed + 1 }) ∧
      (∀ k, (look t.cues.speech k).queue = (look s.cues.speech k).queue ∧ (look t.cues.speech k).limitLapsed = false ∧
        ((look s.cues.speech k).channel = .idle → (look t.cues.speech k).channel = .idle) ∧
        (∀ e since n, (look s.cues.speech k).channel = .playing e since n →
          (look t.cues.speech k).channel = .playing e (since + 1) n) ∧
        ∀ n, (look s.cues.speech k).channel = .gap n → (look t.cues.speech k).channel = .gap (n - 1)) ∧
      t.pending.Nodup ∧
      (∀ i ∈ t.pending, i = .streetTimeTick ∨ i = .missedSlot ∨ (∃ c l m, i = .steadyTimeReached c l m) ∨
        (∃ c, i = .undecodableLimit c ∨ i = .grantWindowExpiry c) ∨ i = .softwareHoldExpiry ∨
        (∃ k, i = .gapEnd k ∨ i = .playLimit k ∨ i = .samplePoint k ∨ i = .periodStart k) ∨ i = .frameStart ∨
        ∃ j, i = .stationSlot j) ∧
      (Instr.streetTimeTick ∈ t.pending ↔ t.subTime = 0) ∧
      (Instr.missedSlot ∈ t.pending ↔ t.bus.frameTime % 2 = 0 ∧ ∃ x, t.bus.slot = some x ∧ x.settled = false) ∧
      (∀ c l m, Instr.steadyTimeReached c l m ∈ t.pending ↔
        (if l = .walk then (look t.aspects c).wSteady else (look t.aspects c).dSteady) =
          if m = .settle then (s.store.crossing c).settle else 1500) ∧
      (∀ c, Instr.undecodableLimit c ∈ t.pending ↔
        ∃ m, (look t.aspects c).undecodable = some m ∧ 3000 ≤ m.time ∧ m.acted = false) ∧
      (∀ c, Instr.grantWindowExpiry c ∈ t.pending ↔
        ∃ i r, look t.table.records i = some r ∧ r.crossing = c ∧ r.state = .granted 0) ∧
      (Instr.softwareHoldExpiry ∈ t.pending ↔ t.holds.timer = some 0) ∧
      (∀ k, Instr.gapEnd k ∈ t.pending ↔ (look t.cues.speech k).channel = .gap 0) ∧
      (∀ k, Instr.playLimit k ∈ t.pending ↔
        ∃ e since n, (look t.cues.speech k).channel = .playing e since n ∧ 20000 ≤ since) ∧
      (∀ k, Instr.samplePoint k ∈ t.pending ↔ (look t.cues.corners k).samplePassed = false ∧
        (look t.cues.corners k).offset ≤ (look t.cues.corners k).elapsed) ∧
      (∀ k, Instr.periodStart k ∈ t.pending ↔ (look t.cues.corners k).period ≤ (look t.cues.corners k).elapsed) ∧
      (Instr.frameStart ∈ t.pending ↔ 2 * (t.bus.frameLength + 1) ≤ t.bus.frameTime) ∧
      ∀ j : Station, Instr.stationSlot j ∈ t.pending ↔
        t.bus.frameTime < 2 * (t.bus.frameLength + 1) ∧ t.bus.frameTime = 2 * (j.val + 1))

/-- No command ends the part's run: from any state, any number of steps answers a next state. -/
def Obligations.PartNeverStops : Prop :=
  (∀ (i : Instr) (s : State), ∃ t, exec i s = .next t) ∧ ∀ (k : Nat) (s : State), RunsOn k s

/-- The laws of the part hold in the machine right after reset. The pin levels there are the model's choice (log 4). -/
def Obligations.ResetIsLawful : Prop :=
  AssignmentLaw State.reset.store ∧ PressLaw State.reset ∧ ServiceLaw State.reset ∧ RequestLaw State.reset ∧
    TimerLaw State.reset.holds ∧ WaitLaw State.reset ∧ GateLaw State.reset ∧ QueueLaw State.reset.cues ∧
    LevelLaw State.reset ∧ State.reset.attention = false

/-! ## System -/

/-- PART_RESET and RESET leave the same state: every block at its part-reset values, the lines as sensed, each hold line that is LOW
held on every crossing, the pending response NONE. The queue of commands is the sender's and stays (log 23); the last point
of a station after a reset is the model's choice (log 5) and is not stated. That the first frame has not started within the reset
but follows as a FRAME_START of its own is the model's reading (log 21). -/
def Obligations.PartReset : Prop :=
  ∀ s : State, ∃ t, exec .partReset s = .next t ∧ exec .reset s = .next t ∧
    (∀ c, look t.store.crossings c = { active := CrossingProfile.default, pending := none }) ∧
    (∀ i, look t.store.stations i = { active := StationProfile.default i, pending := none }) ∧
    (∀ k, look t.store.corners k = { active := CornerProfile.default, pending := none }) ∧
    t.store.mode = .day ∧ t.store.lineA = { activeLevel := .low, releaseMode := .level } ∧
    t.store.lineB = { activeLevel := .low, releaseMode := .latch } ∧ t.store.nextFrameLength = none ∧
    t.store.streetTime = 0 ∧
    t.bus.frameNumber = 0 ∧ t.bus.firstFrame = true ∧ t.bus.frameLength = 48 ∧
    (∀ i, look t.bus.stations i = StationLink.reset) ∧
    (∀ i, (look t.press i).phase = .idle ∧ (look t.press i).lastEntry = none ∧ (look t.press i).previousEntry = none ∧
      (look t.press i).releaseAge = 32768 ∧ (look t.press i).buttonFault = false ∧ (look t.press i).stuckNotice = false ∧
      (look t.press i).Lawful) ∧
    (∀ i, look t.table.records i = none) ∧ (∀ c, look t.table.memos c = none) ∧ (∀ i, look t.table.targets i = .none) ∧
    (∀ c, look t.grants c = GrantState.reset) ∧
    (∀ c, look t.aspects c = AspectState.reset (look s.aspects c).w (look s.aspects c).d) ∧
    t.holds.levelA = s.holds.levelA ∧ t.holds.levelB = s.holds.levelB ∧ t.holds.timer = none ∧ t.holds.softwareSet = [] ∧
    t.holds.expiryLapsed = false ∧
    (∀ c, look t.holds.flags c =
      { a := decide (s.holds.levelA = .low), b := decide (s.holds.levelB = .low), s := false, waitA := false,
        waitB := false }) ∧
    (∀ k, look t.cues.corners k = CornerPhase.reset ∧ look t.cues.speech k = { channel := .idle, queue := [], limitLapsed := false }) ∧
    (∀ c, look t.cues.gates c = false) ∧ (∀ i, look t.cues.stations i = StationCue.reset) ∧
    (∀ i, look t.levels i = LevelState.reset) ∧ t.response = { status := .none, fields := [] } ∧ t.pending = s.pending

/-! ## The control link: framing and reads -/

/-- A select of n bytes shifts out the pending response: the status byte, the length in two bytes, the fields, then 0 to the end. A
frame that fails a check is answered LENGTH or UNKNOWN, the first failure deciding, and nothing else changes; bytes beyond
a frame are ignored; a frame that passes is dealt with as the request it spells (that last clause is log 9). -/
def Obligations.SelectsAndRefusedFrames : Prop :=
  (∀ (r : Response) (n : Nat), (r.shiftOut n).length = n ∧ ∀ j, j < n →
    (r.shiftOut n).getD j 0 =
      if j = 0 then byte r.status.code
      else if j = 1 then byte (r.fields.length / 256)
      else if j = 2 then byte r.fields.length
      else r.fields.getD (j - 3) 0) ∧
  [Status.none, .ok, .adjusted, .busy, .state, .full, .fault, .limit, .range, .unknown, .length].map Status.code =
    [0, 1, 2, 3, 4, 5, 6, 7, 8, 9, 10] ∧
  ∀ s : State,
    (∀ f : List Byte, f.length < 2 → exec (.requestFrameRefused f) s = .next (s.answer .length)) ∧
    (∀ (kind len : Byte) (rest : List Byte), 19 ≤ kind.toNat →
      exec (.requestFrameRefused (kind :: len :: rest)) s = .next (s.answer .unknown)) ∧
    (∀ (kind len : Byte) (rest : List Byte) (n : Nat), fieldLength kind.toNat = some n → (len.toNat ≠ n ∨ rest.length < n) →
      exec (.requestFrameRefused (kind :: len :: rest)) s = .next (s.answer .length)) ∧
    (∀ kind : Byte, kind.toNat < 19 → (fieldLength kind.toNat).isSome = true) ∧
    (∀ (kind len : Byte) (fields extra : List Byte), fields.length = len.toNat → fieldLength kind.toNat = some len.toNat →
      decodeFrame (kind :: len :: (fields ++ extra)) = decodeFrame (kind :: len :: fields)) ∧
    (∀ (f : List Byte) (i : Instr), decodeFrame f = .ok i → exec (.requestFrameRefused f) s = exec i s)

/-- NO REQUEST, of kind 0, is answered NONE and changes nothing in the part, so a second one leaves the same NONE; IDENTIFY is
answered OK with the part code 2448 and the revision 1, which no state changes, and changes nothing. -/
def Obligations.NoRequestAndIdentify : Prop :=
  ∀ s : State,
    decodeFrame [0, 0] = .ok .noRequest ∧ decodeFrame [1, 0] = .ok .identify ∧
    exec .noRequest s = .next { s with response := { status := .none, fields := [] } } ∧
    exec .noRequest { s with response := { status := .none, fields := [] } } =
      .next { s with response := { status := .none, fields := [] } } ∧
    exec .identify s = .next { s with response := { status := .ok, fields := [0x09, 0x90, 0x01] } }

/-- READ SUMMARY answers OK with 20 bytes: the unseen and used counts, the three sets bit by bit, and of each line whether it is
ACTIVE, its release mode and whether a flag of it is set, and the software timer in whole seconds (rounded down, log 22). It changes
nothing else. The attention line is asserted exactly while a record in use is unseen or a notice of a crossing or a station is set;
those are the notices that the two sets show. -/
def Obligations.ReadSummaryAndAttention : Prop :=
  ∀ s : State,
    (∃ l : List Byte, exec .readSummary s = .next { s with response := { status := .ok, fields := l } } ∧
      l.length = 20 ∧ l[0]? = some (byte s.table.unseen) ∧ l[1]? = some (byte s.table.inUse) ∧
      (∀ c : Crossing, (l.getD (5 - c.val / 8) 0).getLsbD (c.val % 8) = s.crossingNotice c) ∧
      (∀ c : Crossing, (l.getD (9 - c.val / 8) 0).getLsbD (c.val % 8) = (look s.table.memos c).isSome) ∧
      (∀ i : Station, (l.getD (15 - i.val / 8) 0).getLsbD (i.val % 8) = s.stationNotice i) ∧
      (∀ (x : HoldLine) (n : Nat), (x = .a ∧ n = 16 ∨ x = .b ∧ n = 17) →
        (l.getD n 0).getLsbD 7 = lineActive s.store s.holds x ∧
        (l.getD n 0).toNat / 32 % 4 =
          (match (s.store.line x).releaseMode with
           | .level => 0
           | .cycle => 1
           | .latch => 2) ∧
        ((l.getD n 0).getLsbD 4 = true ↔ ∃ c, (look s.holds.flags c).flag x = true) ∧ (l.getD n 0).toNat % 16 = 0) ∧
      (TimerLaw s.holds → ((l.getD 18 0).toNat * 256 + (l.getD 19 0).toNat) = s.holds.timer.getD 0 / 1000)) ∧
    (∀ c, s.crossingNotice c = true ↔ (look s.aspects c).notice = true ∨ (look s.grants c).expired = true ∨
      (look s.grants c).truncated = true ∨ (look s.grants c).unserved = true) ∧
    (∀ i, s.stationNotice i = true ↔ (look s.bus.stations i).silentNotice = true ∨
      (look s.bus.stations i).joinedNotice = true ∨ (look s.press i).stuckNotice = true) ∧
    (s.attention = true ↔ (∃ i r, look s.table.records i = some r ∧ r.seen = false) ∨
      (∃ c, s.crossingNotice c = true) ∨ ∃ i, s.stationNotice i = true)

/-- READ CALLS of all records or of one crossing: 12 bytes for each record asked for, the largest age first, between equal ages the
lower crossing first, and of one crossing the serving record first; each record listed is then seen, and nothing else changes. The bytes
of an entry show the record's crossing, state, origin, kind, whether it is new, press count, age, advice, time field (a grant window in
whole seconds, rounded down: log 22) and stations. -/
def Obligations.ReadCalls : Prop :=
  (∀ (now : StreetTime) (r : CallRecord), CallEntryShows now r (callEntry now r)) ∧
  (∀ (n : Nat) (a b : StreetTime),
    [CallState.waiting, .granted n, .walking a, .clearing b].map CallState.code = [0, 1, 2, 3]) ∧
  [Origin.press, .linked, .recall].map Origin.code = [0, 1, 2] ∧ [CallKind.standard, .extended].map CallKind.code = [0, 1] ∧
  ∀ (s : State) (scope : Byte) (only : Option Crossing),
    (scope = 255 ∧ only = none ∨ ∃ c : Crossing, scope.toNat = c.val ∧ only = some c) →
    ∃ (l : List CallRecord) (t : State), exec (.readCalls scope) s = .next t ∧
      t = { s with table := { s.table with records := t.table.records }, response := t.response } ∧
      t.response = { status := .ok, fields := l.flatMap (callEntry s.store.streetTime) } ∧
      t.response.fields.length = 12 * l.length ∧
      l.Perm ((s.table.records.toList.filterMap id).filter (asked only)) ∧
      l.Pairwise (fun x y =>
        ageOf s.store.streetTime y.registeredAt < ageOf s.store.streetTime x.registeredAt ∨
          ageOf s.store.streetTime x.registeredAt = ageOf s.store.streetTime y.registeredAt ∧
            (x.crossing < y.crossing ∨ x.crossing = y.crossing ∧ (x.state.isServing = true ∨ y.state.isServing = false))) ∧
      (∀ i r, look s.table.records i = some r →
        look t.table.records i = some (if asked only r then { r with seen := true } else r)) ∧
      (∀ i, look s.table.records i = none → look t.table.records i = none)

/-- READ CROSSING answers OK with 25 bytes that show the line levels, the observed aspect, the fault kind, the four notices as they stood,
the further-fault flag, the unrecorded walk, the hold flags and cycle waits, the gate, whether a pending copy stands, the memo and the
active profile; it clears those four notices and changes nothing else. -/
def Obligations.ReadCrossing : Prop :=
  [Aspect.unknown, .dontWalk, .walk, .clearance, .dark, .conflict].map Aspect.code = [0, 1, 2, 3, 4, 5] ∧
  [none, some FaultKind.uncommandedWalk, some .outOfSequence, some .aspectConflict, some .lampsDark, some .undecodable].map
    faultCode = [0, 1, 2, 3, 4, 5] ∧
  [UnrecordedWalk.none, .walk, .clearance].map UnrecordedWalk.code = [0, 1, 2] ∧
  ∀ (s : State) (n : Byte) (c : Crossing), n.toNat = c.val → ∃ t, exec (.readCrossing n) s = .next t ∧
    t = { s with aspects := t.aspects, grants := t.grants, response := t.response } ∧
    look t.aspects c = { look s.aspects c with notice := false } ∧ Beside s.aspects t.aspects c ∧
    look t.grants c = { look s.grants c with expired := false, truncated := false, unserved := false } ∧
    Beside s.grants t.grants c ∧ t.response.status = .ok ∧
    ∀ (l : List Byte) (x : AspectState) (g : GrantState) (f : HoldFlags), l = t.response.fields → x = look s.aspects c →
      g = look s.grants c → f = look s.holds.flags c →
      l.length = 25 ∧ bytesAt l 0 1 = c.val ∧
      bytesAt l 1 1 = x.w.toNat * 128 + x.d.toNat * 64 + x.observed.code ∧ bytesAt l 2 1 = faultCode x.fault ∧
      bytesAt l 3 1 = x.notice.toNat * 128 + g.expired.toNat * 64 + g.truncated.toNat * 32 + g.unserved.toNat * 16 +
        x.further.toNat * 8 + g.unrecorded.code ∧
      bytesAt l 4 1 = f.a.toNat * 128 + f.b.toNat * 64 + f.s.toNat * 32 + (f.a || f.b || f.s).toNat * 16 +
        f.waitA.toNat * 8 + f.waitB.toNat * 4 + (look s.cues.gates c).toNat * 2 +
        (look s.store.crossings c).pending.isSome.toNat ∧
      (look s.table.memos c = none → (l.getD 5 0).getLsbD 7 = false ∧ bytesAt l 6 1 = 0 ∧ bytesAt l 7 2 = 0 ∧
        PlacesShow [] (bytesAt l 9 3)) ∧
      (∀ m, look s.table.memos c = some m → m.origin ≠ .recall →
        bytesAt l 5 1 = 128 + m.origin.code * 64 + m.kind.code * 32 ∧ bytesAt l 6 1 = m.count % 256 ∧
        bytesAt l 7 2 = min ((s.store.streetTime - m.since).toNat / 10) 65535 ∧ PlacesShow m.stations (bytesAt l 9 3)) ∧
      (s.store.crossing c).ShownAt l 12

/-- READ STATION answers OK with 52 bytes that show the link with its three notices as they stood, what the station offered and what is
resolved, health, press and capture pair, cues, levels, whether a pending copy stands and the active profile; it clears those three and
changes nothing else. READ CORNER answers OK with 33 bytes that show the period, the clean flags, the channel, the queue and the active
profile, and changes nothing else. -/
def Obligations.ReadStationAndCorner : Prop :=
  [LinkState.disabled, .absent, .active, .silent].map LinkState.code = [0, 1, 2, 3] ∧
  [PressPhase.idle, .down, .held, .long, .stuck].map PressPhase.code = [0, 1, 2, 3, 4] ∧
  (∀ e : CaptureEntry, endingCode none = 0 ∧
    [CaptureEnding.opened, .held, .long, .stuck, .abandoned].map (fun x => endingCode (some { e with ending := x })) =
      [1, 2, 3, 4, 5]) ∧
  [Sound.none, .locator, .waitAck, .walkTone, .speech .walk, .speech .info, .silent].map Sound.code = [0, 1, 2, 3, 4, 5, 6] ∧
  [Indicator.off, .on, .blinkFast, .blinkSlow].map Indicator.code = [0, 1, 2, 3] ∧
  [SpeechResult.none, .played, .timeout, .cut, .dropped].map SpeechResult.code = [0, 1, 2, 3, 4] ∧
  [SampleOutcome.none, .admitted, .noMicrophone, .notQuiet, .notClean].map SampleOutcome.code = [0, 1, 2, 3, 4] ∧
  [WalkCue.tone, .speech].map WalkCue.code = [0, 1] ∧ [SpeechKind.walk, .info].map SpeechKind.code = [0, 1] ∧
  [IndicatorSource.off, .on, .callWaiting, .serving, .walk, .callOrWalk, .stationFault].map IndicatorSource.code =
    [0, 1, 2, 3, 4, 5, 6] ∧
  (∀ (s : State) (n : Byte) (i : Station), n.toNat = i.val → ∃ t, exec (.readStation n) s = .next t ∧
    t = { s with bus := { s.bus with stations := t.bus.stations }, press := t.press, response := t.response } ∧
    look t.bus.stations i = { look s.bus.stations i with silentNotice := false, joinedNotice := false } ∧
    Beside s.bus.stations t.bus.stations i ∧
    look t.press i = { look s.press i with stuckNotice := false } ∧ Beside s.press t.press i ∧
    t.response.status = .ok ∧
    ∀ (l : List Byte) (b : StationLink) (p : PressState) (v : StationCue) (x : LevelState), l = t.response.fields →
      b = look s.bus.stations i → p = look s.press i → v = look s.cues.stations i → x = look s.levels i →
      l.length = 52 ∧ bytesAt l 0 1 = i.val ∧
      (l.getD 1 0).getLsbD 1 = b.silentNotice ∧ (l.getD 1 0).getLsbD 0 = b.joinedNotice ∧
      (b.misses < 8 → bytesAt l 1 1 =
        b.state.code * 64 + b.beyond.toNat * 32 + b.misses * 4 + b.silentNotice.toNat * 2 + b.joinedNotice.toNat) ∧
      (l.getD 2 0).getLsbD 7 = b.offered.isSome ∧
      (∀ o, b.offered = some o → bytesAt l 2 1 = 128 + o.speaker.toNat * 64 + o.tactile.toNat * 32 + o.microphone.toNat * 16 ∧
        bytesAt l 3 1 = o.messages % 256) ∧
      bytesAt l 4 1 = b.features.speaker.toNat * 128 + b.features.tactile.toNat * 64 + b.features.microphone.toNat * 32 +
        b.features.speech.toNat * 16 + b.features.walkCue.code * 8 + b.features.cueDegraded.toNat * 4 +
        b.features.infoUsable.toNat * 2 ∧
      bytesAt l 5 1 = b.speakerFault.toNat * 128 + b.tactileFault.toNat * 64 + p.buttonFault.toNat * 32 +
        p.stuckNotice.toNat * 16 + b.lastTick.isSome.toNat * 8 + p.phase.code ∧
      (∀ n, b.lastTick = some n → bytesAt l 6 2 = n.toNat) ∧ bytesAt l 8 3 = p.heldTime % 16777216 ∧
      bytesAt l 11 1 = endingCode p.lastEntry * 32 + (p.lastEntry.bind CaptureEntry.release).isSome.toNat * 16 +
        endingCode p.previousEntry * 2 + (p.previousEntry.bind CaptureEntry.release).isSome.toNat ∧
      (∀ (e : Option CaptureEntry) (a : Nat), e = p.lastEntry ∧ a = 12 ∨ e = p.previousEntry ∧ a = 16 →
        (e = none → bytesAt l a 2 = 0 ∧ bytesAt l (a + 2) 2 = 0) ∧
        ∀ y, e = some y → bytesAt l a 2 = y.press.toNat ∧
          (y.release = none → bytesAt l (a + 2) 2 = 0) ∧ ∀ q, y.release = some q → bytesAt l (a + 2) 2 = q.toNat) ∧
      bytesAt l 20 1 = v.sound.code ∧
      bytesAt l 21 1 = v.armed.toNat * 128 + v.covering.toNat * 64 + v.tactile.toNat * 32 + v.indicator.code * 8 +
        v.result.code ∧
      bytesAt l 22 2 = x.ambient % 65536 ∧ bytesAt l 24 1 = x.output.getD 0 % 256 ∧ bytesAt l 25 1 = x.maximum % 256 ∧
      bytesAt l 26 1 = x.minimum % 256 ∧
      (b.state ≠ .active → bytesAt l 27 1 = 0) ∧
      (b.state = .active →
        bytesAt l 27 1 = clamp x.minimum x.maximum (x.ambient / 16 + (s.store.station i).margin) % 256) ∧
      bytesAt l 28 1 = x.windowOpen.toNat * 128 + x.outcome.code ∧ bytesAt l 29 1 = x.lastSample.getD 0 % 256 ∧
      bytesAt l 30 1 = (look s.store.stations i).pending.isSome.toNat ∧ (s.store.station i).ShownAt l 31) ∧
  ∀ (s : State) (n : Byte) (k : Corner), n.toNat = k.val → ∃ l : List Byte,
    exec (.readCorner n) s = .next { s with response := { status := .ok, fields := l } } ∧ l.length = 33 ∧
    ∀ (x : CornerPhase) (v : CornerSpeech), x = look s.cues.corners k → v = look s.cues.speech k →
      bytesAt l 0 1 = k.val ∧ bytesAt l 1 2 = x.elapsed % 65536 ∧ bytesAt l 3 2 = x.period % 65536 ∧
      bytesAt l 5 2 = x.offset % 65536 ∧
      bytesAt l 7 1 = x.openClean.toNat * 128 + x.closedClean.toNat * 64 +
        (match v.channel with
         | .idle => 0
         | .playing _ _ _ => 1
         | .gap _ => 2) * 4 + (look s.store.corners k).pending.isSome.toNat ∧
      (v.channel = .idle → SpeechShown none l 8 ∧ bytesAt l 11 2 = 0) ∧
      (∀ e since m, v.channel = .playing e since m → SpeechShown (some e) l 8 ∧ bytesAt l 11 2 = since % 65536) ∧
      (∀ left, v.channel = .gap left → SpeechShown none l 8 ∧ bytesAt l 11 2 = left % 65536) ∧
      bytesAt l 13 1 = v.queue.length % 256 ∧ (∀ j, j < 4 → SpeechShown v.queue[j]? l (14 + 3 * j)) ∧
      (s.store.corner k).ShownAt l 26

/-- Every request with a number, a code or a set out of its range is answered RANGE, and nothing else changes. -/
def Obligations.RangeRefusals : Prop :=
  ∀ s : State,
    (∀ n : Byte, 24 ≤ n.toNat → n ≠ 255 → exec (.readCalls n) s = .next (s.answer .range)) ∧
    (∀ n : Byte, 24 ≤ n.toNat →
      exec (.readCrossing n) s = .next (s.answer .range) ∧ exec (.clearFault n) s = .next (s.answer .range) ∧
      (∀ w, exec (.grant n w) s = .next (s.answer .range)) ∧ (∀ x, exec (.cancel n x) s = .next (s.answer .range)) ∧
      ∀ f, exec (.writeCrossing n f) s = .next (s.answer .range)) ∧
    (∀ n : Byte, 48 ≤ n.toNat →
      exec (.readStation n) s = .next (s.answer .range) ∧ ∀ f, exec (.writeStation n f) s = .next (s.answer .range)) ∧
    (∀ n : Byte, 32 ≤ n.toNat →
      exec (.readCorner n) s = .next (s.answer .range) ∧ ∀ f, exec (.writeCorner n f) s = .next (s.answer .range)) ∧
    (∀ c x : Byte, 2 ≤ x.toNat → exec (.cancel c x) s = .next (s.answer .range)) ∧
    (∀ x : Byte, 2 ≤ x.toNat →
      exec (.releaseLineHold x) s = .next (s.answer .range) ∧ exec (.setStreetMode x) s = .next (s.answer .range)) ∧
    (∀ (set : BitVec 32) (time : Word16) (n : Nat), 24 ≤ n → set.getLsbD n = true →
      exec (.setHold set time) s = .next (s.answer .range)) ∧
    (∀ (n : Byte) (f : CrossingFields),
      2 ≤ f.enabled.toNat ∨ (8 ≤ f.linkGroup.toNat ∧ f.linkGroup ≠ 255) ∨ 2 ≤ f.propagate.toNat ∨
          2 ≤ f.recallPermitted.toNat ∨ 2 ≤ f.darkPermitted.toNat ∨ 2 ≤ f.respondsA.toNat ∨ 2 ≤ f.respondsB.toNat →
        exec (.writeCrossing n f) s = .next (s.answer .range)) ∧
    (∀ (n : Byte) (f : StationFields),
      2 ≤ f.enabled.toNat ∨ 24 ≤ f.crossing.toNat ∨ 32 ≤ f.corner.toNat ∨ 2 ≤ f.walkCue.toNat ∨ 16 ≤ f.walkMessage.toNat ∨
          (16 ≤ f.infoMessage.toNat ∧ f.infoMessage ≠ 255) ∨ 7 ≤ f.indicator.toNat ∨ 2 ≤ f.invert.toNat ∨
          2 ≤ f.blink.toNat →
        exec (.writeStation n f) s = .next (s.answer .range)) ∧
    (∀ (n : Byte) (f : CornerFields), 2 ≤ f.nightLocator.toNat → exec (.writeCorner n f) s = .next (s.answer .range)) ∧
    (∀ la ma lb mb n : Byte, 2 ≤ la.toNat ∨ 3 ≤ ma.toNat ∨ 2 ≤ lb.toNat ∨ 3 ≤ mb.toNat →
      exec (.writeStreet la ma lb mb n) s = .next (s.answer .range))

/-! ## Calls and service -/

/-- The clearance advice: length x 100 over the speed, rounded up to a whole number of tenths and capped at 600; a STANDARD call is
advised the standard clearance and no extension, an EXTENDED call the extended clearance and the difference, which is never
negative. Over the fields' ranges every clearance lies within 20..600. -/
def Obligations.ClearanceAdvice : Prop :=
  ∀ p : CrossingProfile, 30 ≤ p.length → p.length ≤ 400 → 80 ≤ p.standardSpeed → p.standardSpeed ≤ 150 →
    50 ≤ p.extendedSpeed → p.extendedSpeed ≤ p.standardSpeed →
    (∃ q, p.length * 100 ≤ q * p.standardSpeed ∧ (∀ n, p.length * 100 ≤ n * p.standardSpeed → q ≤ n) ∧
      p.clearance .standard = min q 600) ∧
    (∃ q, p.length * 100 ≤ q * p.extendedSpeed ∧ (∀ n, p.length * 100 ≤ n * p.extendedSpeed → q ≤ n) ∧
      p.clearance .extended = min q 600) ∧
    p.extension .standard = 0 ∧ p.clearance .standard + p.extension .extended = p.clearance .extended ∧
    20 ≤ p.clearance .standard ∧ p.clearance .extended ≤ 600

/-- GRANT's checks in their order and what each gives: STATE, FAULT, BUSY, STATE, the WAITING record GRANTED, FULL, a RECALL record
GRANTED. The window is brought into 1..30 s, and a grant so changed is answered ADJUSTED; a refusal changes nothing else.
That BUSY also answers over the WALKING record of a recall walk is R66's check 3; R94 says STATE there, and the model follows R66 (the
model's reading, log 31). -/
def Obligations.Grant : Prop :=
  ∀ (s : State) (n w : Byte) (c : Crossing), ServiceLaw s → GateLaw s → n.toNat = c.val →
    ((s.store.crossing c).enabled = false → exec (.grant n w) s = .next (s.answer .state)) ∧
    ((s.store.crossing c).enabled = true →
      ((look s.aspects c).fault.isSome = true → exec (.grant n w) s = .next (s.answer .fault)) ∧
      ((look s.aspects c).fault = none →
        (HasRecord s.table c CallState.isServing → exec (.grant n w) s = .next (s.answer .busy)) ∧
        (¬ HasRecord s.table c CallState.isServing →
          ((look s.aspects c).observed ≠ .dontWalk → exec (.grant n w) s = .next (s.answer .state)) ∧
          ((look s.aspects c).observed = .dontWalk →
            (∀ i r, RecordAt s.table c i r → r.state = .waiting → ∃ t, exec (.grant n w) s = .next t ∧
              t = { s with
                    table := { s.table with records := t.table.records }
                    response := { status := if 1 ≤ w.toNat ∧ w.toNat ≤ 30 then .ok else .adjusted, fields := [] } } ∧
              look t.table.records i =
                some { r with state := .granted (max 1 (min w.toNat 30) * 1000), seen := false } ∧
              Beside s.table.records t.table.records i) ∧
            (¬ HasRecord s.table c CallState.isWaiting → ¬ HasFree s.table →
              exec (.grant n w) s = .next (s.answer .full)) ∧
            (¬ HasRecord s.table c CallState.isWaiting → HasFree s.table → ∃ t i, exec (.grant n w) s = .next t ∧
              t = { s with
                    table := { s.table with records := t.table.records }
                    response := { status := if 1 ≤ w.toNat ∧ w.toNat ≤ 30 then .ok else .adjusted, fields := [] } } ∧
              look s.table.records i = none ∧
              look t.table.records i =
                some { crossing := c, state := .granted (max 1 (min w.toNat 30) * 1000), origin := .recall,
                       kind := .standard, stations := [], pressCount := 0, registeredAt := s.store.streetTime,
                       clearance := (s.store.crossing c).clearance .standard, extension := 0, seen := false } ∧
              Beside s.table.records t.table.records i)))))

/-- CANCEL of waiting demand: the WAITING record removed, or the memo cleared, or NONE. CANCEL of service: a GRANTED record removed,
STATE over a WALKING or CLEARING one, NONE without one. A crossing without a pending copy changes in nothing else; where one stands, a
removal is followed by what CROSSING_TRANSFER does (the allocation before it is the model's reading, log 35). -/
def Obligations.Cancel : Prop :=
  ∀ (s : State) (n : Byte) (c : Crossing), ServiceLaw s → GateLaw s → n.toNat = c.val →
    (∀ i r target, (look s.store.crossings c).pending.isSome = true → RecordAt s.table c i r →
      r.state = .waiting ∧ target = 0 ∨ r.state.isGranted = true ∧ target = 1 →
      ∃ t, exec (.crossingTransfer c) { s with table := s.table.remove s.store i } = .next t ∧
        exec (.cancel n target) s = .next { t with response := { status := .ok, fields := [] } }) ∧
    ((look s.store.crossings c).pending = none → ∀ i r, RecordAt s.table c i r → r.state = .waiting →
      exec (.cancel n 0) s =
        .next { s with table := s.table.remove s.store i, response := { status := .ok, fields := [] } }) ∧
    (¬ HasRecord s.table c CallState.isWaiting → (look s.table.memos c).isSome = true →
      exec (.cancel n 0) s =
        .next { s with table := s.table.clearMemo c, response := { status := .ok, fields := [] } }) ∧
    (¬ HasRecord s.table c CallState.isWaiting → look s.table.memos c = none →
      exec (.cancel n 0) s = .next (s.answer .none)) ∧
    ((look s.store.crossings c).pending = none → ∀ i r, RecordAt s.table c i r → r.state.isGranted = true →
      exec (.cancel n 1) s =
        .next { s with table := s.table.remove s.store i, response := { status := .ok, fields := [] } }) ∧
    (∀ i r, RecordAt s.table c i r → r.state.isServing = true → r.state.isGranted = false →
      exec (.cancel n 1) s = .next (s.answer .state)) ∧
    (¬ HasRecord s.table c CallState.isServing → exec (.cancel n 1) s = .next (s.answer .none))

/-- CLEAR FAULT over DONT_WALK clears the fault and the further-fault flag and restarts a running undecodable measure from 0; over
another aspect it is answered STATE, on a crossing not FAULTED NONE. The FAULT notice and everything else stand. An undecodable limit that
has fallen due at the same moment is then not taken (log 30). -/
def Obligations.ClearFault : Prop :=
  ∀ (s : State) (n : Byte) (c : Crossing), n.toNat = c.val →
    ((look s.aspects c).fault.isSome = true → (look s.aspects c).observed = .dontWalk →
      ∃ t, exec (.clearFault n) s = .next t ∧
        t = { s with aspects := t.aspects, response := { status := .ok, fields := [] } } ∧ Beside s.aspects t.aspects c ∧
        look t.aspects c = { look s.aspects c with
          fault := none, further := false,
          undecodable := if (look s.aspects c).undecodable.isSome then some { time := 0, acted := false } else none
          limitLapsed := (look s.aspects c).limitLapsed ||
            match (look s.aspects c).undecodable with
            | some m => decide (3000 ≤ m.time) && !m.acted
            | none => false }) ∧
    ((look s.aspects c).fault.isSome = true → (look s.aspects c).observed ≠ .dontWalk →
      exec (.clearFault n) s = .next (s.answer .state)) ∧
    ((look s.aspects c).fault = none → exec (.clearFault n) s = .next (s.answer .none))

/-- GRANT_WINDOW_EXPIRY returns the GRANTED record to WAITING, unseen, and sets GRANT_EXPIRED; a pending copy of the crossing then
transfers, as CROSSING_TRANSFER does it. Where no record is GRANTED it changes nothing.
A row given before the window has run out takes its moment as come (the model's choice, log 2). -/
def Obligations.GrantWindowExpiry : Prop :=
  ∀ (s : State) (c : Crossing), ServiceLaw s → GateLaw s →
    (∀ i r, RecordAt s.table c i r → r.state.isGranted = true →
      ((look s.store.crossings c).pending = none → ∃ t, exec (.grantWindowExpiry c) s = .next t ∧
        t = { s with table := { s.table with records := t.table.records }, grants := t.grants } ∧
        look t.table.records i = some { r with state := .waiting, seen := false } ∧
        Beside s.table.records t.table.records i ∧
        look t.grants c = { look s.grants c with expired := true } ∧ Beside s.grants t.grants c) ∧
      (∀ new, (look s.store.crossings c).pending = some new → ∃ u t, exec (.grantWindowExpiry c) s = .next t ∧
        exec (.crossingTransfer c) u = .next t ∧
        u = { s with table := { s.table with records := u.table.records }, grants := u.grants } ∧
        look u.table.records i = some { r with state := .waiting, seen := false } ∧
        Beside s.table.records u.table.records i ∧
        look u.grants c = { look s.grants c with expired := true } ∧ Beside s.grants u.grants c ∧
        look t.store.crossings c = { active := new, pending := none })) ∧
    (¬ HasRecord s.table c CallState.isGranted → exec (.grantWindowExpiry c) s = .next s)

/-- MEMO_ALLOCATION gives a free record to the oldest memo, which becomes a WAITING record of its own time with the advice for its
kind, unseen; the targets naming the memo then name the record. Without a free record or a memo it changes nothing.
The row given alone acts when its condition holds (log 24). -/
def Obligations.MemoAllocation : Prop :=
  ∀ s : State,
    (¬ HasFree s.table ∨ (∀ c, look s.table.memos c = none) → exec .memoAllocation s = .next s) ∧
    (∀ c m, HasFree s.table → OldestMemo s.store.streetTime s.table c m → ∃ t i, exec .memoAllocation s = .next t ∧
      t = { s with table := t.table } ∧ look s.table.records i = none ∧
      look t.table.records i =
        some { crossing := c, state := .waiting, origin := m.origin, kind := m.kind, stations := m.stations,
               pressCount := m.count, registeredAt := m.since, clearance := (s.store.crossing c).clearance m.kind,
               extension := (s.store.crossing c).extension m.kind, seen := false } ∧
      Beside s.table.records t.table.records i ∧ look t.table.memos c = none ∧ Beside s.table.memos t.table.memos c ∧
      ∀ j, look t.table.targets j = if look s.table.targets j = .memo c then .record i else look s.table.targets j)

/-- A removal frees the record and clears the targets naming it; then the freed record goes to the oldest memo of a full table, and
stays free where no memo is present. A memo that is cleared without becoming a record is absent, the targets naming it are none, and
every record, every other memo and every other target stand. -/
def Obligations.RecordAndMemoRemoval : Prop :=
  (∀ (t : CallTable) (c : Crossing), (t.clearMemo c).records = t.records ∧ look (t.clearMemo c).memos c = none ∧
    Beside t.memos (t.clearMemo c).memos c ∧
    ∀ j, look (t.clearMemo c).targets j = if look t.targets j = .memo c then .none else look t.targets j) ∧
  ∀ (p : ProfileStore) (t : CallTable) (i : RecordSlot) (r : CallRecord), look t.records i = some r →
    ((∀ c, look t.memos c = none) →
      look (t.remove p i).records i = none ∧ Beside t.records (t.remove p i).records i ∧
      (t.remove p i).memos = t.memos ∧
      ∀ j, look (t.remove p i).targets j = if look t.targets j = .record i then .none else look t.targets j) ∧
    (∀ c m, (∀ j, (look t.records j).isSome = true) → OldestMemo p.streetTime t c m →
      look (t.remove p i).records i =
        some { crossing := c, state := .waiting, origin := m.origin, kind := m.kind, stations := m.stations,
               pressCount := m.count, registeredAt := m.since, clearance := (p.crossing c).clearance m.kind,
               extension := (p.crossing c).extension m.kind, seen := false } ∧
      Beside t.records (t.remove p i).records i ∧ look (t.remove p i).memos c = none ∧
      Beside t.memos (t.remove p i).memos c ∧
      ∀ j, look (t.remove p i).targets j =
        if look t.targets j = .record i then .none
        else if look t.targets j = .memo c then .record i else look t.targets j)

/-- Where a press goes: merged into the WAITING record, else into the GRANTED or WALKING one, else a new WAITING record, else the
crossing's memo. A merge adds the station, counts to 255, makes the origin PRESS and the record unseen, and keeps the rest. -/
def Obligations.PressPlaced : Prop :=
  ∀ (p : ProfileStore) (t : CallTable) (i : Station) (c : Crossing),
    (∀ k r, OnlyRecord t c CallState.isWaiting k r ∨
        (¬ HasRecord t c CallState.isWaiting ∧ OnlyRecord t c CallState.isJoinable k r) →
      ∃ u set, t.placePress p i c = (u, .record k) ∧ u = { t with records := u.records } ∧ JoinsSet i r.stations set ∧
        look u.records k =
          some { r with stations := set, pressCount := min (r.pressCount + 1) 255, origin := .press, seen := false } ∧
        Beside t.records u.records k) ∧
    (¬ HasRecord t c CallState.isWaiting → ¬ HasRecord t c CallState.isJoinable → HasFree t →
      ∃ u k, t.placePress p i c = (u, .record k) ∧ u = { t with records := u.records } ∧ look t.records k = none ∧
        look u.records k =
          some { crossing := c, state := .waiting, origin := .press, kind := .standard, stations := [i], pressCount := 1,
                 registeredAt := p.streetTime, clearance := (p.crossing c).clearance .standard, extension := 0,
                 seen := false } ∧
        Beside t.records u.records k) ∧
    (¬ HasRecord t c CallState.isWaiting → ¬ HasRecord t c CallState.isJoinable → ¬ HasFree t →
      ∃ u, t.placePress p i c = (u, .memo c) ∧ u = { t with memos := u.memos } ∧ Beside t.memos u.memos c ∧
        (look t.memos c = none →
          look u.memos c = some { since := p.streetTime, origin := .press, kind := .standard, stations := [i], count := 1 }) ∧
        ∀ m, look t.memos c = some m → ∃ set, JoinsSet i m.stations set ∧
          look u.memos c = some { m with stations := set, count := min (m.count + 1) 255, origin := .press })

/-- Where LINKED demand goes: as a press, but a merge changes a STANDARD record's kind by EXTENDED demand and nothing else, a new
record or memo is LINKED with no station, and a memo keeps all but its kind. -/
def Obligations.LinkedDemandPlaced : Prop :=
  ∀ (p : ProfileStore) (t : CallTable) (kind : CallKind) (c : Crossing),
    (∀ k r, OnlyRecord t c CallState.isWaiting k r ∨
        (¬ HasRecord t c CallState.isWaiting ∧ OnlyRecord t c CallState.isJoinable k r) →
      t.placeLinked p kind c = { t with records := (t.placeLinked p kind c).records } ∧
      Beside t.records (t.placeLinked p kind c).records k ∧
      look (t.placeLinked p kind c).records k =
        if kind = .extended ∧ r.kind = .standard then
          some { r with kind := .extended, clearance := (p.crossing c).clearance .extended,
                        extension := (p.crossing c).extension .extended, seen := false }
        else some r) ∧
    (¬ HasRecord t c CallState.isWaiting → ¬ HasRecord t c CallState.isJoinable → HasFree t →
      ∃ k, t.placeLinked p kind c = { t with records := (t.placeLinked p kind c).records } ∧ look t.records k = none ∧
        look (t.placeLinked p kind c).records k =
          some { crossing := c, state := .waiting, origin := .linked, kind := kind, stations := [], pressCount := 0,
                 registeredAt := p.streetTime, clearance := (p.crossing c).clearance kind,
                 extension := (p.crossing c).extension kind, seen := false } ∧
        Beside t.records (t.placeLinked p kind c).records k) ∧
    (¬ HasRecord t c CallState.isWaiting → ¬ HasRecord t c CallState.isJoinable → ¬ HasFree t →
      t.placeLinked p kind c = { t with memos := (t.placeLinked p kind c).memos } ∧
      Beside t.memos (t.placeLinked p kind c).memos c ∧
      (look t.memos c = none →
        look (t.placeLinked p kind c).memos c =
          some { since := p.streetTime, origin := .linked, kind := kind, stations := [], count := 0 }) ∧
      ∀ m, look t.memos c = some m →
        look (t.placeLinked p kind c).memos c = some { m with kind := if kind = .extended then .extended else m.kind })

/-- A registration on an enabled crossing is TAKEN: the press placed, the station's target what it went to, then linked demand of the
demand's kind to the other enabled members of the group where the crossing propagates, ascending. On a disabled crossing it is
DISCARDED, and only the target changes, to none (log 17). An upgrade makes what the target names EXTENDED and is carried alike. -/
def Obligations.RegistrationAndUpgrade : Prop :=
  ∀ (p : ProfileStore) (t : CallTable) (i : Station) (c : Crossing),
    ((p.crossing c).enabled = false → t.register p i c = ({ t with targets := put t.targets i .none }, .discarded)) ∧
    ((p.crossing c).enabled = true → ∃ u x kind, t.placePress p i c = (u, x) ∧
      t.register p i c =
        ((carriedTo p c).foldl (CallTable.placeLinked p kind) { u with targets := put u.targets i x }, .taken) ∧
      (∀ k r, x = .record k → look u.records k = some r → kind = r.kind) ∧
      (∀ m, x = .memo c → look u.memos c = some m → kind = m.kind)) ∧
    (∀ d, d ∈ carriedTo p c ↔ (p.crossing c).propagate = true ∧ d ≠ c ∧ (p.crossing d).enabled = true ∧
      (p.crossing c).linkGroup.isSome = true ∧ (p.crossing d).linkGroup = (p.crossing c).linkGroup) ∧
    (carriedTo p c).Pairwise (fun x y => x < y) ∧
    (look t.targets i = .none → t.upgrade p i = t) ∧
    (∀ k r, look t.targets i = .record k → look t.records k = some r →
      t.upgrade p i =
        (carriedTo p r.crossing).foldl (CallTable.placeLinked p .extended)
          { t with records := put t.records k (some
              (if r.kind = .extended then r
               else { r with kind := .extended, clearance := (p.crossing r.crossing).clearance .extended,
                             extension := (p.crossing r.crossing).extension .extended, seen := false })) }) ∧
    (∀ d m, look t.targets i = .memo d → look t.memos d = some m →
      t.upgrade p i =
        (carriedTo p d).foldl (CallTable.placeLinked p .extended)
          { t with memos := put t.memos d (some { m with kind := .extended }) })

/-! ## Lamps -/

/-- The permitted sequence, row by row: what a declaration on an enabled crossing that is not FAULTED raises, none being accepted;
a declaration that follows CONFLICT is tested as one that follows UNKNOWN. -/
def Obligations.PermittedSequence : Prop :=
  ∀ granted recallOk darkOk : Bool,
    (∀ a, a = .dontWalk ∨ a = .clearance → sequenceFault .unknown a granted recallOk darkOk = none) ∧
    (sequenceFault .unknown .walk false recallOk darkOk = if recallOk then none else some .uncommandedWalk) ∧
    (∀ a, a ≠ .dark → sequenceFault a .dark granted recallOk darkOk = if darkOk then none else some .lampsDark) ∧
    (sequenceFault .dontWalk .walk granted recallOk darkOk =
      if granted || recallOk then none else some .uncommandedWalk) ∧
    sequenceFault .dontWalk .clearance granted recallOk darkOk = some .outOfSequence ∧
    sequenceFault .walk .clearance granted recallOk darkOk = none ∧
    sequenceFault .walk .dontWalk granted recallOk darkOk = none ∧
    sequenceFault .clearance .dontWalk granted recallOk darkOk = none ∧
    sequenceFault .clearance .walk granted recallOk darkOk = some .outOfSequence ∧
    sequenceFault .dark .dontWalk granted recallOk darkOk = none ∧
    (∀ a, a = .walk ∨ a = .clearance → sequenceFault .dark a granted recallOk darkOk = some .outOfSequence) ∧
    (∀ a, sequenceFault a .conflict granted recallOk darkOk = some .aspectConflict) ∧
    ∀ a, sequenceFault .conflict a granted recallOk darkOk = sequenceFault .unknown a granted recallOk darkOk

/-- What an accepted declaration does to the crossing's records: WALK takes up the GRANTED record, else the WAITING one, else a RECALL
record, else an unserved walk; CLEARANCE moves the walk on; DONT_WALK ends it, truncated where it had no clearance. -/
def Obligations.DeclarationsMoveRecords : Prop :=
  ∀ (s : State) (c : Crossing),
    (∀ i r, OnlyRecord s.table c CallState.isGranted i r ∨
        (¬ HasRecord s.table c CallState.isGranted ∧ OnlyRecord s.table c CallState.isWaiting i r) →
      s.walkDeclared c = { s with table := { s.table with
        records := put s.table.records i (some { r with state := .walking s.store.streetTime, seen := false }) } }) ∧
    (¬ HasRecord s.table c CallState.isGranted → ¬ HasRecord s.table c CallState.isWaiting →
      (HasFree s.table → ∃ k, look s.table.records k = none ∧
        s.walkDeclared c = { s with table := { s.table with
          records := put s.table.records k (some
            { crossing := c, state := .walking s.store.streetTime, origin := .recall, kind := .standard, stations := [],
              pressCount := 0, registeredAt := s.store.streetTime,
              clearance := (s.store.crossing c).clearance .standard, extension := 0, seen := false }) } }) ∧
      (¬ HasFree s.table →
        s.walkDeclared c = { s with grants := put s.grants c { look s.grants c with unrecorded := .walk, unserved := true } })) ∧
    (∀ i r start, OnlyRecord s.table c CallState.isWalking i r → r.state = .walking start →
      s.clearanceDeclared c = { s with table := { s.table with
        records := put s.table.records i (some { r with state := .clearing start, seen := false }) } }) ∧
    (¬ HasRecord s.table c CallState.isWalking →
      s.clearanceDeclared c =
        if (look s.grants c).unrecorded = .walk then
          { s with grants := put s.grants c { look s.grants c with unrecorded := .clearance } }
        else s) ∧
    (∀ i r, OnlyRecord s.table c CallState.isServing i r →
      s.dontWalkDeclared c =
        if r.state.isGranted then s
        else if r.state.isWalking then
          { s with table := s.table.remove s.store i, grants := put s.grants c { look s.grants c with truncated := true } }
        else { s with table := s.table.remove s.store i }) ∧
    (¬ HasRecord s.table c CallState.isServing →
      s.dontWalkDeclared c =
        if (look s.grants c).unrecorded = .walk then
          { s with grants := put s.grants c { look s.grants c with unrecorded := .none, truncated := true } }
        else if (look s.grants c).unrecorded = .clearance then
          { s with grants := put s.grants c { look s.grants c with unrecorded := .none } }
        else s)

/-- STEADY_TIME_REACHED on a granted walk: W on and D off for the settle time over a GRANTED record is declared WALK; the record is
WALKING from this street time, unseen, and the gate of a crossing not held opens. No other crossing's call or lamps change.
The row is taken where W and D stand as the declaration needs them; a steady time shorter than the settle time is taken as
reached (log 2), which the hypothesis on D leaves aside. -/
def Obligations.GrantedWalk : Prop :=
  ∀ (s : State) (c : Crossing) (i : RecordSlot) (r : CallRecord), ServiceLaw s → GateLaw s → RecordAt s.table c i r →
    r.state.isGranted = true → (look s.aspects c).observed = .dontWalk → (look s.aspects c).w = true →
    (look s.aspects c).d = false → (s.store.crossing c).settle ≤ (look s.aspects c).dSteady →
    ∃ t, exec (.steadyTimeReached c .walk .settle) s = .next t ∧
      t = { s with table := { s.table with records := t.table.records }, aspects := t.aspects, cues := t.cues } ∧
      look t.table.records i = some { r with state := .walking s.store.streetTime, seen := false } ∧
      Beside s.table.records t.table.records i ∧
      look t.aspects c = { look s.aspects c with
        observed := .walk, undecodable := none,
        wSteady := max (look s.aspects c).wSteady (s.store.crossing c).settle } ∧
      Beside s.aspects t.aspects c ∧
      (look t.cues.gates c = true ↔ (look s.holds.flags c).held = false) ∧ Beside s.cues.gates t.cues.gates c ∧
      t.cues.corners = s.cues.corners

/-- What the lamps decode to, and what declaring it does at a crossing without a pending copy, at STEADY_TIME_REACHED and at
LAMP_LINE_CHANGE alike (y is the lamps' state that the row leaves before it is tested; a steady time is taken as reached, log 2):
no aspect starts the undecodable measure, any aspect stops it, an aspect that differs from the observed one is declared. On an enabled
crossing that is not FAULTED it raises the fault that its row of the permitted sequence names, with what that does to the records, or
is handed on: WALK takes up the GRANTED record, else the WAITING one, else a RECALL record, else runs unserved; CLEARANCE makes the WALKING
record CLEARING, DONT_WALK ends the walk (DeclarationsMoveRecords says record by record what the three hand-ons named here do). On a
FAULTED crossing it may be a further fault, on
a disabled one it changes the observed aspect alone. A DONT_WALK declaration completes the cycle waits. Where the crossing has a pending
copy, all of this is followed by what CROSSING_TRANSFER does, the gate being found once, after it (the model's choice, log 36;
a record freed before that is allocated first: the model's reading, log 35). -/
def Obligations.LampEventDeclares : Prop :=
  (∀ (x : AspectState) (settle : Nat),
    (x.qualifying settle = some .walk ↔ x.w = true ∧ x.d = false ∧ settle ≤ x.wSteady ∧ settle ≤ x.dSteady) ∧
    (x.qualifying settle = some .conflict ↔ x.w = true ∧ x.d = true ∧ settle ≤ x.wSteady ∧ settle ≤ x.dSteady) ∧
    (x.qualifying settle = some .clearance ↔ x.w = false ∧ x.run = .twoOrMore ∧ x.dSteady < 1500) ∧
    (x.qualifying settle = some .dontWalk ↔ x.w = false ∧ x.d = true ∧ 1500 ≤ x.dSteady ) ∧
    (x.qualifying settle = some .dark ↔ x.w = false ∧ x.d = false ∧ 1500 ≤ x.wSteady ∧ 1500 ≤ x.dSteady) ∧
    x.qualifying settle ≠ some .unknown) ∧
  (∀ (s u t : State) (c : Crossing) (i : Instr), (∃ w d, i = .lampLineChange c w d) ∨ (∃ l m, i = .steadyTimeReached c l m) →
    u = { s with store := { s.store with
      crossings := put s.store.crossings c { look s.store.crossings c with pending := none } } } →
    exec i u = .next t → exec i s = exec (.crossingTransfer c) { t with store := s.store, cues := s.cues }) ∧
  ∀ (s : State) (c : Crossing) (i : Instr) (x y : AspectState), x = look s.aspects c → GateLaw s →
    (look s.store.crossings c).pending = none →
    ((∃ w d, i = .lampLineChange c w d ∧ y = x.changeLines w d) ∨
      ∃ m n, n = (if m = .settle then (s.store.crossing c).settle else 1500) ∧
        (i = .steadyTimeReached c .walk m ∧ y = { x with wSteady := max x.wSteady n } ∨
          i = .steadyTimeReached c .dontWalk m ∧ y = { x with dSteady := max x.dSteady n })) →
    ∃ t, exec i s = .next t ∧
      t = { s with
            table := t.table, grants := t.grants, aspects := t.aspects
            holds := { s.holds with flags := t.holds.flags }
            cues := t.cues } ∧
      GateLaw t ∧ t.cues.corners = s.cues.corners ∧
      Beside s.aspects t.aspects c ∧ Beside s.grants t.grants c ∧ Beside s.holds.flags t.holds.flags c ∧
      (y.qualifying (s.store.crossing c).settle = none →
        look t.aspects c = { y with
          undecodable := if x.undecodable.isSome then x.undecodable else some { time := 0, acted := false } } ∧
        t = { s with aspects := t.aspects }) ∧
      (y.qualifying (s.store.crossing c).settle = some x.observed →
        look t.aspects c = { y with undecodable := none } ∧ t = { s with aspects := t.aspects }) ∧
      ∀ a, y.qualifying (s.store.crossing c).settle = some a → a ≠ x.observed →
        (look t.aspects c).observed = a ∧ (look t.aspects c).undecodable = none ∧
        (a ≠ .dontWalk → t.holds = s.holds) ∧
        (a = .dontWalk → (look t.holds.flags c).s = (look s.holds.flags c).s ∧ ∀ l,
          (look t.holds.flags c).wait l = false ∧
          ((look t.holds.flags c).flag l = true ↔
            (look s.holds.flags c).flag l = true ∧ (look s.holds.flags c).wait l = false)) ∧
        ((s.store.crossing c).enabled = false →
          look t.aspects c = { y with observed := a, undecodable := none } ∧ t.table = s.table ∧ t.grants = s.grants) ∧
        ((s.store.crossing c).enabled = true → ∀ f, x.fault = some f →
          look t.aspects c = { y with
            observed := a, undecodable := none
            further := x.further || (sequenceFault x.observed a false (s.store.crossing c).recallPermitted
              (s.store.crossing c).darkPermitted).isSome
            notice := x.notice || (sequenceFault x.observed a false (s.store.crossing c).recallPermitted
              (s.store.crossing c).darkPermitted).isSome } ∧
          t.table = s.table ∧ t.grants = s.grants) ∧
        ((s.store.crossing c).enabled = true → x.fault = none →
          ∀ granted, (granted = true ↔ HasRecord s.table c CallState.isGranted) →
            (∀ f, sequenceFault x.observed a granted (s.store.crossing c).recallPermitted
                (s.store.crossing c).darkPermitted = some f →
              look t.aspects c = { y with
                observed := a, undecodable := none, fault := some f, further := false, notice := true } ∧
              look t.grants c = { look s.grants c with unrecorded := .none } ∧ look t.cues.gates c = false ∧
              (¬ HasRecord s.table c CallState.isServing → t.table = s.table) ∧
              ∀ k r, OnlyRecord s.table c CallState.isServing k r →
                t.table =
                  if r.state.isGranted then
                    { s.table with records := put s.table.records k (some { r with state := .waiting, seen := false }) }
                  else s.table.remove s.store k) ∧
            (sequenceFault x.observed a granted (s.store.crossing c).recallPermitted
                (s.store.crossing c).darkPermitted = none →
              look t.aspects c = { y with observed := a, undecodable := none } ∧
              (a = .dark → t.table = s.table ∧ t.grants = s.grants) ∧
              (a = .walk → t.table = (s.walkDeclared c).table ∧ t.grants = (s.walkDeclared c).grants) ∧
              (a = .clearance → t.table = (s.clearanceDeclared c).table ∧ t.grants = (s.clearanceDeclared c).grants) ∧
              (a = .dontWalk → t.table = (s.dontWalkDeclared c).table ∧ t.grants = (s.dontWalkDeclared c).grants) ∧
              (a = .clearance → ∀ k r start, OnlyRecord s.table c CallState.isWalking k r → r.state = .walking start →
                t.grants = s.grants ∧
                t.table = { s.table with
                  records := put s.table.records k (some { r with state := .clearing start, seen := false }) }) ∧
              (a = .dontWalk → ∀ k r, OnlyRecord s.table c CallState.isServing k r →
                (∀ start, r.state = .clearing start → t.table = s.table.remove s.store k ∧ t.grants = s.grants) ∧
                ∀ start, r.state = .walking start → t.table = s.table.remove s.store k ∧
                  look t.grants c = { look s.grants c with truncated := true })))

/-- A change of W or D sets the level and restarts its steady time; a D transition 200..1200 ms after the last and not together with a
change of W grows the flash run, any other begins it at 1. A change of W in the same millisecond counts as together (log 11). -/
def Obligations.LampLineChange : Prop :=
  ∀ (s : State) (c : Crossing) (w d : Bool), ∃ t, exec (.lampLineChange c w d) s = .next t ∧
    (look t.aspects c).w = w ∧ (look t.aspects c).d = d ∧
    (look t.aspects c).wSteady = (if w = (look s.aspects c).w then (look s.aspects c).wSteady else 0) ∧
    (look t.aspects c).dSteady = (if d = (look s.aspects c).d then (look s.aspects c).dSteady else 0) ∧
    (d ≠ (look s.aspects c).d →
      (look t.aspects c).run =
        if w = (look s.aspects c).w ∧ (look s.aspects c).wSteady ≠ 0 ∧ (look s.aspects c).dSeen = true ∧
            200 ≤ (look s.aspects c).dSteady ∧ (look s.aspects c).dSteady ≤ 1200 then (look s.aspects c).run.grow
        else .one) ∧
    (d = (look s.aspects c).d → w = (look s.aspects c).w ∨ (look s.aspects c).dSteady ≠ 0 →
      (look t.aspects c).run = (look s.aspects c).run) ∧
    Beside s.aspects t.aspects c

/-- The undecodable limit acts once on a stretch: on an enabled crossing not FAULTED it raises UNDECODABLE with its notice, a GRANTED
record returns to WAITING and a WALKING or CLEARING one is removed, and an unrecorded walk ends; on a FAULTED one it is a further
fault; on a disabled one nothing. A pending copy is then tested for its transfer, as CROSSING_TRANSFER does it, a record freed before that
being allocated first (log 35) and the gate found once, after it (log 36).
A row given before its limit takes its moment as come (the model's choice, log 2), a second one does nothing (log 25), and one before
which a CLEAR FAULT restarted the measure at the same moment only loses its mark (log 30). -/
def Obligations.UndecodableLimit : Prop :=
  ∀ (s : State) (c : Crossing),
    ((look s.aspects c).limitLapsed = true → ∃ t, exec (.undecodableLimit c) s = .next t ∧ t = { s with aspects := t.aspects } ∧
      look t.aspects c = { look s.aspects c with limitLapsed := false } ∧ Beside s.aspects t.aspects c) ∧
    ((look s.aspects c).limitLapsed = false → (look s.aspects c).undecodable = none → exec (.undecodableLimit c) s = .next s) ∧
    (∀ m, (look s.aspects c).limitLapsed = false → (look s.aspects c).undecodable = some m → m.acted = true →
      exec (.undecodableLimit c) s = .next s) ∧
    (∀ m u t, (look s.aspects c).limitLapsed = false → (look s.aspects c).undecodable = some m → m.acted = false →
      u = { s with store := { s.store with
        crossings := put s.store.crossings c { look s.store.crossings c with pending := none } } } →
      exec (.undecodableLimit c) u = .next t →
      exec (.undecodableLimit c) s = exec (.crossingTransfer c) { t with store := s.store, cues := s.cues }) ∧
    (∀ m, (look s.aspects c).limitLapsed = false → (look s.aspects c).undecodable = some m → m.acted = false →
      (look s.store.crossings c).pending = none →
      ∃ t, exec (.undecodableLimit c) s = .next t ∧
        t = { s with table := t.table, grants := t.grants, aspects := t.aspects, cues := t.cues } ∧
        Beside s.aspects t.aspects c ∧ Beside s.grants t.grants c ∧
        (look t.aspects c).undecodable = some { time := max m.time 3000, acted := true } ∧
        (look t.aspects c).observed = (look s.aspects c).observed ∧
        ((s.store.crossing c).enabled = true → (look s.aspects c).fault = none →
          (look t.aspects c).fault = some .undecodable ∧ (look t.aspects c).further = false ∧
          (look t.aspects c).notice = true ∧ look t.grants c = { look s.grants c with unrecorded := .none } ∧
          look t.cues.gates c = false ∧
          (¬ HasRecord s.table c CallState.isServing → t.table = s.table) ∧
          ∀ i r, OnlyRecord s.table c CallState.isServing i r →
            t.table =
              if r.state.isGranted then
                { s.table with records := put s.table.records i (some { r with state := .waiting, seen := false }) }
              else s.table.remove s.store i) ∧
        ((s.store.crossing c).enabled = true → ∀ f, (look s.aspects c).fault = some f →
          (look t.aspects c).fault = some f ∧ (look t.aspects c).further = true ∧ (look t.aspects c).notice = true ∧
          t.table = s.table ∧ t.grants = s.grants) ∧
        ((s.store.crossing c).enabled = false →
          (look t.aspects c).fault = (look s.aspects c).fault ∧ (look t.aspects c).further = (look s.aspects c).further ∧
          (look t.aspects c).notice = (look s.aspects c).notice ∧ t.table = s.table ∧ t.grants = s.grants))

/-- CROSSING_TRANSFER: at the transfer point (no serving record over DONT_WALK, DARK or UNKNOWN, or a disabled active copy) the pending
copy becomes the active one. A transfer that disables an enabled crossing leaves it no record and no memo; one to a disabled copy ends an
unrecorded walk; one to an enabled copy computes the WAITING record's advice again (u is the state so far). A transfer that enables the
crossing checks its observed aspect as though declared from UNKNOWN: a fault is raised, or the aspect is handed on (v is the state after
that). The lamps are then tested at the new settle time, just as a change of no line tests them (LampEventDeclares); where no aspect
qualifies at an enabling transfer, an undecodable measure at its limit raises UNDECODABLE. Without a pending copy, or away from that
point, nothing changes. The row given alone acts when its condition holds (log 24); the order of its parts is the model's reading
(log 15), and the gate is found once, after them all (the model's choice, log 36). -/
def Obligations.CrossingTransfer : Prop :=
  ∀ (s : State) (c : Crossing),
    (GateLaw s → (look s.store.crossings c).pending = none → exec (.crossingTransfer c) s = .next s) ∧
    (GateLaw s → (s.store.crossing c).enabled = true →
      (HasRecord s.table c CallState.isServing ∨ (look s.aspects c).observed = .walk ∨
        (look s.aspects c).observed = .clearance ∨ (look s.aspects c).observed = .conflict) →
      exec (.crossingTransfer c) s = .next s) ∧
    (∀ (new : CrossingProfile) (x : AspectState) (was : Bool), (look s.store.crossings c).pending = some new →
      AtTransferPoint s c → x = look s.aspects c → was = (s.store.crossing c).enabled →
      ∃ u v t, exec (.crossingTransfer c) s = .next t ∧
        t.store = { s.store with crossings := put s.store.crossings c { active := new, pending := none } } ∧
        (ServiceLaw s → was = true → new.enabled = false →
          (∀ i r, look t.table.records i = some r → r.crossing ≠ c) ∧ look t.table.memos c = none) ∧
        u = { s with
              store := { s.store with crossings := put s.store.crossings c { active := new, pending := none } }
              table := u.table, grants := u.grants } ∧
        Beside s.grants u.grants c ∧
        look u.grants c =
          (if new.enabled then look s.grants c else { look s.grants c with unrecorded := .none }) ∧
        (new.enabled = true →
          (¬ HasRecord s.table c CallState.isWaiting → u.table = s.table) ∧
          ∀ k r, OnlyRecord s.table c CallState.isWaiting k r →
            u.table = { s.table with records := put s.table.records k (some { r with
              clearance := new.clearance r.kind, extension := new.extension r.kind
              seen := r.seen && decide (r.clearance = new.clearance r.kind ∧ r.extension = new.extension r.kind) }) }) ∧
        (new.enabled = false → was = true →
          (¬ HasRecord s.table c CallState.isWaiting → u.table = s.table.clearMemo c) ∧
          ∀ k r, OnlyRecord s.table c CallState.isWaiting k r → u.table = (s.table.clearMemo c).remove u.store k) ∧
        (new.enabled = false → was = false → u.table = s.table) ∧
        (was = true ∨ new.enabled = false → v = u) ∧
        (was = false → new.enabled = true →
          v = { u with table := v.table, grants := v.grants, aspects := v.aspects } ∧
          (x.fault ≠ none ∨ x.observed = .unknown → v = u) ∧
          (x.fault = none → x.observed ≠ .unknown →
            ∀ granted, (granted = true ↔ HasRecord s.table c CallState.isGranted) →
              (∀ f, sequenceFault .unknown x.observed granted new.recallPermitted new.darkPermitted = some f →
                FaultRaised u c f x v) ∧
              (sequenceFault .unknown x.observed granted new.recallPermitted new.darkPermitted = none →
                (x.observed = .walk → v = u.walkDeclared c) ∧ (x.observed = .clearance → v = u.clearanceDeclared c) ∧
                (x.observed = .dontWalk → v = u.dontWalkDeclared c) ∧ (x.observed = .dark → v = u)))) ∧
        (was = true ∨ new.enabled = false ∨ x.qualifying new.settle ≠ none →
          exec (.lampLineChange c x.w x.d) v = .next t) ∧
        (was = true ∨ new.enabled = false → x.qualifying new.settle = none ∨ x.qualifying new.settle = some x.observed →
          t.table = u.table ∧ t.grants = u.grants) ∧
        (was = false → new.enabled = true → x.qualifying new.settle = none →
          t = { v with table := t.table, grants := t.grants, aspects := t.aspects, cues := t.cues } ∧
          (GateLaw s → GateLaw t) ∧ t.cues.corners = s.cues.corners ∧
          (∀ m, x.undecodable = some m → 3000 ≤ m.time → (look v.aspects c).fault = none →
            FaultRaised v c .undecodable
              { look v.aspects c with undecodable := some { m with acted := true } } t) ∧
          ((∀ m, x.undecodable = some m → m.time < 3000) ∨ (look v.aspects c).fault ≠ none →
            t = { v with aspects := t.aspects, cues := t.cues } ∧ Beside v.aspects t.aspects c ∧
            look t.aspects c = { look v.aspects c with
              undecodable := if x.undecodable.isSome then x.undecodable else some { time := 0, acted := false } }))) ∧
    (∀ (p : ProfileStore) (i : RecordSlot) (r : CallRecord) (was : Bool), (p.crossing c).enabled = true →
      OnlyRecord s.table c CallState.isWaiting i r →
      s.table.transfer p c was = { s.table with records := (s.table.transfer p c was).records } ∧
        Beside s.table.records (s.table.transfer p c was).records i ∧
        look (s.table.transfer p c was).records i = some { r with
          clearance := (p.crossing c).clearance r.kind, extension := (p.crossing c).extension r.kind,
          seen := r.seen && decide (r.clearance = (p.crossing c).clearance r.kind ∧
            r.extension = (p.crossing c).extension r.kind) })

/-- A lamp change, a steady time, the undecodable limit, an expiry, a transfer or a cycle wait's end at crossing c leaves every other
crossing's profile, lamps, faults, notices, unrecorded walk, hold flags, gate and records, every press state, every link, every level,
every locator phase and the pending response as they stand. A removal at c may make a record of another crossing's memo; where no memo
is present, no other crossing gains a record or a memo. -/
def Obligations.CrossingEventsStayThere : Prop :=
  ∀ (s : State) (c : Crossing) (i : Instr),
    (∃ w d, i = .lampLineChange c w d) ∨ (∃ l m, i = .steadyTimeReached c l m) ∨ i = .undecodableLimit c ∨
        i = .grantWindowExpiry c ∨ i = .crossingTransfer c ∨ i = .cycleWaitComplete c →
    ∃ t, exec i s = .next t ∧
      t = { s with
            store := { s.store with crossings := t.store.crossings }
            table := t.table, grants := t.grants, aspects := t.aspects
            holds := { s.holds with flags := t.holds.flags }
            cues := t.cues } ∧
      Beside s.store.crossings t.store.crossings c ∧ Beside s.aspects t.aspects c ∧ Beside s.grants t.grants c ∧
      Beside s.holds.flags t.holds.flags c ∧ Beside s.cues.gates t.cues.gates c ∧ t.cues.corners = s.cues.corners ∧
      (∀ k r, look s.table.records k = some r → r.crossing ≠ c → look t.table.records k = some r) ∧
      ((∀ d, look s.table.memos d = none) →
        (∀ k r, look t.table.records k = some r → r.crossing ≠ c → look s.table.records k = some r) ∧
        ∀ d, look t.table.memos d = none)

/-! ## Holds -/

/-- A hold line's change: INACTIVE to ACTIVE sets its flag on the enabled crossings that respond to it and drops its waits; ACTIVE to
INACTIVE begins the release of its mode. The other line, flag S and the timer stand; every gate is then as its law says. -/
def Obligations.HoldLineChange : Prop :=
  ∀ (s : State) (l : HoldLine) (x : Level), ∃ t, exec (.holdLineChange l x) s = .next t ∧
    t = { s with holds := t.holds, cues := t.cues } ∧ GateLaw t ∧ t.cues.corners = s.cues.corners ∧
    t.holds.sensed l = x ∧ (∀ m, m ≠ l → t.holds.sensed m = s.holds.sensed m) ∧
    t.holds.timer = s.holds.timer ∧ t.holds.softwareSet = s.holds.softwareSet ∧
    t.holds.expiryLapsed = s.holds.expiryLapsed ∧
    (∀ c, (look s.holds.flags c).BesideLine l (look t.holds.flags c)) ∧
    (lineActive s.store t.holds l = lineActive s.store s.holds l → t.holds.flags = s.holds.flags) ∧
    (lineActive s.store s.holds l = false → lineActive s.store t.holds l = true →
      ∀ c, (look s.holds.flags c).Activated (s.store.crossing c) l (look t.holds.flags c)) ∧
    (lineActive s.store s.holds l = true → lineActive s.store t.holds l = false →
      ∀ c, (look s.holds.flags c).Released (s.store.line l).releaseMode (look s.aspects c).observed l (look t.holds.flags c))

/-- CYCLE_WAIT_COMPLETE: over DONT_WALK each line whose wait on the crossing is waiting has its flag there cleared and the wait ended; over
another aspect nothing changes (the row alone acts on the aspect as it stands, log 24). SOFTWARE_HOLD_EXPIRY: flag S is cleared on every
crossing, the set becomes empty, the timer stops, and the gates are found again; with a stopped timer nothing changes,
and a run-out before which a SET HOLD was taken at the same moment only loses its mark (log 30).
A SOFTWARE_HOLD_EXPIRY before the timer has run out takes its moment as come (log 2). -/
def Obligations.HoldReleases : Prop :=
  (∀ (s : State) (c : Crossing), GateLaw s →
    ((look s.aspects c).observed = .dontWalk → ∃ t, exec (.cycleWaitComplete c) s = .next t ∧
      t = { s with holds := { s.holds with flags := t.holds.flags } } ∧ Beside s.holds.flags t.holds.flags c ∧
      (look t.holds.flags c).s = (look s.holds.flags c).s ∧
      ∀ l, (look t.holds.flags c).wait l = false ∧
        ((look t.holds.flags c).flag l = true ↔
          (look s.holds.flags c).flag l = true ∧ (look s.holds.flags c).wait l = false)) ∧
    ((look s.aspects c).observed ≠ .dontWalk → exec (.cycleWaitComplete c) s = .next s)) ∧
  (∀ s : State,
    (s.holds.expiryLapsed = true →
      exec .softwareHoldExpiry s = .next { s with holds := { s.holds with expiryLapsed := false } }) ∧
    (s.holds.expiryLapsed = false → s.holds.timer = none → exec .softwareHoldExpiry s = .next s) ∧
    (s.holds.expiryLapsed = false → s.holds.timer.isSome = true → ∃ t, exec .softwareHoldExpiry s = .next t ∧
      t = { s with
            holds := { s.holds with flags := t.holds.flags, timer := none, softwareSet := [] }
            cues := t.cues } ∧
      GateLaw t ∧ t.cues.corners = s.cues.corners ∧
      ∀ c, look t.holds.flags c = { look s.holds.flags c with s := false }))

/-- SET HOLD: a set with a member past 23 is refused with RANGE; a time of 1 to 3600 s, or a longer one clamped and answered ADJUSTED,
starts a new hold over exactly the set; a time of 0 ends the hold, answered OK or, where the timer was stopped, NONE. Flags A and B, their
waits and the lines stand. A run-out of the timer that has fallen due at the same moment is then not taken, which the mark expiryLapsed,
the model's own, says (log 30). -/
def Obligations.SetHold : Prop :=
  ∀ (s : State) (set : BitVec 32) (time : Word16),
    (∀ n, 24 ≤ n → set.getLsbD n = true → exec (.setHold set time) s = .next (s.answer .range)) ∧
    ((∀ n, 24 ≤ n → set.getLsbD n = false) → ∃ t, exec (.setHold set time) s = .next t ∧
      t = { s with
            holds := { s.holds with
              flags := t.holds.flags, timer := t.holds.timer, softwareSet := t.holds.softwareSet
              expiryLapsed := s.holds.expiryLapsed || s.holds.timer == some 0 }
            cues := t.cues, response := t.response } ∧
      GateLaw t ∧ t.cues.corners = s.cues.corners ∧ t.response.fields = [] ∧
      (∀ c, look t.holds.flags c = { look s.holds.flags c with s := (look t.holds.flags c).s }) ∧
      (time ≠ 0 →
        t.holds.timer = some (min time.toNat 3600 * 1000) ∧
        (∀ c : Crossing, (look t.holds.flags c).s = set.getLsbD c.val) ∧
        (∀ c : Crossing, c ∈ t.holds.softwareSet ↔ set.getLsbD c.val = true) ∧
        t.response.status = if time.toNat ≤ 3600 then .ok else .adjusted) ∧
      (time = 0 →
        t.holds.timer = none ∧ (∀ c : Crossing, (look t.holds.flags c).s = false) ∧ t.holds.softwareSet = [] ∧
        t.response.status = if s.holds.timer.isSome then .ok else .none))

/-- A LATCH line going INACTIVE clears nothing. RELEASE LINE HOLD: a line code other than A and B is refused with RANGE; on an ACTIVE line
STATE, on an INACTIVE one with a flag set every flag and wait of the line ends, OK; with none set, NONE. -/
def Obligations.ReleaseLineHold : Prop :=
  ∀ (s : State) (n : Byte),
    (∀ l x t, (s.store.line l).releaseMode = .latch → lineActive s.store s.holds l = true →
      exec (.holdLineChange l x) s = .next t → t.holds.flags = s.holds.flags) ∧
    (2 ≤ n.toNat → exec (.releaseLineHold n) s = .next (s.answer .range)) ∧
    (∀ l, (n = 0 ∧ l = .a ∨ n = 1 ∧ l = .b) →
      (lineActive s.store s.holds l = true → exec (.releaseLineHold n) s = .next (s.answer .state)) ∧
      (lineActive s.store s.holds l = false →
        ((∀ c, (look s.holds.flags c).flag l = false) → exec (.releaseLineHold n) s = .next (s.answer .none)) ∧
        (∀ c, (look s.holds.flags c).flag l = true → ∃ t, exec (.releaseLineHold n) s = .next t ∧
          t = { s with
                holds := { s.holds with flags := t.holds.flags }
                cues := t.cues, response := { status := .ok, fields := [] } } ∧
          GateLaw t ∧ t.cues.corners = s.cues.corners ∧
          ∀ d, (look t.holds.flags d).flag l = false ∧ (look t.holds.flags d).wait l = false ∧
            (look s.holds.flags d).BesideLine l (look t.holds.flags d))))

/-! ## Profiles and street settings -/

/-- SET STREET MODE puts the mode in force and answers OK. A change of mode computes every station's effective range again and clamps a
present output level into it at once; the mode already in force changes nothing. -/
def Obligations.SetStreetMode : Prop :=
  ∀ (s : State) (n : Byte) (m : StreetMode), (n = 0 ∧ m = .day ∨ n = 1 ∧ m = .night) →
    (s.store.mode = m → exec (.setStreetMode n) s = .next (s.answer .ok)) ∧
    (s.store.mode ≠ m → ∃ t, exec (.setStreetMode n) s = .next t ∧
      t = { s with
            store := { s.store with mode := m }, levels := t.levels, response := { status := .ok, fields := [] } } ∧
      ∀ i, ∃ lo hi, IsRange (s.store.station i) m lo hi ∧
        look t.levels i = { look s.levels i with
          minimum := lo, maximum := hi, output := (look s.levels i).output.map fun o => max lo (min hi o) })

/-- The fields of the three profile writes: each code named, each number rounded down to its step and clamped, then the limits across
fields; whether any number was changed decides between ADJUSTED and OK. -/
def Obligations.WrittenFields : Prop :=
  (∀ f : CrossingFields, f.enabled.toNat < 2 → (f.linkGroup.toNat < 8 ∨ f.linkGroup = 255) → f.propagate.toNat < 2 →
    f.recallPermitted.toNat < 2 → f.darkPermitted.toNat < 2 → f.respondsA.toNat < 2 → f.respondsB.toNat < 2 →
    ∃ p adjusted, crossingProfileOf f = some (p, adjusted) ∧
      p.enabled = decide (f.enabled = 1) ∧ p.propagate = decide (f.propagate = 1) ∧
      p.recallPermitted = decide (f.recallPermitted = 1) ∧ p.darkPermitted = decide (f.darkPermitted = 1) ∧
      p.respondsA = decide (f.respondsA = 1) ∧ p.respondsB = decide (f.respondsB = 1) ∧
      p.linkGroup.map Fin.val = (if f.linkGroup = 255 then none else some f.linkGroup.toNat) ∧
      p.length = max 30 (min 400 f.length.toNat) ∧ p.standardSpeed = max 80 (min 150 f.standardSpeed.toNat) ∧
      p.extendedSpeed = min (max 50 (min 120 f.extendedSpeed.toNat)) p.standardSpeed ∧
      p.settle = max 100 (min 1000 (f.settle.toNat / 50 * 50)) ∧
      (adjusted = false ↔ p.length = f.length.toNat ∧ p.standardSpeed = f.standardSpeed.toNat ∧
        p.extendedSpeed = f.extendedSpeed.toNat ∧ p.settle = f.settle.toNat)) ∧
  (∀ f : StationFields, f.enabled.toNat < 2 → f.crossing.toNat < 24 → f.corner.toNat < 32 → f.walkCue.toNat < 2 →
    f.walkMessage.toNat < 16 → (f.infoMessage.toNat < 16 ∨ f.infoMessage = 255) → f.indicator.toNat < 7 →
    f.invert.toNat < 2 → f.blink.toNat < 2 →
    ∃ p adjusted, stationProfileOf f = some (p, adjusted) ∧
      p.enabled = decide (f.enabled = 1) ∧ p.crossing.val = f.crossing.toNat ∧ p.corner.val = f.corner.toNat ∧
      p.walkCue.code = f.walkCue.toNat ∧ p.walkMessage.val = f.walkMessage.toNat ∧
      p.infoMessage.map Fin.val = (if f.infoMessage = 255 then none else some f.infoMessage.toNat) ∧
      p.wantSpeaker = f.wanted.getLsbD 3 ∧ p.wantTactile = f.wanted.getLsbD 2 ∧ p.wantMicrophone = f.wanted.getLsbD 1 ∧
      p.wantSpeech = f.wanted.getLsbD 0 ∧ p.indicator.code = f.indicator.toNat ∧ p.invert = decide (f.invert = 1) ∧
      p.blink = decide (f.blink = 1) ∧ p.noiseCode = min 7 f.noiseCode.toNat ∧
      p.longThreshold = max 500 (min 3000 (f.longThreshold.toNat / 100 * 100)) ∧
      p.stuckLimit = max 30 f.stuckLimit.toNat ∧
      p.doubleWindow = (if f.doubleWindow.toNat < 100 then 0 else max 200 (min 1500 (f.doubleWindow.toNat / 100 * 100))) ∧
      p.margin = min 15 f.margin.toNat ∧ p.maxLevel = max 40 (min 100 f.maxLevel.toNat) ∧
      p.minLevel = min (max 30 (min 90 f.minLevel.toNat)) p.maxLevel ∧
      p.nightCap = max 40 (min 100 f.nightCap.toNat) ∧ p.walkBoost = min 6 f.walkBoost.toNat ∧
      (adjusted = false ↔ p.noiseCode = f.noiseCode.toNat ∧ p.longThreshold = f.longThreshold.toNat ∧
        p.stuckLimit = f.stuckLimit.toNat ∧ p.doubleWindow = f.doubleWindow.toNat ∧ p.margin = f.margin.toNat ∧
        p.maxLevel = f.maxLevel.toNat ∧ p.minLevel = f.minLevel.toNat ∧ p.nightCap = f.nightCap.toNat ∧
        p.walkBoost = f.walkBoost.toNat)) ∧
  ∀ f : CornerFields, f.nightLocator.toNat < 2 → ∃ p adjusted, cornerProfileOf f = some (p, adjusted) ∧
    p.nightLocator = decide (f.nightLocator = 1) ∧ p.period = max 500 (min 2000 (f.period.toNat / 50 * 50)) ∧
    p.offset = max 100 (min (p.period - 100) (f.offset.toNat / 50 * 50)) ∧
    p.gap = min 1000 (f.gap.toNat / 50 * 50) ∧
    (adjusted = false ↔ p.period = f.period.toNat ∧ p.offset = f.offset.toNat ∧ p.gap = f.gap.toNat)

/-- WRITE CROSSING, its codes defined: the profile written replaces any pending copy; where the transfer point holds it becomes the active
copy at once, as CROSSING_TRANSFER does it, and away from it nothing else changes. ADJUSTED where a field was brought into range, OK
otherwise. -/
def Obligations.WriteCrossing : Prop :=
  ∀ (s : State) (n : Byte) (c : Crossing) (f : CrossingFields) (new : CrossingProfile) (adjusted : Bool), GateLaw s →
    n.toNat = c.val → crossingProfileOf f = some (new, adjusted) →
    ∃ t, exec (.writeCrossing n f) s = .next t ∧
      t.response = { status := if adjusted then .adjusted else .ok, fields := [] } ∧
      t.store = { s.store with crossings := t.store.crossings } ∧ Beside s.store.crossings t.store.crossings c ∧
      (AtTransferPoint s c → look t.store.crossings c = { active := new, pending := none } ∧
        ∃ u, exec (.crossingTransfer c)
            { s with store := { s.store with
              crossings := put s.store.crossings c { look s.store.crossings c with pending := some new } } } = .next u ∧
          t = { u with response := t.response }) ∧
      (¬ AtTransferPoint s c →
        look t.store.crossings c = { look s.store.crossings c with pending := some new } ∧
          t = { s with store := t.store, response := t.response })

/-- WRITE STATION, its codes defined: refused with LIMIT, changing nothing else, where 4 other stations count at the written crossing or 6
at the written corner; otherwise the profile written becomes the pending copy and nothing else changes. A station counts where its pending
copy, or else its active copy, places it. WRITE CORNER, its code defined: the profile written becomes the pending copy. -/
def Obligations.WriteStationAndCorner : Prop :=
  (∀ (s : State) (n : Byte) (i : Station) (f : StationFields) (new : StationProfile) (adjusted : Bool), n.toNat = i.val →
    stationProfileOf f = some (new, adjusted) →
    (4 ≤ countWhere (fun j : Station => j != i && (look s.store.stations j).counted.crossing == new.crossing) ∨
        6 ≤ countWhere (fun j : Station => j != i && (look s.store.stations j).counted.corner == new.corner) →
      exec (.writeStation n f) s = .next (s.answer .limit)) ∧
    (countWhere (fun j : Station => j != i && (look s.store.stations j).counted.crossing == new.crossing) ≤ 3 →
      countWhere (fun j : Station => j != i && (look s.store.stations j).counted.corner == new.corner) ≤ 5 →
      ∃ t, exec (.writeStation n f) s = .next t ∧
        t = { s with
              store := { s.store with stations := t.store.stations }
              response := { status := if adjusted then .adjusted else .ok, fields := [] } } ∧
        look t.store.stations i = { look s.store.stations i with pending := some new } ∧
        Beside s.store.stations t.store.stations i)) ∧
  (∀ (s : State) (n : Byte) (k : Corner) (f : CornerFields) (new : CornerProfile) (adjusted : Bool), n.toNat = k.val →
    cornerProfileOf f = some (new, adjusted) →
    ∃ t, exec (.writeCorner n f) s = .next t ∧
      t = { s with
            store := { s.store with corners := t.store.corners }
            response := { status := if adjusted then .adjusted else .ok, fields := [] } } ∧
      look t.store.corners k = { look s.store.corners k with pending := some new } ∧
      Beside s.store.corners t.store.corners k)

/-- WRITE STREET, its codes defined: both lines' settings are in force at once, and a line that so becomes ACTIVE or INACTIVE, or changes
mode while INACTIVE, is dealt with as an activation, as a release, or by its new mode. The frame length is clamped to 1..48 and held. -/
def Obligations.WriteStreet : Prop :=
  ∀ (s : State) (la lb : Level) (ma mb : ReleaseMode) (n : Byte), ∃ t,
    exec (.writeStreet (if la = .low then 0 else 1) (byte ma.code) (if lb = .low then 0 else 1) (byte mb.code) n) s = .next t ∧
    t = { s with
          store := { s.store with
            lineA := { activeLevel := la, releaseMode := ma }, lineB := { activeLevel := lb, releaseMode := mb }
            nextFrameLength := some (max 1 (min 48 n.toNat)) }
          holds := { s.holds with flags := t.holds.flags }
          cues := t.cues
          response := { status := if 1 ≤ n.toNat ∧ n.toNat ≤ 48 then .ok else .adjusted, fields := [] } } ∧
    GateLaw t ∧ t.cues.corners = s.cues.corners ∧ (∀ c, (look t.holds.flags c).s = (look s.holds.flags c).s) ∧
    ∀ (l : HoldLine) (c : Crossing),
      (lineActive s.store s.holds l = false → lineActive t.store t.holds l = true →
        (look s.holds.flags c).Activated (s.store.crossing c) l (look t.holds.flags c)) ∧
      (lineActive t.store t.holds l = false →
        (lineActive s.store s.holds l = true ∨ (t.store.line l).releaseMode ≠ (s.store.line l).releaseMode) →
        ((t.store.line l).releaseMode = .level →
          (look t.holds.flags c).flag l = false ∧ (look t.holds.flags c).wait l = false) ∧
        ((t.store.line l).releaseMode = .cycle → (look s.holds.flags c).flag l = true →
          ((look t.holds.flags c).flag l = true ↔ (look s.aspects c).observed = .walk ∨
            (look s.aspects c).observed = .clearance ∨ (look s.aspects c).observed = .conflict) ∧
          (look t.holds.flags c).wait l = (look t.holds.flags c).flag l) ∧
        ((t.store.line l).releaseMode = .cycle → (look s.holds.flags c).flag l = false →
          (look t.holds.flags c).flag l = false) ∧
        ((t.store.line l).releaseMode = .latch → (look t.holds.flags c).flag l = (look s.holds.flags c).flag l ∧
          (lineActive s.store s.holds l = false → (look t.holds.flags c).wait l = false))) ∧
      ((lineActive s.store s.holds l = true ∧ lineActive t.store t.holds l = true) ∨
          (lineActive s.store s.holds l = false ∧ lineActive t.store t.holds l = false ∧
            (t.store.line l).releaseMode = (s.store.line l).releaseMode) →
        (look t.holds.flags c).flag l = (look s.holds.flags c).flag l ∧
        (look t.holds.flags c).wait l = (look s.holds.flags c).wait l)

/-! ## The station bus -/

/-- FRAME_START: a held frame length is put in force, the frame number goes up by one (255 to 0; the first frame after a reset keeps it), slot
0 goes out with the number and the raised marks, and the marks are cleared. A new length leaves out the stations from it on, an ACTIVE one
leaving ACTIVE (a playback cut at the moment of its play limit with the model's own mark, log 30), and brings others back; what follows is
a frame start without a new length from there (u is the state then). With no pending station profile and no new length nothing else
changes. Where pending station profiles stand they are tried in ascending order, as stations leave ACTIVE (the model's choice, log 14),
each where its transfer point holds, as STATION_TRANSFER does it from the first station to the last; a station of which no speech entry
waits and that is at rest transfers, one that is not at rest does not. A slot still open is dropped without a miss (the model's choice,
log 33), and the first frame after a reset is a FRAME_START of its own (the model's reading, log 21). -/
def Obligations.FrameStart : Prop :=
  (∀ (p : ProfileStore) (i : Station) (g : CueGenerator), LeavesCues p i g (CueGenerator.leave p i g)) ∧
  (∀ (s : State) (n : Nat) (out : List Station), s.store.nextFrameLength = some n → n ≠ s.bus.frameLength →
    out.Pairwise (fun i j => i < j) → (∀ i, i ∈ out ↔ n ≤ i.val ∧ s.linkState i = .active) →
    ∃ u, exec .frameStart s = exec .frameStart u ∧
      u = { s with
            store := { s.store with nextFrameLength := none }
            bus := { s.bus with frameLength := n, stations := u.bus.stations }
            press := u.press, table := { s.table with targets := u.table.targets }
            cues := out.foldl (fun g i => CueGenerator.leave s.store i g) s.cues, levels := u.levels } ∧
      ∀ i : Station,
        look u.bus.stations i =
          (if (look s.bus.stations i).state = .disabled then look s.bus.stations i
           else if n ≤ i.val then { look s.bus.stations i with state := .absent, beyond := true, misses := 0 }
           else if (look s.bus.stations i).beyond then { look s.bus.stations i with state := .absent, beyond := false }
           else look s.bus.stations i) ∧
        (i ∈ out → PressAbandoned (look s.press i) (look u.press i) ∧ look u.table.targets i = .none ∧
          look u.levels i = { look s.levels i with output := none, windowOpen := false }) ∧
        (i ∉ out → look u.press i = look s.press i ∧ look u.table.targets i = look s.table.targets i ∧
          look u.levels i = look s.levels i)) ∧
  (∀ s : State, s.store.nextFrameLength.getD s.bus.frameLength = s.bus.frameLength →
    ∃ (u : Nat → State) (t : State), u 0 = { s with store := { s.store with nextFrameLength := none } } ∧
      (∀ i : Station, exec (.stationTransfer i) (u i.val) = .next (u (i.val + 1))) ∧
      exec .frameStart s = .next t ∧
      t = { u 48 with
            bus := { (u 48).bus with frameNumber := t.bus.frameNumber, firstFrame := false, frameTime := 0, slot := none,
                                     sent := t.bus.sent }
            cues := { (u 48).cues with corners := t.cues.corners } }) ∧
  ∀ s : State, ∃ t, exec .frameStart s = .next t ∧
    t = { s with
          store := { s.store with stations := t.store.stations, nextFrameLength := none }
          bus := t.bus, press := t.press, table := t.table, cues := t.cues, levels := t.levels } ∧
    t.bus.frameNumber = (if s.bus.firstFrame then s.bus.frameNumber else s.bus.frameNumber + 1) ∧
    t.bus.firstFrame = false ∧ t.bus.frameTime = 0 ∧ t.bus.slot = none ∧
    t.bus.frameLength = s.store.nextFrameLength.getD s.bus.frameLength ∧
    (∀ k, look t.cues.corners k = { look s.cues.corners k with mark := false }) ∧ t.cues.gates = s.cues.gates ∧
    t.bus.sent.length = 6 ∧ t.bus.sent[0]? = some t.bus.frameNumber ∧ byteSum t.bus.sent = 0 ∧
    (∀ k : Corner, (t.bus.sent.getD (4 - k.val / 8) 0).getLsbD (k.val % 8) = (look s.cues.corners k).mark) ∧
    ((∀ i, (look s.store.stations i).pending = none) →
      (∀ n, s.store.nextFrameLength = some n → n ≠ s.bus.frameLength → ∀ i : Station,
        look t.bus.stations i =
          if (look s.bus.stations i).state = .disabled then look s.bus.stations i
          else if n ≤ i.val then { look s.bus.stations i with state := .absent, beyond := true, misses := 0 }
          else if (look s.bus.stations i).beyond then { look s.bus.stations i with state := .absent, beyond := false }
          else look s.bus.stations i) ∧
      (s.store.nextFrameLength.getD s.bus.frameLength = s.bus.frameLength →
        t = { s with
              store := { s.store with nextFrameLength := none }
              bus := { s.bus with frameNumber := t.bus.frameNumber, firstFrame := false, frameTime := 0, slot := none,
                                  sent := t.bus.sent }
              cues := { s.cues with corners := t.cues.corners } })) ∧
    (s.store.nextFrameLength.getD s.bus.frameLength = s.bus.frameLength → ∀ i : Station,
      ((look s.store.stations i).pending = none ∨ ¬ StationAtRest s i →
        look t.store.stations i = look s.store.stations i) ∧
      ∀ new, (look s.store.stations i).pending = some new → StationAtRest s i →
        (∀ e ∈ (look s.cues.speech (s.store.station i).corner).queue, e.station ≠ i) →
        look t.store.stations i = { active := new, pending := none } ∧
        ((s.store.station i).enabled = true → new.enabled = false → (look t.bus.stations i).state = .disabled) ∧
        ((s.store.station i).enabled = false → new.enabled = true →
          look t.bus.stations i =
            { look s.bus.stations i with state := .absent, beyond := decide (s.bus.frameLength ≤ i.val) }) ∧
        ((s.store.station i).enabled = true → new.enabled = true → s.linkState i = .active →
          ∀ o, (look s.bus.stations i).offered = some o →
            look t.bus.stations i = { look s.bus.stations i with features := resolve new o }) ∧
        ∃ lo hi, IsRange new s.store.mode lo hi ∧ (look t.levels i).minimum = lo ∧ (look t.levels i).maximum = hi)

/-- RESTART STATION BUS: the frame is cut short, every enabled station becomes ABSENT and every other DISABLED, every press is ended with no
release age, every target becomes none, an ACTIVE station's sound, level and acknowledgement go, its speech entries are dropped and its
playback is cut into the gap (at the moment of its play limit with the model's own mark, log 30), while an IDLE channel stays IDLE, and
frame 0 starts, as FRAME_START does it (w is the state before it), slot 0 carrying the number 0 and the marks still raised; answered OK.
What stations offered and what is resolved, health flags, last report ticks, notices, ambients, effective ranges and last samples stand,
but for what a pending profile that transfers at that frame start changes. Grants, aspects, faults, holds, gates, street settings and
street time stand. The stations are dealt with in ascending order (the model's choice, log 14); a report under way is none (log 29). -/
def Obligations.SectionReset : Prop :=
  ∀ s : State, ∃ t, exec .restartStationBus s = .next t ∧
    t = { s with
          store := { s.store with stations := t.store.stations, nextFrameLength := none }
          bus := t.bus, press := t.press, table := t.table, cues := t.cues, levels := t.levels
          response := { status := .ok, fields := [] } } ∧
    t.bus.frameNumber = 0 ∧ t.bus.firstFrame = false ∧ t.bus.frameTime = 0 ∧ t.bus.slot = none ∧
    t.bus.frameLength = s.store.nextFrameLength.getD s.bus.frameLength ∧
    (∀ k, look t.cues.corners k = { look s.cues.corners k with mark := false }) ∧ t.cues.gates = s.cues.gates ∧
    t.bus.sent.length = 6 ∧ t.bus.sent[0]? = some 0 ∧ byteSum t.bus.sent = 0 ∧
    (∀ k : Corner, (t.bus.sent.getD (4 - k.val / 8) 0).getLsbD (k.val % 8) = (look s.cues.corners k).mark) ∧
    (∃ w v, exec .frameStart w = .next v ∧ t = { v with response := t.response } ∧
      w = { s with
            bus := { s.bus with frameNumber := 0, firstFrame := true, slot := none, stations := w.bus.stations }
            press := w.press, table := { s.table with targets := w.table.targets }
            cues := { s.cues with stations := w.cues.stations, speech := w.cues.speech, nextSerial := w.cues.nextSerial }
            levels := w.levels } ∧
      (∀ i : Station,
        look w.bus.stations i = { look s.bus.stations i with
          state := if (s.store.station i).enabled then .absent else .disabled
          beyond := (s.store.station i).enabled && decide (s.bus.frameLength ≤ i.val), misses := 0 } ∧
        PressAbandoned (look s.press i) (look w.press i) ∧ look w.table.targets i = .none ∧
        (s.linkState i = .active →
          look w.levels i = { look s.levels i with output := none, windowOpen := false } ∧
          look w.cues.stations i =
            { sound := .none, armed := false, covering := false, tactile := false, indicator := .off
              result := (look t.cues.stations i).result }) ∧
        (s.linkState i ≠ .active →
          look w.levels i = look s.levels i ∧ look w.cues.stations i = look s.cues.stations i)) ∧
      ((∀ k, ∀ e ∈ (look s.cues.speech k).queue, (s.store.station e.station).corner = k ∧ s.linkState e.station = .active) →
        (∀ k e since n, (look s.cues.speech k).channel = .playing e since n →
          (s.store.station e.station).corner = k ∧ s.linkState e.station = .active) →
        w.cues.nextSerial = s.cues.nextSerial ∧
        ∀ (k : Corner) (y : CornerSpeech), y = look s.cues.speech k →
          ((∀ e since n, y.channel ≠ .playing e since n) → look w.cues.speech k = { y with queue := [] }) ∧
          ∀ e since n, y.channel = .playing e since n → look w.cues.speech k = {
            channel := if (s.store.corner k).gap = 0 then .idle else .gap (s.store.corner k).gap, queue := []
            limitLapsed := y.limitLapsed || decide (20000 ≤ since) })) ∧
    (∀ i : Station,
      (look t.bus.stations i).state = (if (t.store.station i).enabled then .absent else .disabled) ∧
      ((look t.bus.stations i).beyond = true ↔ (t.store.station i).enabled = true ∧ t.bus.frameLength ≤ i.val) ∧
      (look t.bus.stations i).misses = 0 ∧ (look t.bus.stations i).silentNotice = (look s.bus.stations i).silentNotice ∧
      (look t.bus.stations i).joinedNotice = (look s.bus.stations i).joinedNotice ∧
      PressAbandoned (look s.press i) (look t.press i) ∧ look t.table.targets i = .none ∧
      (look t.levels i).ambient = (look s.levels i).ambient ∧
      (s.linkState i = .active →
        (look t.cues.stations i).sound = .none ∧ (look t.cues.stations i).armed = false ∧
        (look t.cues.stations i).covering = false ∧ (look t.cues.stations i).tactile = false ∧
        (look t.cues.stations i).indicator = .off ∧ (look t.levels i).output = none ∧
        (look t.levels i).windowOpen = false)) ∧
    (∀ k : Corner,
      (∀ e ∈ (look s.cues.speech k).queue, (s.store.station e.station).corner = k ∧ s.linkState e.station = .active) →
      (look t.cues.speech k).queue = [] ∧
      ((look s.cues.speech k).channel = .idle → (look t.cues.speech k).channel = .idle) ∧
      (∀ n, (look s.cues.speech k).channel = .gap n → (look t.cues.speech k).channel = .gap n) ∧
      ∀ e since n, (look s.cues.speech k).channel = .playing e since n → (s.store.station e.station).corner = k →
        s.linkState e.station = .active →
        (look t.cues.speech k).channel = if (s.store.corner k).gap = 0 then .idle else .gap (s.store.corner k).gap) ∧
    (∀ i : Station, s.linkState i = .active →
      ((∃ e since n, (look s.cues.speech (s.store.station i).corner).channel = .playing e since n ∧ e.station = i) →
        (look t.cues.stations i).result = .cut) ∧
      ((∀ e since n, (look s.cues.speech (s.store.station i).corner).channel = .playing e since n → e.station ≠ i) →
        ((∃ e ∈ (look s.cues.speech (s.store.station i).corner).queue, e.station = i) →
          (look t.cues.stations i).result = .dropped) ∧
        ((∀ e ∈ (look s.cues.speech (s.store.station i).corner).queue, e.station ≠ i) →
          (look t.cues.stations i).result = (look s.cues.stations i).result))) ∧
    ((∀ i, (look s.store.stations i).pending = none) →
      t.store = { s.store with nextFrameLength := none } ∧ t.table = { s.table with targets := t.table.targets } ∧
      ∀ i : Station,
        look t.bus.stations i = { look s.bus.stations i with
          state := if (s.store.station i).enabled then .absent else .disabled
          beyond := (s.store.station i).enabled && decide (t.bus.frameLength ≤ i.val), misses := 0 } ∧
        (s.linkState i = .active →
          look t.levels i = { look s.levels i with output := none, windowOpen := false } ∧
          look t.cues.stations i =
            { sound := .none, armed := false, covering := false, tactile := false, indicator := .off
              result := (look t.cues.stations i).result }) ∧
        (s.linkState i ≠ .active →
          look t.levels i = look s.levels i ∧ look t.cues.stations i = look s.cues.stations i))

/-- STATION_TRANSFER: with the crossing not serving, the corner's channel not playing for the station and its press IDLE, the pending copy
becomes active. Disabling gives DISABLED, enabling ABSENT, an ACTIVE station is resolved again without a join, the effective range is
computed again and a level clamped into it. A change of corner takes the station's entries out of the old corner's queue and makes a wait
acknowledgement that covers armed again; a re-resolution takes out the INFO entries that lose their message; an ACTIVE station that is
disabled leaves ACTIVE: press abandoned, target none, level absent, and so at the Cue Generator. Otherwise nothing changes, and other
stations' cue states and other corners' speech stand. What the Cue Generator does is done at the old corner (the model's reading, log 16).
The row given alone acts when its condition holds (log 24). -/
def Obligations.StationTransfer : Prop :=
  ∀ (s : State) (i : Station),
    ((look s.store.stations i).pending = none ∨ ¬ StationAtRest s i → exec (.stationTransfer i) s = .next s) ∧
    (∀ new, (look s.store.stations i).pending = some new → StationAtRest s i →
      ∃ t, exec (.stationTransfer i) s = .next t ∧
        t = { s with
              store := { s.store with stations := t.store.stations }
              bus := { s.bus with stations := t.bus.stations }
              press := t.press, table := t.table, cues := { s.cues with stations := t.cues.stations, speech := t.cues.speech,
                                                                        nextSerial := t.cues.nextSerial }
              levels := t.levels } ∧
        look t.store.stations i = { active := new, pending := none } ∧ Beside s.store.stations t.store.stations i ∧
        Beside s.bus.stations t.bus.stations i ∧ Beside s.press t.press i ∧ Beside s.levels t.levels i ∧
        ((s.store.station i).enabled = true → new.enabled = false →
          look t.bus.stations i = { look s.bus.stations i with state := .disabled, beyond := false, misses := 0 }) ∧
        ((s.store.station i).enabled = false → new.enabled = true →
          look t.bus.stations i =
            { look s.bus.stations i with state := .absent, beyond := decide (s.bus.frameLength ≤ i.val) }) ∧
        ((s.store.station i).enabled = true → new.enabled = true → s.linkState i = .active →
          ∀ o, (look s.bus.stations i).offered = some o →
            look t.bus.stations i = { look s.bus.stations i with features := resolve new o }) ∧
        (new.crossing = (s.store.station i).crossing → t.table = { s.table with targets := t.table.targets }) ∧
        (new.crossing ≠ (s.store.station i).crossing →
          (¬ HasRecord s.table (s.store.station i).crossing CallState.isWaiting → t.table.records = s.table.records) ∧
          Beside s.table.memos t.table.memos (s.store.station i).crossing ∧
          (look s.table.memos (s.store.station i).crossing = none →
            look t.table.memos (s.store.station i).crossing = none) ∧
          (∀ k r, OnlyRecord s.table (s.store.station i).crossing CallState.isWaiting k r →
            ∃ q, look t.table.records k = some q ∧ q.stations = r.stations.filter (fun j => decide (j ≠ i)) ∧
              (q.stations ≠ [] → q.pressCount = r.pressCount) ∧ (i ∈ r.stations → q.stations = [] → q.pressCount = 0) ∧
              q.state = r.state ∧ q.origin = r.origin ∧ q.kind = r.kind ∧ q.registeredAt = r.registeredAt ∧
              (i ∈ r.stations → q.seen = false) ∧ (i ∉ r.stations → q = r) ∧ Beside s.table.records t.table.records k) ∧
          ∀ m, look s.table.memos (s.store.station i).crossing = some m →
            ∃ q, look t.table.memos (s.store.station i).crossing = some q ∧
              q.stations = m.stations.filter (fun j => decide (j ≠ i)) ∧ q.since = m.since ∧ q.origin = m.origin ∧
              q.kind = m.kind ∧ (q.stations ≠ [] → q.count = m.count) ∧
              (i ∈ m.stations → q.stations = [] → q.count = 0) ∧ (i ∉ m.stations → q = m)) ∧
        (∃ lo hi, IsRange new s.store.mode lo hi ∧ (look t.levels i).minimum = lo ∧ (look t.levels i).maximum = hi ∧
          (new.enabled = true →
            (look t.levels i).output = (look s.levels i).output.map fun o => max lo (min hi o))) ∧
        (look t.levels i).ambient = (look s.levels i).ambient ∧
        (new.corner ≠ (s.store.station i).corner → (look t.levels i).windowOpen = false ∧
          ∀ x ∈ (look t.cues.speech (s.store.station i).corner).queue, x.station ≠ i) ∧
        (new.corner = (s.store.station i).corner → s.linkState i ≠ .active ∨ new.enabled = true →
          (look t.levels i).windowOpen = (look s.levels i).windowOpen) ∧
        Beside s.cues.stations t.cues.stations i ∧ Beside s.cues.speech t.cues.speech (s.store.station i).corner ∧
        Beside s.table.targets t.table.targets i ∧
        ((s.store.station i).enabled = true → new.enabled = false → s.linkState i = .active →
          PressAbandoned (look s.press i) (look t.press i) ∧ look t.table.targets i = .none ∧
          (look t.levels i).output = none ∧ (look t.levels i).windowOpen = false ∧
          LeavesCues s.store i s.cues t.cues) ∧
        ((s.store.station i).enabled = new.enabled →
          new.enabled = false ∨ s.linkState i ≠ .active ∨ (look s.bus.stations i).offered = none →
          t.bus.stations = s.bus.stations) ∧
        ((s.store.station i).enabled = false ∨ new.enabled = true ∨ s.linkState i ≠ .active →
          t.press = s.press ∧ t.table.targets = s.table.targets ∧
          (look t.levels i).output = (look s.levels i).output.map
            (fun o => max (look t.levels i).minimum (min (look t.levels i).maximum o)) ∧
          ∀ (k : Corner) (out : SpeechEntry → Bool), k = (s.store.station i).corner →
            (∀ e, out e = true ↔ e.station = i ∧
              (new.corner ≠ k ∨ (s.store.station i).enabled = true ∧ new.enabled = true ∧ s.linkState i = .active ∧
                e.kind = .info ∧ ∃ o, (look s.bus.stations i).offered = some o ∧
                  ((resolve new o).infoUsable = false ∨ new.infoMessage ≠ some e.message))) →
            look t.cues.speech k =
              { look s.cues.speech k with queue := (look s.cues.speech k).queue.filter fun e => !out e } ∧
            t.cues.nextSerial = s.cues.nextSerial ∧
            look t.cues.stations i = { look s.cues.stations i with
              armed := (look s.cues.stations i).armed || decide (new.corner ≠ k) && (look s.cues.stations i).covering
              covering := (look s.cues.stations i).covering && decide (new.corner = k)
              result := (look t.cues.stations i).result } ∧
            ((∃ e ∈ (look s.cues.speech k).queue, out e = true) → (look t.cues.stations i).result = .dropped) ∧
            ((∀ e ∈ (look s.cues.speech k).queue, out e = false) →
              (look t.cues.stations i).result = (look s.cues.stations i).result)))

/-- STATION_SLOT: an ACTIVE station is sent its 8-byte command, whose sound, tactile and indicator states become its latest ones, and whose
WAIT_ACK, WALK_TONE or SPEECH makes the corner's period not clean, and the start test is then taken at the corner; a SILENT station, or
an ABSENT one within the frame, is sent
JOIN_INVITE; a DISABLED station, or one beyond the frame, nothing. A station numbered N or above has no slot.
The slot in progress is the model's own field (log 10), and so are the serial numbers of playbacks (log 19). A slot still open before
it is dropped without a miss (the model's choice, log 33). -/
def Obligations.StationSlot : Prop :=
  ∀ (s : State) (i : Station),
    (s.bus.frameLength ≤ i.val → exec (.stationSlot i) s = .next s) ∧
    (i.val < s.bus.frameLength →
      (s.linkState i = .active → ∃ t playback check, exec (.stationSlot i) s = .next t ∧
        t = { s with
              bus := { s.bus with slot := t.bus.slot, sent := t.bus.sent }
              cues := { s.cues with corners := t.cues.corners, stations := t.cues.stations, speech := t.cues.speech,
                                    nextSerial := t.cues.nextSerial } } ∧
        InSlot t i .active playback ∧
        (∀ e since n, (look s.cues.speech (s.store.station i).corner).channel = .playing e since n → e.station = i →
          playback = some n) ∧
        ((∀ e since n, (look s.cues.speech (s.store.station i).corner).channel = .playing e since n → e.station ≠ i) →
          playback = none) ∧
        (∃ message, t.bus.sent =
          [byte i.val, byte (s.chooseSound i).code, byte message,
            byte ((look s.levels i).commandLevel (s.store.station i) (s.chooseSound i)),
            byte ((if s.chooseTactile i then 128 else 0) + (s.chooseIndicator i).code),
            byte ((s.store.corner (s.store.station i).corner).period / 50),
            byte ((s.store.corner (s.store.station i).corner).offset / 50), check] ∧
          (∀ e since n, (look s.cues.speech (s.store.station i).corner).channel = .playing e since n → e.station = i →
            message = e.message.val) ∧
          ((∀ e since n, (look s.cues.speech (s.store.station i).corner).channel = .playing e since n → e.station ≠ i) →
            message = 0)) ∧
        byteSum t.bus.sent = 0 ∧
        look t.cues.stations i = { look s.cues.stations i with
          sound := s.chooseSound i, tactile := s.chooseTactile i, indicator := s.chooseIndicator i } ∧
        Beside s.cues.stations t.cues.stations i ∧
        look t.cues.corners (s.store.station i).corner =
          { look s.cues.corners (s.store.station i).corner with
            openClean := (look s.cues.corners (s.store.station i).corner).openClean &&
              decide (s.chooseSound i = .none ∨ s.chooseSound i = .locator ∨ s.chooseSound i = .silent) } ∧
        Beside s.cues.corners t.cues.corners (s.store.station i).corner ∧
        Beside s.cues.speech t.cues.speech (s.store.station i).corner ∧
        ((look s.cues.speech (s.store.station i).corner).channel ≠ .idle →
          look t.cues.speech (s.store.station i).corner = look s.cues.speech (s.store.station i).corner) ∧
        ∀ walking : Prop,
          (walking ↔ ∃ j, (s.store.station j).corner = (s.store.station i).corner ∧
            ((look t.cues.stations j).sound = .walkTone ∨ (look t.cues.stations j).sound = .speech .walk)) →
          (look s.cues.speech (s.store.station i).corner).channel = .idle →
          StartTested walking (look s.cues.speech (s.store.station i).corner)
            (look t.cues.speech (s.store.station i).corner)) ∧
      (s.linkState i = .silent ∨ s.linkState i = .absent ∧ (look s.bus.stations i).beyond = false →
        ∃ t check, exec (.stationSlot i) s = .next t ∧
          t = { s with bus := { s.bus with slot := t.bus.slot, sent := [byte i.val, 7, 0, 0, 0, 0, 0, check] } } ∧
          InSlot t i (s.linkState i) none ∧ byteSum t.bus.sent = 0) ∧
      (s.linkState i = .disabled ∨ s.linkState i = .absent ∧ (look s.bus.stations i).beyond = true →
        ∃ t, exec (.stationSlot i) s = .next t ∧ t = { s with bus := { s.bus with slot := t.bus.slot, sent := [] } } ∧
          ∀ x bytes, t.bus.slot = some x → exec (.stationReport bytes) t = .next t))

/-- The command of a station: the first case of the sound's six that applies; the tactile state and the indicator of each source; the level:
the output level with LOCATOR, WAIT_ACK and SILENT, the walk level, which the effective maximum bounds, with WALK_TONE and SPEECH. -/
def Obligations.CommandChosen : Prop :=
  ∀ (s : State) (i : Station) (p : StationProfile) (v : Channel), p = s.store.station i →
    v = (look s.cues.speech p.corner).channel →
    (∀ e since n, v = .playing e since n → e.station = i → s.chooseSound i = .speech e.kind) ∧
    ((∀ e since n, v = .playing e since n → e.station ≠ i) →
      s.chooseSound i =
        if look s.cues.gates p.crossing = true then .walkTone
        else if (look s.bus.stations i).speakerFault = true ∨ (look s.bus.stations i).features.speaker = false then .silent
        else if (look s.cues.stations i).covering = true then .waitAck
        else if s.store.mode = .night ∧ (s.store.corner p.corner).nightLocator = false then .silent
        else .locator) ∧
    (∀ (x : LevelState) (o : Nat), x.output = some o →
      (∀ sound, sound = .locator ∨ sound = .waitAck ∨ sound = .silent → x.commandLevel p sound = o) ∧
      ∀ sound, sound = .walkTone ∨ (∃ kind, sound = .speech kind) → x.commandLevel p sound = min (o + p.walkBoost) x.maximum) ∧
    (s.chooseTactile i = true ↔
      look s.cues.gates p.crossing = true ∧ (look s.bus.stations i).features.tactile = true) ∧
    (∀ lit : Indicator, lit = (if p.blink = false then .on else if s.store.mode = .day then .blinkFast else .blinkSlow) →
      (p.indicator = .off → s.chooseIndicator i = if p.invert then lit else .off) ∧
      (p.indicator = .on → s.chooseIndicator i = if p.invert then .off else lit) ∧
      (p.indicator = .walk →
        s.chooseIndicator i = if look s.cues.gates p.crossing != p.invert then lit else .off) ∧
      (p.indicator = .stationFault →
        s.chooseIndicator i =
          if ((look s.press i).buttonFault || (look s.bus.stations i).speakerFault ||
              (look s.bus.stations i).tactileFault) != p.invert then lit else .off) ∧
      (p.indicator = .callWaiting →
        (HasRecord s.table p.crossing CallState.isWaiting ∨ (look s.table.memos p.crossing).isSome = true →
          s.chooseIndicator i = if p.invert then .off else lit) ∧
        (¬ HasRecord s.table p.crossing CallState.isWaiting → look s.table.memos p.crossing = none →
          s.chooseIndicator i = if p.invert then lit else .off)) ∧
      (p.indicator = .serving →
        (HasRecord s.table p.crossing CallState.isServing → s.chooseIndicator i = if p.invert then .off else lit) ∧
        (¬ HasRecord s.table p.crossing CallState.isServing → s.chooseIndicator i = if p.invert then lit else .off)) ∧
      (p.indicator = .callOrWalk →
        (HasRecord s.table p.crossing CallState.isWalking → s.chooseIndicator i = if p.invert then .off else lit) ∧
        (¬ HasRecord s.table p.crossing CallState.isWalking →
          (HasRecord s.table p.crossing CallState.isWaiting ∨ HasRecord s.table p.crossing CallState.isGranted ∨
              (look s.table.memos p.crossing).isSome = true →
            s.chooseIndicator i = if p.invert then .off else .on) ∧
          (¬ HasRecord s.table p.crossing CallState.isWaiting → ¬ HasRecord s.table p.crossing CallState.isGranted →
            look s.table.memos p.crossing = none →
            s.chooseIndicator i = if p.invert then lit else .off))))

/-- A valid report without a capability part, in an ACTIVE station's slot, is taken: misses 0, its tick the last tick, its health flags the
station's, its button part as PressPhases says, with the calls it registers or upgrades, the wait acknowledgement it arms and the
information it asks for, and its button level the press phase after it. A
sample meets the window. Its "message done" ends the playback that the slot's command carried as PLAYED, and no other. In a slot of a
station that was ABSENT or SILENT it is ignored. Fewer than 12 bytes, or bytes outside an open slot, do nothing.
A report is valid where its 12 bytes sum to 0 and each stamp present lies at most 32,767 ms back from its tick, and its fields are read
from the bytes as the formats lay them out.
The first 12 bytes in an open slot settle it (the model's reading, log 10). The button part is taken before "message done" (the model's
choice, log 12), so the result that stands is PLAYED. -/
def Obligations.ReportTaken : Prop :=
  (∀ (b : List Byte) (r : Report), b.length = 12 → (validReport b = some r ↔ ReportReads b r)) ∧
  ∀ (s : State) (i : Station) (x : LinkState) (playback : Option Nat) (bytes : List Byte), InSlot s i x playback →
    (bytes.length < 12 → exec (.stationReport bytes) s = .next s) ∧
    (∀ v, s.bus.slot = some v → exec (.stationReport bytes) { s with bus := { s.bus with slot := some { v with settled := true } } } =
      .next { s with bus := { s.bus with slot := some { v with settled := true } } }) ∧
    exec (.stationReport bytes) { s with bus := { s.bus with slot := none } } = .next { s with bus := { s.bus with slot := none } } ∧
    (∀ r, 12 ≤ bytes.length → validReport (bytes.take 12) = some r → r.offer = none →
      (x = .active → ∃ t, exec (.stationReport bytes) s = .next t ∧
        t = { s with
              bus := { s.bus with
                slot := some { station := i, linkAtStart := x, playback := playback, settled := true }
                stations := t.bus.stations }
              press := t.press, table := t.table
              cues := { s.cues with stations := t.cues.stations, speech := t.cues.speech, nextSerial := t.cues.nextSerial }
              levels := t.levels } ∧
        look t.bus.stations i = { look s.bus.stations i with
          misses := 0, lastTick := some r.tick, speakerFault := r.speakerFault, tactileFault := r.tactileFault } ∧
        Beside s.bus.stations t.bus.stations i ∧ Beside s.press t.press i ∧ Beside s.levels t.levels i ∧
        t.press = (s.takeButton i r).press ∧ t.table = (s.takeButton i r).table ∧
        (r.messageDone = false ∨ playback = none → t.cues = (s.takeButton i r).cues) ∧
        (∀ n, r.messageDone = true → playback = some n →
          t.cues = (s.takeButton i r).cues.messageDone s.store (s.store.station i).corner n) ∧
        (∀ n, playback = some n →
          (∀ e since, (look (s.takeButton i r).cues.speech (s.store.station i).corner).channel ≠ .playing e since n) →
          t.cues = (s.takeButton i r).cues) ∧
        (look t.press i).lastPoint = r.tick ∧ ((look t.press i).phase = .idle ↔ r.down = false) ∧
        (∀ e since n, (look s.cues.speech (s.store.station i).corner).channel = .playing e since n →
          (r.messageDone = true → playback = some n → 0 < (s.store.corner (s.store.station i).corner).gap →
            (look t.cues.speech (s.store.station i).corner).channel = .gap (s.store.corner (s.store.station i).corner).gap ∧
            (look t.cues.stations e.station).result = .played) ∧
          (r.messageDone = false ∨ playback ≠ some n →
            (look t.cues.speech (s.store.station i).corner).channel = .playing e since n)) ∧
        (r.sample = none ∨ (look s.levels i).windowOpen = false → look t.levels i = look s.levels i) ∧
        (∀ v, r.sample = some v → (look s.levels i).windowOpen = true →
          ∃ y clean, y = max 30 (min 110 v.toNat) ∧
            clean = (if (look s.cues.corners (s.store.station i).corner).samplePassed then
                (look s.cues.corners (s.store.station i).corner).openClean
              else (look s.cues.corners (s.store.station i).corner).closedClean) ∧
            look t.levels i =
              if (look s.bus.stations i).features.microphone = true ∧ r.quiet = true ∧ clean = true then
                { look s.levels i with
                  windowOpen := false, lastSample := some y, outcome := .admitted
                  ambient := filterAmbient (look s.levels i).ambient y }
              else
                { look s.levels i with
                  windowOpen := false, lastSample := some y
                  outcome := if (look s.bus.stations i).features.microphone = false then .noMicrophone
                    else if r.quiet = false then .notQuiet else .notClean })) ∧
      (x ≠ .active → ∃ t, exec (.stationReport bytes) s = .next t ∧
        t = { s with bus := { s.bus with
          slot := some { station := i, linkAtStart := x, playback := playback, settled := true } } }))

/-- A valid report with a capability part joins an ABSENT or SILENT station and rejoins an ACTIVE one: ACTIVE, misses 0, what it offers, the
resolution, the health flags, the JOINED notice, ambient 960 and the target of it as level, the window used, the press begun afresh and
the report's button part taken from there. At a rejoin the station first leaves ACTIVE at the Cue Generator: its entries are removed and
its playback is cut (at the moment of its play limit with the model's own mark, log 30).
The first 12 bytes in an open slot settle it (the model's reading, log 10). -/
def Obligations.StationJoins : Prop :=
  ∀ (s : State) (i : Station) (x : LinkState) (playback : Option Nat) (bytes : List Byte) (r : Report) (o : Offer),
    InSlot s i x playback → x ≠ .disabled → 12 ≤ bytes.length → validReport (bytes.take 12) = some r → r.offer = some o →
    ∃ t, exec (.stationReport bytes) s = .next t ∧
      t = { s with
            bus := { s.bus with
              slot := some { station := i, linkAtStart := x, playback := playback, settled := true }
              stations := t.bus.stations }
            press := t.press, table := t.table
            cues := { s.cues with stations := t.cues.stations, speech := t.cues.speech, nextSerial := t.cues.nextSerial }
            levels := t.levels } ∧
      look t.bus.stations i = { look s.bus.stations i with
        state := .active, misses := 0, offered := some o, features := resolve (s.store.station i) o
        speakerFault := r.speakerFault, tactileFault := r.tactileFault, lastTick := some r.tick, joinedNotice := true } ∧
      Beside s.bus.stations t.bus.stations i ∧ Beside s.press t.press i ∧ Beside s.levels t.levels i ∧
      look t.levels i = { look s.levels i with
        ambient := 960, windowOpen := false
        output := some (clamp (look s.levels i).minimum (look s.levels i).maximum (60 + (s.store.station i).margin)) } ∧
      PressAbandoned (look s.press i) (look s.press i).abandon ∧
      (∀ u, u = { s with
            press := put s.press i { (look s.press i).abandon with lastPoint := r.tick }
            table := { s.table with targets := put s.table.targets i .none } } →
        t.press = (u.takeButton i r).press ∧ t.table = (u.takeButton i r).table) ∧
      (∃ g, (x ≠ .active → g = s.cues) ∧ (x = .active → LeavesCues s.store i s.cues g) ∧
        ∀ u, u = { s with
              bus := { s.bus with stations := t.bus.stations }
              press := put s.press i { (look s.press i).abandon with lastPoint := r.tick }
              table := { s.table with targets := put s.table.targets i .none }
              cues := g } →
          t.cues = (u.takeButton i r).cues) ∧
      (look t.press i).lastPoint = r.tick ∧ ((look t.press i).phase = .idle ↔ r.down = false)

/-- Capability resolution: speaker, tactile and microphone where wanted and offered; speech where wanted and the count is 1 or more; the
walk cue SPEECH, and information usable, where speaker and speech are resolved and the message is below the count; cue degraded where
SPEECH was asked for and TONE resolved. -/
def Obligations.CapabilityResolution : Prop :=
  ∀ (p : StationProfile) (o : Offer),
    ((resolve p o).speaker = true ↔ p.wantSpeaker = true ∧ o.speaker = true) ∧
    ((resolve p o).tactile = true ↔ p.wantTactile = true ∧ o.tactile = true) ∧
    ((resolve p o).microphone = true ↔ p.wantMicrophone = true ∧ o.microphone = true) ∧
    ((resolve p o).speech = true ↔ p.wantSpeech = true ∧ 1 ≤ o.messages) ∧
    ((resolve p o).walkCue = .speech ↔ p.walkCue = .speech ∧ (resolve p o).speaker = true ∧ (resolve p o).speech = true ∧
      p.walkMessage.val < o.messages) ∧
    ((resolve p o).cueDegraded = true ↔ p.walkCue = .speech ∧ (resolve p o).walkCue = .tone) ∧
    ((resolve p o).infoUsable = true ↔ ∃ m, p.infoMessage = some m ∧ (resolve p o).speaker = true ∧
      (resolve p o).speech = true ∧ m.val < o.messages)

/-- MISSED_SLOT, and a report that fails a check, in an open slot: an ACTIVE station's misses go up by one; at the fourth the station is
SILENT with its notice and leaves ACTIVE: press abandoned, target none, level absent, and at the Cue Generator its entries removed, its
playback cut (at the moment of its play limit with the model's own mark, log 30), its sound none. No miss is counted outside ACTIVE.
With no slot open, or in one that is settled, MISSED_SLOT changes nothing.
The first 12 bytes in an open slot settle it (the model's reading, log 10). -/
def Obligations.MissedSlot : Prop :=
  (∀ s : State, (s.bus.slot = none → exec .missedSlot s = .next s) ∧
    ∀ x, s.bus.slot = some x → x.settled = true → exec .missedSlot s = .next s) ∧
  ∀ (s : State) (i : Station) (x : LinkState) (playback : Option Nat) (bytes : List Byte), InSlot s i x playback →
    12 ≤ bytes.length → validReport (bytes.take 12) = none →
    ∃ t, exec .missedSlot s = .next t ∧ exec (.stationReport bytes) s = .next t ∧
      t = { s with
            bus := { s.bus with
              slot := some { station := i, linkAtStart := x, playback := playback, settled := true }
              stations := t.bus.stations }
            press := t.press, table := { s.table with targets := t.table.targets }
            cues := { s.cues with stations := t.cues.stations, speech := t.cues.speech, nextSerial := t.cues.nextSerial }
            levels := t.levels } ∧
      Beside s.bus.stations t.bus.stations i ∧ Beside s.press t.press i ∧ Beside s.levels t.levels i ∧
      Beside s.table.targets t.table.targets i ∧
      (x ≠ .active → t.bus.stations = s.bus.stations ∧ t.press = s.press ∧ t.table = s.table ∧ t.cues = s.cues ∧
        t.levels = s.levels) ∧
      (x = .active → (look s.bus.stations i).misses + 1 < 4 →
        look t.bus.stations i = { look s.bus.stations i with misses := (look s.bus.stations i).misses + 1 } ∧
        t.press = s.press ∧ t.table = s.table ∧ t.cues = s.cues ∧ t.levels = s.levels) ∧
      (x = .active → 4 ≤ (look s.bus.stations i).misses + 1 →
        look t.bus.stations i = { look s.bus.stations i with state := .silent, misses := 0, silentNotice := true } ∧
        PressAbandoned (look s.press i) (look t.press i) ∧ look t.table.targets i = .none ∧
        look t.levels i = { look s.levels i with output := none, windowOpen := false } ∧
        (look t.cues.stations i).sound = .none ∧ (look t.cues.stations i).armed = false ∧
        (look t.cues.stations i).covering = false ∧
        (∀ e ∈ (look t.cues.speech (s.store.station i).corner).queue, e.station ≠ i) ∧
        (∀ e since n, (look t.cues.speech (s.store.station i).corner).channel = .playing e since n → e.station ≠ i) ∧
        LeavesCues s.store i s.cues t.cues)

/-! ## Presses -/

/-- A report's button part: its edges in time order, of two of the same millisecond the press first, then its tick, then the button level; at
each moment the held time and the release age advance, the thresholds reached are taken, and then the edge. A press edge first ends a
press in progress without a stamp. The phases of a press: the noise width qualifies it and registers it once, the long threshold upgrades
a TAKEN one, the stuck limit sets fault and notice, one after another where one advance reaches several; a release ends it by its phase,
and only a HELD press that is the second of a pair asks for information. -/
def Obligations.PressPhases : Prop :=
  ∀ (s : State) (i : Station) (x : PressState) (p : StationProfile), x = look s.press i → p = s.store.station i →
    (∀ tick moment : Tick, x.advanceTo tick moment =
      if (tick - moment).toNat ≤ (tick - x.lastPoint).toNat then
        { x with
          lastPoint := moment
          heldTime := if x.phase = .idle then x.heldTime
            else min (x.heldTime + ((tick - x.lastPoint).toNat - (tick - moment).toNat)) 300000
          releaseAge := min (x.releaseAge + ((tick - x.lastPoint).toNat - (tick - moment).toNat)) 32768 }
      else x) ∧
    (∀ tick moment : Tick, s.toMoment i tick moment =
      State.thresholds i { s with press := put s.press i (x.advanceTo tick moment) }) ∧
    (∀ stamp : Tick,
      (x.phase = .idle → s.takePress i stamp = { s with press := put s.press i { x with
        phase := .down, stamp := some stamp, heldTime := 0, outcome := none, doublePending := false } }) ∧
      s.takePress i stamp = (s.takeRelease i none).takePress i stamp) ∧
    (∀ r : Report,
      (r.press = none → r.release = none →
        s.takeButton i r = (s.toMoment i r.tick r.tick).checkButton i r) ∧
      (∀ a, r.press = some a → r.release = none →
        s.takeButton i r = (((s.toMoment i r.tick a).takePress i a).toMoment i r.tick r.tick).checkButton i r) ∧
      (∀ b, r.press = none → r.release = some b →
        s.takeButton i r = (((s.toMoment i r.tick b).takeRelease i (some b)).toMoment i r.tick r.tick).checkButton i r) ∧
      (∀ a b, r.press = some a → r.release = some b → (r.tick - a).toNat < (r.tick - b).toNat →
        s.takeButton i r =
          (((((s.toMoment i r.tick b).takeRelease i (some b)).toMoment i r.tick a).takePress i a).toMoment i r.tick
            r.tick).checkButton i r) ∧
      (∀ a b, r.press = some a → r.release = some b → (r.tick - b).toNat ≤ (r.tick - a).toNat →
        s.takeButton i r =
          (((((s.toMoment i r.tick a).takePress i a).toMoment i r.tick b).takeRelease i (some b)).toMoment i r.tick
            r.tick).checkButton i r) ∧
      s.checkButton i r =
        if r.down = true then (if x.phase = .idle then s.takePress i r.tick else s)
        else if x.phase = .idle then s
        else s.takeRelease i none) ∧
    (x.phase = .idle ∨ x.phase = .stuck ∨ x.phase = .down ∧ x.heldTime < 4 * 2 ^ p.noiseCode ∨
        x.phase = .held ∧ x.heldTime < p.longThreshold ∧ x.heldTime < p.stuckLimit * 1000 ∨
        x.phase = .long ∧ x.heldTime < p.stuckLimit * 1000 →
      s.thresholds i = s) ∧
    (∀ stamp, x.phase = .down → x.stamp = some stamp → 4 * 2 ^ p.noiseCode ≤ x.heldTime →
      ∃ (t : State) (u : CallTable) (answer : Registration), s.thresholds i = t.thresholds i ∧
        s.table.register s.store i p.crossing = (u, answer) ∧
        t = { s with press := t.press, table := u, cues := { s.cues with stations := t.cues.stations } } ∧
        Beside s.press t.press i ∧
        look t.press i = { x with
          phase := .held, outcome := some answer, previousEntry := x.lastEntry
          lastEntry := some { press := stamp, release := none, ending := .opened }
          doublePending := x.doubleTest p } ∧
        Beside s.cues.stations t.cues.stations i ∧
        look t.cues.stations i = { look s.cues.stations i with
          armed := (look s.cues.stations i).armed || decide (answer = .taken) }) ∧
    (x.phase = .held → p.longThreshold ≤ x.heldTime →
      ∃ t : State, s.thresholds i = t.thresholds i ∧ t = { s with press := t.press, table := t.table } ∧ Beside s.press t.press i ∧
        look t.press i = { x with phase := .long, doublePending := false } ∧
        t.table = if x.outcome = some .taken then s.table.upgrade s.store i else s.table) ∧
    (x.phase = .long ∨ x.phase = .held ∧ x.heldTime < p.longThreshold → p.stuckLimit * 1000 ≤ x.heldTime →
      ∃ t, s.thresholds i = t ∧ t = { s with press := t.press } ∧ Beside s.press t.press i ∧
        look t.press i = { x with phase := .stuck, doublePending := false, buttonFault := true, stuckNotice := true }) ∧
    (∀ stamp e, x.stamp = some stamp → x.lastEntry = some e →
      (x.doubleTest p = true ↔ p.doubleWindow ≠ 0 ∧ x.releaseAge < 32768 ∧ e.ending = .held ∧
        ∃ r, e.release = some r ∧ (stamp - r).toNat ≤ p.doubleWindow)) ∧
    (∀ q : Option Tick, ∃ t, s.takeRelease i q = t ∧ t = { s with press := t.press, cues := t.cues } ∧
      Beside s.press t.press i ∧ (look t.press i).phase = .idle ∧
      (x.phase ≠ .held ∨ x.doublePending = false → t.cues = s.cues) ∧
      (x.phase = .held → x.doublePending = true →
        (∀ m, p.infoMessage = some m → (look s.bus.stations i).features.infoUsable = true →
          t.cues = s.cues.enqueueInfo s.store p.corner { station := i, message := m, kind := .info }) ∧
        (p.infoMessage = none ∨ (look s.bus.stations i).features.infoUsable = false → t.cues = s.cues)) ∧
      (x.phase = .idle → t = s) ∧
      (x.phase = .down → look t.press i =
        { x with phase := .idle, stamp := none, heldTime := 0, outcome := none, doublePending := false }) ∧
      (∀ e how, x.lastEntry = some e →
        (x.phase = .held ∧ how = .held ∨ x.phase = .long ∧ how = .long ∨ x.phase = .stuck ∧ how = .stuck) →
        look t.press i = { x with
          phase := .idle, stamp := none, heldTime := 0, outcome := none, doublePending := false
          lastEntry := some { e with release := q, ending := how }
          releaseAge := if q.isSome then 0 else 32768
          buttonFault := x.buttonFault && decide (how ≠ .stuck) }))

/-! ## Cues, speech and levels -/

/-- PERIOD_START, its six steps: the corner's pending profile becomes active; period and offset are taken from it and the sample point is
not passed; the level of each ACTIVE station of the corner moves toward its target by at most 3 dB; the open clean flag closes and a clean
one opens; covering becomes armed; the mark is raised. CORNER_TRANSFER alone makes step 1.
A PERIOD_START before the period has run takes its moment as come (log 2); CORNER_TRANSFER alone is log 24. -/
def Obligations.PeriodStart : Prop :=
  ∀ (s : State) (k : Corner) (p : CornerProfile), p = (look s.store.corners k).pending.getD (s.store.corner k) →
    (∃ t, exec (.periodStart k) s = .next t ∧
      t = { s with
            store := { s.store with corners := t.store.corners }
            cues := { s.cues with corners := t.cues.corners, stations := t.cues.stations }
            levels := t.levels } ∧
      look t.store.corners k = { active := p, pending := none } ∧ Beside s.store.corners t.store.corners k ∧
      look t.cues.corners k =
        { elapsed := 0, period := p.period, offset := p.offset, samplePassed := false, openClean := true,
          closedClean := (look s.cues.corners k).openClean, mark := true } ∧
      Beside s.cues.corners t.cues.corners k ∧
      (∀ i, look t.cues.stations i =
        if (s.store.station i).corner = k then
          { look s.cues.stations i with covering := (look s.cues.stations i).armed, armed := false }
        else look s.cues.stations i) ∧
      (∀ i, ((s.store.station i).corner ≠ k ∨ s.linkState i ≠ .active) → look t.levels i = look s.levels i) ∧
      (∀ i, (s.store.station i).corner = k → s.linkState i = .active → ∃ target,
        target = clamp (look s.levels i).minimum (look s.levels i).maximum
          ((look s.levels i).ambient / 16 + (s.store.station i).margin) ∧
        look t.levels i = { look s.levels i with
          output := (look s.levels i).output.map fun o =>
            if o + 3 < target then o + 3 else if target + 3 < o then o - 3 else target })) ∧
    (∃ t, exec (.cornerTransfer k) s = .next t ∧ t = { s with store := { s.store with corners := t.store.corners } } ∧
      look t.store.corners k = { active := p, pending := none } ∧ Beside s.store.corners t.store.corners k)

/-- SAMPLE_POINT: once in a period, the sample point is passed and the sample window of every station of the corner opens; a second time
in the period changes nothing (log 25). The filter of an admitted sample: one eighth of the difference 16 x sample - F, truncated toward
zero, is added to F, which so stays within 480..1760. -/
def Obligations.SamplePointAndFilter : Prop :=
  (∀ (s : State) (k : Corner),
    ((look s.cues.corners k).samplePassed = true → exec (.samplePoint k) s = .next s) ∧
    ((look s.cues.corners k).samplePassed = false → ∃ t, exec (.samplePoint k) s = .next t ∧
      t = { s with cues := { s.cues with corners := t.cues.corners }, levels := t.levels } ∧
      look t.cues.corners k = { look s.cues.corners k with samplePassed := true } ∧ Beside s.cues.corners t.cues.corners k ∧
      ∀ i, look t.levels i =
        if (s.store.station i).corner = k then { look s.levels i with windowOpen := true } else look s.levels i)) ∧
  (∀ f v : Nat, 480 ≤ f → f ≤ 1760 → 30 ≤ v → v ≤ 110 →
    (f ≤ 16 * v → ∃ q, q * 8 ≤ 16 * v - f ∧ 16 * v - f < (q + 1) * 8 ∧ filterAmbient f v = f + q) ∧
    (16 * v ≤ f → ∃ q, q * 8 ≤ f - 16 * v ∧ f - 16 * v < (q + 1) * 8 ∧ filterAmbient f v = f - q) ∧
    480 ≤ filterAmbient f v ∧ filterAmbient f v ≤ 1760)

/-- SPEECH_START, PLAY_LIMIT and GAP_END at a corner: an IDLE channel starts a WALK head at once and an INFO head when no station of the
corner sounds a walk; the play limit ends a playback as TIMEOUT and enters the gap of the active profile, a gap of 0 making the channel
IDLE at once with the start test; a gap's end makes the channel IDLE and tests the start. Elsewhere nothing changes.
A PLAY_LIMIT or a GAP_END before its time takes its moment as come (the model's choice, log 2), SPEECH_START given alone acts where an
idle channel has a queue (log 24), and a play limit whose playback something else has ended at the same moment only loses its mark
(log 30). -/
def Obligations.SpeechChannel : Prop :=
  ∀ (s : State) (k : Corner) (v : CornerSpeech) (walking : Prop), v = look s.cues.speech k →
    (walking ↔ ∃ i, (s.store.station i).corner = k ∧
      ((look s.cues.stations i).sound = .walkTone ∨ (look s.cues.stations i).sound = .speech .walk)) →
    (∀ e rest, v.channel = .idle → v.queue = e :: rest →
      (e.kind = .walk ∨ ¬ walking →
        ∃ t n, exec (.speechStart k) s = .next t ∧
          t = { s with cues := { s.cues with speech := t.cues.speech, nextSerial := t.cues.nextSerial } } ∧
          look t.cues.speech k = { v with channel := .playing e 0 n, queue := rest } ∧ Beside s.cues.speech t.cues.speech k) ∧
      (e.kind = .info → walking → exec (.speechStart k) s = .next s)) ∧
    (v.channel ≠ .idle ∨ v.queue = [] → exec (.speechStart k) s = .next s) ∧
    (v.limitLapsed = true → ∃ t, exec (.playLimit k) s = .next t ∧
      t = { s with cues := { s.cues with speech := t.cues.speech } } ∧
      look t.cues.speech k = { v with limitLapsed := false } ∧ Beside s.cues.speech t.cues.speech k) ∧
    (∀ e since n, v.limitLapsed = false → v.channel = .playing e since n →
      ∃ t, exec (.playLimit k) s = .next t ∧
        t = { s with cues := { s.cues with
                speech := t.cues.speech, stations := t.cues.stations, nextSerial := t.cues.nextSerial } } ∧
        Beside s.cues.speech t.cues.speech k ∧
        look t.cues.stations e.station = { look s.cues.stations e.station with result := .timeout } ∧
        Beside s.cues.stations t.cues.stations e.station ∧
        (0 < (s.store.corner k).gap → look t.cues.speech k = { v with channel := .gap (s.store.corner k).gap }) ∧
        ((s.store.corner k).gap = 0 →
          (v.queue = [] → look t.cues.speech k = { v with channel := .idle }) ∧
          ∀ d rest, v.queue = d :: rest →
            (d.kind = .walk ∨ ¬ walking → ∃ m, look t.cues.speech k = { v with channel := .playing d 0 m, queue := rest }) ∧
            (d.kind = .info → walking → look t.cues.speech k = { v with channel := .idle }))) ∧
    (v.limitLapsed = false → (∀ e since n, v.channel ≠ .playing e since n) → exec (.playLimit k) s = .next s) ∧
    (∀ left, v.channel = .gap left → ∃ t, exec (.gapEnd k) s = .next t ∧
      t = { s with cues := { s.cues with speech := t.cues.speech, nextSerial := t.cues.nextSerial } } ∧
      Beside s.cues.speech t.cues.speech k ∧
      (v.queue = [] → look t.cues.speech k = { v with channel := .idle }) ∧
      ∀ d rest, v.queue = d :: rest →
        (d.kind = .walk ∨ ¬ walking → ∃ m, look t.cues.speech k = { v with channel := .playing d 0 m, queue := rest }) ∧
        (d.kind = .info → walking → look t.cues.speech k = { v with channel := .idle })) ∧
    ((∀ left, v.channel ≠ .gap left) → exec (.gapEnd k) s = .next s)

/-- A WALK request in a queue: absorbed where the station's is already there; else put before the INFO entries, the youngest INFO entry of a
full queue giving way as DROPPED, or, in a queue full of WALK entries, not queued and itself DROPPED. It cuts an INFO playback into the
gap, or, with a gap of 0, into the start of the head; on an IDLE channel the head starts at once. An INFO request is absorbed where the
station's is already there or playing; else put at the end, or DROPPED at a full queue; on an IDLE channel the head is then tested for its
start. A cut at the moment of the play limit marks that limit as lapsed, by the model's own mark (log 30). -/
def Obligations.SpeechRequests : Prop :=
  (  ∀ (p : ProfileStore) (k : Corner) (g t : CueGenerator) (e : SpeechEntry) (walks infos : List SpeechEntry),
    e.kind = .walk → t = g.enqueueWalk p k e → (look g.speech k).queue = walks ++ infos →
    (∀ x ∈ walks, x.kind = .walk) → (∀ x ∈ infos, x.kind = .info) →
    t.gates = g.gates ∧ t.corners = g.corners ∧ Beside g.speech t.speech k ∧
    ((∃ x ∈ walks, x.station = e.station) → t = g) ∧
    ((∀ x ∈ walks, x.station ≠ e.station) → walks.length = 4 → infos = [] →
      t = { g with stations := t.stations } ∧ Beside g.stations t.stations e.station ∧
        look t.stations e.station = { look g.stations e.station with result := .dropped }) ∧
    (∀ (q : List SpeechEntry) (gone : Option SpeechEntry) (v : CornerSpeech), v = look g.speech k →
      (∀ x ∈ walks, x.station ≠ e.station) →
      (walks.length + infos.length ≤ 3 ∧ q = walks ++ e :: infos ∧ gone = none ∨
        ∃ kept y, walks.length + infos.length = 4 ∧ infos = kept ++ [y] ∧ q = walks ++ e :: kept ∧ gone = some y) →
      t = { g with speech := t.speech, stations := t.stations, nextSerial := t.nextSerial } ∧
      (∀ left, v.channel = .gap left → look t.speech k = { v with queue := q } ∧ t.nextSerial = g.nextSerial) ∧
      (∀ y since n, v.channel = .playing y since n → y.kind = .walk →
        look t.speech k = { v with queue := q } ∧ t.nextSerial = g.nextSerial) ∧
      (v.channel = .idle → ∀ d rest, q = d :: rest →
        ∃ n, look t.speech k = { v with channel := .playing d 0 n, queue := rest }) ∧
      (∀ y since n w, v.channel = .playing y since n → y.kind = .info →
        w = { v with queue := q, limitLapsed := v.limitLapsed || decide (20000 ≤ since) } →
        (0 < (p.corner k).gap → look t.speech k = { w with channel := .gap (p.corner k).gap } ∧ t.nextSerial = g.nextSerial) ∧
        ((p.corner k).gap = 0 → ∀ d rest, q = d :: rest →
          ∃ n, look t.speech k = { w with channel := .playing d 0 n, queue := rest })) ∧
      ∀ i : Station, look t.stations i = { look g.stations i with result := (look t.stations i).result } ∧
        ((∃ y since n, v.channel = .playing y since n ∧ y.kind = .info ∧ y.station = i) → (look t.stations i).result = .cut) ∧
        ((∀ y since n, v.channel = .playing y since n → y.kind = .info → y.station ≠ i) →
          ((∃ y, gone = some y ∧ y.station = i) → (look t.stations i).result = .dropped) ∧
          ((∀ y, gone = some y → y.station ≠ i) → (look t.stations i).result = (look g.stations i).result)))) ∧
  ∀ (p : ProfileStore) (k : Corner) (g t : CueGenerator) (e : SpeechEntry) (q : List SpeechEntry) (walking there : Prop),
    e.kind = .info → t = g.enqueueInfo p k e → q = (look g.speech k).queue →
    (walking ↔ ∃ i, (p.station i).corner = k ∧
      ((look g.stations i).sound = .walkTone ∨ (look g.stations i).sound = .speech .walk)) →
    (there ↔ (∃ x ∈ q, x.station = e.station ∧ x.kind = .info) ∨
      ∃ y since n, (look g.speech k).channel = .playing y since n ∧ y.station = e.station ∧ y.kind = .info) →
    (there → t = g) ∧
    (¬ there → 4 ≤ q.length → t = { g with stations := t.stations } ∧ Beside g.stations t.stations e.station ∧
      look t.stations e.station = { look g.stations e.station with result := .dropped }) ∧
    (¬ there → q.length < 4 →
      t = { g with speech := t.speech, nextSerial := t.nextSerial } ∧ Beside g.speech t.speech k ∧
      ((look g.speech k).channel ≠ .idle → look t.speech k = { look g.speech k with queue := q ++ [e] }) ∧
      ((look g.speech k).channel = .idle → ∀ y rest, q ++ [e] = y :: rest →
        (y.kind = .walk ∨ ¬ walking →
          ∃ n, look t.speech k = { look g.speech k with channel := .playing y 0 n, queue := rest }) ∧
        (y.kind = .info → walking → look t.speech k = { look g.speech k with queue := q ++ [e] })))

/-- The finding of a cue gate: it follows its condition; at its opening the WALK requests of the ACTIVE stations of the crossing whose
walk cue is SPEECH are put to their corners, ascending; at its closing the WALK entries of the crossing's stations are dropped and their
walk playback is cut into the gap, or, with a gap of 0, the start test is taken, and INFO entries and playbacks stand. A playback cut at the
moment of its play limit marks that limit as lapsed, by the model's own mark (log 30). -/
def Obligations.GateSpeech : Prop :=
  ∀ (s : State) (c : Crossing) (out : SpeechEntry → Bool),
    (∀ e, out e = true ↔ e.kind = .walk ∧ (s.store.station e.station).crossing = c) →
    (s.gateCondition c = true ↔ HasRecord s.table c CallState.isWalking ∧ (look s.aspects c).observed = .walk ∧
      (look s.holds.flags c).held = false ∧ (look s.aspects c).fault = none ∧ (s.store.crossing c).enabled = true) ∧
    (look s.cues.gates c = s.gateCondition c → s.findGate c = s) ∧
    (look s.cues.gates c = false → s.gateCondition c = true → ∃ l : List Station, l.Pairwise (fun i j => i < j) ∧
      (∀ i, i ∈ l ↔ (s.store.station i).crossing = c ∧ s.linkState i = .active ∧
        (look s.bus.stations i).features.walkCue = .speech) ∧
      ∃ g, s.findGate c = { s with cues := g } ∧
        g = l.foldl
          (fun g i => g.enqueueWalk s.store (s.store.station i).corner
            { station := i, message := (s.store.station i).walkMessage, kind := .walk })
          { s.cues with gates := put s.cues.gates c true }) ∧
    (look s.cues.gates c = true → s.gateCondition c = false →
      (∀ k, ∀ e ∈ (look s.cues.speech k).queue, out e = true → (s.store.station e.station).corner = k) →
      (∀ k e since n, (look s.cues.speech k).channel = .playing e since n → out e = true →
        (s.store.station e.station).corner = k) →
      ∃ t, s.findGate c = t ∧
        t = { s with cues := { s.cues with
                gates := put s.cues.gates c false, speech := t.cues.speech, stations := t.cues.stations
                nextSerial := t.cues.nextSerial } } ∧
        (∀ (k : Corner) (v : CornerSpeech) (left : List SpeechEntry) (walking : Prop), v = look s.cues.speech k →
          left = v.queue.filter (fun e => !out e) →
          (walking ↔ ∃ i, (s.store.station i).corner = k ∧
            ((look s.cues.stations i).sound = .walkTone ∨ (look s.cues.stations i).sound = .speech .walk)) →
          ((∀ e since n, v.channel = .playing e since n → out e = false) → look t.cues.speech k = { v with queue := left }) ∧
          ∀ e since n w, v.channel = .playing e since n → out e = true →
            w = { v with queue := left, limitLapsed := v.limitLapsed || decide (20000 ≤ since) } →
            (0 < (s.store.corner k).gap → look t.cues.speech k = { w with channel := .gap (s.store.corner k).gap }) ∧
            ((s.store.corner k).gap = 0 → StartTested walking { w with channel := .idle } (look t.cues.speech k))) ∧
        ∀ i, look t.cues.stations i = { look s.cues.stations i with result := (look t.cues.stations i).result } ∧
          ((∃ k e since n, (look s.cues.speech k).channel = .playing e since n ∧ out e = true ∧ e.station = i) →
            (look t.cues.stations i).result = .cut) ∧
          ((∀ k e since n, (look s.cues.speech k).channel = .playing e since n → out e = true → e.station ≠ i) →
            ((∃ k, ∃ e ∈ (look s.cues.speech k).queue, out e = true ∧ e.station = i) →
              (look t.cues.stations i).result = .dropped) ∧
            ((∀ k, ∀ e ∈ (look s.cues.speech k).queue, out e = true → e.station ≠ i) →
              (look t.cues.stations i).result = (look s.cues.stations i).result)))

/-! ## The laws every step keeps -/

/-- Every step keeps the cue gates' law: a gate is open exactly while its crossing has a WALKING record, shows WALK, and is not held, not
FAULTED and enabled. -/
def Obligations.StepKeepsGates : Prop := ∀ s t : State, GateLaw s → step s = .next t → GateLaw t

/-- Every step keeps the Call Table's laws: one WAITING record and one serving record at most for a crossing, a GRANTED or WALKING one alone,
memos only on a full table, serving records only where the crossing can serve; and every requesting set and count stays lawful. -/
def Obligations.StepKeepsCalls : Prop :=
  ∀ s t : State, ServiceLaw s → RequestLaw s → step s = .next t → ServiceLaw t ∧ RequestLaw t

/-- Every step keeps the speech queues' law: at most 4 entries, never two of one station and kind, WALK entries first. -/
def Obligations.StepKeepsQueues : Prop := ∀ s t : State, QueueLaw s.cues → step s = .next t → QueueLaw t.cues

/-- Every step keeps the stations' laws: each filtered ambient within 480..1760, each output level within its effective range; nothing of a
press stands in IDLE, the button fault is set exactly in STUCK, and the held time and the release age stay within their ranges. -/
def Obligations.StepKeepsStations : Prop :=
  ∀ s t : State, step s = .next t → (LevelLaw s → LevelLaw t) ∧ (PressLaw s → PressLaw t)

/-- Every step keeps the Hold Unit's laws: the software timer holds at most 3600 s, and a cycle wait stands only with its flag, while its
line is INACTIVE. -/
def Obligations.StepKeepsHolds : Prop :=
  ∀ s t : State, TimerLaw s.holds → WaitLaw s → step s = .next t → TimerLaw t.holds ∧ WaitLaw t

/-- Every step keeps the assignment limits: at most 4 stations count at any crossing, at most 6 at any corner. -/
def Obligations.StepKeepsAssignments : Prop :=
  ∀ s t : State, AssignmentLaw s.store → step s = .next t → AssignmentLaw t.store
end

