-- ==== Sys2Proof/Laws/Tables.lean ====
section
/-! SUPPORT. Reading back what a table operation wrote: entries, searches, counts. -/

namespace Sys2Proof.Machine

variable {α : Type} {n : Nat}

theorem look_eq (v : Vector α n) (i : Fin n) : look v i = v[i.val] := rfl

@[simp] theorem look_put_self (v : Vector α n) (i : Fin n) (a : α) : look (put v i a) i = a := by
  simp [look_eq, put]

theorem look_put_ne (v : Vector α n) {i j : Fin n} (h : j ≠ i) (a : α) : look (put v i a) j = look v j := by
  have h' : i.val ≠ j.val := fun e => h (Fin.ext e.symm)
  simp [look_eq, put, Vector.getElem_set_ne, h']

theorem look_put (v : Vector α n) (i j : Fin n) (a : α) :
    look (put v i a) j = if j = i then a else look v j := by
  by_cases h : j = i
  · simp [h]
  · simp [h, look_put_ne v h a]

@[simp] theorem look_change_self (v : Vector α n) (i : Fin n) (f : α → α) : look (change v i f) i = f (look v i) :=
  look_put_self v i _

theorem look_change_ne (v : Vector α n) {i j : Fin n} (h : j ≠ i) (f : α → α) :
    look (change v i f) j = look v j :=
  look_put_ne v h _

theorem look_change (v : Vector α n) (i j : Fin n) (f : α → α) :
    look (change v i f) j = if j = i then f (look v j) else look v j := by
  by_cases h : j = i
  · simp [h]
  · simp [h, look_change_ne v h f]

@[simp] theorem look_ofFn (f : Fin n → α) (i : Fin n) : look (Vector.ofFn f) i = f i := by
  simp [look_eq]

@[simp] theorem look_mapAll (f : Fin n → α → α) (v : Vector α n) (i : Fin n) : look (mapAll f v) i = f i (look v i) := by
  simp [mapAll]

@[simp] theorem look_replicate (a : α) (i : Fin n) : look (Vector.replicate n a) i = a := by
  simp [look_eq]

/-- Two tables with equal entries are equal. -/
theorem table_ext {v w : Vector α n} (h : ∀ i, look v i = look w i) : v = w := by
  apply Vector.ext
  intro i hi
  have := h ⟨i, hi⟩
  simpa [look_eq] using this

@[simp] theorem mem_members (p : Fin n → Bool) (i : Fin n) : i ∈ members p ↔ p i = true := by
  simp [members]

/-- What a search finds satisfies the condition. -/
theorem firstWhere_some {p : Fin n → Bool} {i : Fin n} (h : firstWhere p = some i) : p i = true := by
  have := List.find?_some h
  simpa using this

/-- A search that finds nothing: the condition holds nowhere. -/
theorem firstWhere_none {p : Fin n → Bool} : firstWhere p = none ↔ ∀ i, p i = false := by
  simp [firstWhere, List.find?_eq_none]

theorem firstWhere_isSome {p : Fin n → Bool} : (firstWhere p).isSome = true ↔ ∃ i, p i = true := by
  rw [Option.isSome_iff_ne_none, ne_eq, firstWhere_none]
  push Not
  simp

@[simp] theorem anyWhere_iff {p : Fin n → Bool} : anyWhere p = true ↔ ∃ i, p i = true := by
  simp [anyWhere]

theorem firstWhere_congr {p q : Fin n → Bool} (h : ∀ i, p i = q i) : firstWhere p = firstWhere q := by
  rw [show p = q from funext h]

end Sys2Proof.Machine
end

