-- ==== Sys2Proof/Laws/CallTable.lean ====
section
/-! SUPPORT. What each operation of the Call Table can do to the records, the memos and the targets. -/

namespace Sys2Proof.Machine

variable (t : CallTable) (p : ProfileStore)

/-! ## Entries -/

@[simp] theorem CallTable.fill_look (k i : RecordSlot) (r : CallRecord) :
    look (t.fill k r).records i = if i = k then some r else look t.records i := by
  simp [CallTable.fill, look_put]

@[simp] theorem CallTable.edit_look (k i : RecordSlot) (f : CallRecord → CallRecord) :
    look (t.edit k f).records i = if i = k then (look t.records i).map f else look t.records i := by
  simp [CallTable.edit, look_change]

@[simp] theorem CallTable.fill_memos (k : RecordSlot) (r : CallRecord) : (t.fill k r).memos = t.memos := rfl
@[simp] theorem CallTable.fill_targets (k : RecordSlot) (r : CallRecord) : (t.fill k r).targets = t.targets := rfl
@[simp] theorem CallTable.edit_memos (k : RecordSlot) (f : CallRecord → CallRecord) : (t.edit k f).memos = t.memos := rfl
@[simp] theorem CallTable.edit_targets (k : RecordSlot) (f : CallRecord → CallRecord) : (t.edit k f).targets = t.targets := rfl
@[simp] theorem CallTable.retarget_records (x y : Target) : (t.retarget x y).records = t.records := by
  simp only [CallTable.retarget]
@[simp] theorem CallTable.retarget_memos (x y : Target) : (t.retarget x y).memos = t.memos := by
  simp only [CallTable.retarget]
@[simp] theorem CallTable.retarget_look (x y : Target) (i : Station) :
    look (t.retarget x y).targets i = if look t.targets i = x then y else look t.targets i := by
  simp [CallTable.retarget]
@[simp] theorem CallTable.clearMemo_records (c : Crossing) : (t.clearMemo c).records = t.records := by
  simp [CallTable.clearMemo]
@[simp] theorem CallTable.clearMemo_memos (c : Crossing) : (t.clearMemo c).memos = put t.memos c none := by
  simp [CallTable.clearMemo]
@[simp] theorem CallTable.aim_records (i : Station) (x : Target) : (t.aim i x).records = t.records := rfl
@[simp] theorem CallTable.aim_memos (i : Station) (x : Target) : (t.aim i x).memos = t.memos := rfl
@[simp] theorem CallTable.aim_targets (i : Station) (x : Target) : (t.aim i x).targets = put t.targets i x := rfl

@[simp] theorem mergePress_crossing (i : Station) (r : CallRecord) : (mergePress i r).crossing = r.crossing := rfl
@[simp] theorem mergePress_state (i : Station) (r : CallRecord) : (mergePress i r).state = r.state := rfl
@[simp] theorem extendRecord_crossing (r : CallRecord) : (extendRecord p r).crossing = r.crossing := by
  simp only [extendRecord]; split <;> rfl
@[simp] theorem extendRecord_state (r : CallRecord) : (extendRecord p r).state = r.state := by
  simp only [extendRecord]; split <;> rfl
@[simp] theorem extendRecord_stations (r : CallRecord) : (extendRecord p r).stations = r.stations := by
  simp only [extendRecord]; split <;> rfl
@[simp] theorem extendRecord_pressCount (r : CallRecord) : (extendRecord p r).pressCount = r.pressCount := by
  simp only [extendRecord]; split <;> rfl
@[simp] theorem mergeLinked_crossing (k : CallKind) (r : CallRecord) : (mergeLinked p k r).crossing = r.crossing := by
  cases k <;> simp [mergeLinked]
@[simp] theorem mergeLinked_state (k : CallKind) (r : CallRecord) : (mergeLinked p k r).state = r.state := by
  cases k <;> simp [mergeLinked]
@[simp] theorem mergeLinked_stations (k : CallKind) (r : CallRecord) : (mergeLinked p k r).stations = r.stations := by
  cases k <;> simp [mergeLinked]
@[simp] theorem mergeLinked_pressCount (k : CallKind) (r : CallRecord) : (mergeLinked p k r).pressCount = r.pressCount := by
  cases k <;> simp [mergeLinked]
@[simp] theorem takeOutOfRecord_crossing (i : Station) (r : CallRecord) : (takeOutOfRecord i r).crossing = r.crossing := by
  simp only [takeOutOfRecord]; split <;> rfl
@[simp] theorem takeOutOfRecord_state (i : Station) (r : CallRecord) : (takeOutOfRecord i r).state = r.state := by
  simp only [takeOutOfRecord]; split <;> rfl
@[simp] theorem readvise_crossing (r : CallRecord) : (readvise p r).crossing = r.crossing := by
  simp only [readvise]; split <;> rfl
@[simp] theorem readvise_state (r : CallRecord) : (readvise p r).state = r.state := by
  simp only [readvise]; split <;> rfl
@[simp] theorem readvise_stations (r : CallRecord) : (readvise p r).stations = r.stations := by
  simp only [readvise]; split <;> rfl
@[simp] theorem readvise_pressCount (r : CallRecord) : (readvise p r).pressCount = r.pressCount := by
  simp only [readvise]; split <;> rfl
@[simp] theorem moveTo_crossing (x : CallState) (r : CallRecord) : (moveTo x r).crossing = r.crossing := rfl
@[simp] theorem moveTo_state (x : CallState) (r : CallRecord) : (moveTo x r).state = x := rfl
@[simp] theorem moveTo_stations (x : CallState) (r : CallRecord) : (moveTo x r).stations = r.stations := rfl
@[simp] theorem moveTo_pressCount (x : CallState) (r : CallRecord) : (moveTo x r).pressCount = r.pressCount := rfl
@[simp] theorem toClearing_crossing (r : CallRecord) : (toClearing r).crossing = r.crossing := by
  simp only [toClearing]; split <;> rfl
@[simp] theorem toClearing_stations (r : CallRecord) : (toClearing r).stations = r.stations := by
  simp only [toClearing]; split <;> rfl
@[simp] theorem toClearing_pressCount (r : CallRecord) : (toClearing r).pressCount = r.pressCount := by
  simp only [toClearing]; split <;> rfl

/-! ## Searches -/

theorem recordIs_iff {c : Crossing} {q : CallState → Bool} {x : Option CallRecord} :
    recordIs c q x = true ↔ ∃ r, x = some r ∧ r.crossing = c ∧ q r.state = true := by
  cases x <;> simp [recordIs]

/-- A place a search finds holds a record of the crossing in a state searched for. -/
theorem waitingSlot_some {t : CallTable} {c : Crossing} {i : RecordSlot} (h : t.waitingSlot c = some i) :
    ∃ r, look t.records i = some r ∧ r.crossing = c ∧ r.state = .waiting := by
  obtain ⟨r, h1, h2, h3⟩ := recordIs_iff.1 (firstWhere_some h)
  exact ⟨r, h1, h2, by cases hs : r.state <;> simp_all [CallState.isWaiting]⟩

theorem servingSlot_some {t : CallTable} {c : Crossing} {i : RecordSlot} (h : t.servingSlot c = some i) :
    ∃ r, look t.records i = some r ∧ r.crossing = c ∧ r.state.isWaiting = false := by
  obtain ⟨r, h1, h2, h3⟩ := recordIs_iff.1 (firstWhere_some h)
  exact ⟨r, h1, h2, by simpa using h3⟩

theorem grantedSlot_some {t : CallTable} {c : Crossing} {i : RecordSlot} (h : t.grantedSlot c = some i) :
    ∃ r, look t.records i = some r ∧ r.crossing = c ∧ r.state.isGranted = true :=
  recordIs_iff.1 (firstWhere_some h)

theorem walkingSlot_some {t : CallTable} {c : Crossing} {i : RecordSlot} (h : t.walkingSlot c = some i) :
    ∃ r, look t.records i = some r ∧ r.crossing = c ∧ r.state.isWalking = true :=
  recordIs_iff.1 (firstWhere_some h)

theorem joinableSlot_some {t : CallTable} {c : Crossing} {i : RecordSlot} (h : t.joinableSlot c = some i) :
    ∃ r, look t.records i = some r ∧ r.crossing = c ∧ r.state.isJoinable = true :=
  recordIs_iff.1 (firstWhere_some h)

theorem freeSlot_some {t : CallTable} {i : RecordSlot} (h : t.freeSlot = some i) : look t.records i = none := by
  simpa using firstWhere_some h

theorem freeSlot_none {t : CallTable} : t.freeSlot = none ↔ ∀ i, (look t.records i).isSome = true := by
  simp [CallTable.freeSlot, firstWhere_none, Option.isSome_iff_ne_none]

theorem noRecord {t : CallTable} {c : Crossing} {q : CallState → Bool}
    (h : (firstWhere fun i => recordIs c q (look t.records i)) = none) {i : RecordSlot} {r : CallRecord}
    (hr : look t.records i = some r) (hc : r.crossing = c) : q r.state = false := by
  have := firstWhere_none.1 h i
  simpa [recordIs, hr, hc] using this

theorem waitingSlot_none {t : CallTable} {c : Crossing} (h : t.waitingSlot c = none) {i : RecordSlot} {r : CallRecord}
    (hr : look t.records i = some r) (hc : r.crossing = c) : r.state.isWaiting = false := noRecord h hr hc

theorem servingSlot_none {t : CallTable} {c : Crossing} (h : t.servingSlot c = none) {i : RecordSlot} {r : CallRecord}
    (hr : look t.records i = some r) (hc : r.crossing = c) : r.state.isWaiting = true := by
  simpa using noRecord h hr hc

theorem grantedSlot_none {t : CallTable} {c : Crossing} (h : t.grantedSlot c = none) {i : RecordSlot} {r : CallRecord}
    (hr : look t.records i = some r) (hc : r.crossing = c) : r.state.isGranted = false := noRecord h hr hc

theorem walkingSlot_none {t : CallTable} {c : Crossing} (h : t.walkingSlot c = none) {i : RecordSlot} {r : CallRecord}
    (hr : look t.records i = some r) (hc : r.crossing = c) : r.state.isWalking = false := noRecord h hr hc

theorem joinableSlot_none {t : CallTable} {c : Crossing} (h : t.joinableSlot c = none) {i : RecordSlot} {r : CallRecord}
    (hr : look t.records i = some r) (hc : r.crossing = c) : r.state.isJoinable = false := noRecord h hr hc

/-! ## Allocation and removal -/

/-- A found oldest memo is present. -/
theorem oldestMemo_some {t : CallTable} {now : StreetTime} {c : Crossing} (h : t.oldestMemo now = some c) :
    ∃ m, look t.memos c = some m := by
  have key : ∀ (l : List Crossing) (b : Option (Crossing × Nat)),
      (∀ x, b = some x → ∃ m, look t.memos x.1 = some m) →
      ∀ x, l.foldl (olderMemo now t) b = some x → ∃ m, look t.memos x.1 = some m := by
    intro l
    induction l with
    | nil => intro b hb x hx; exact hb x hx
    | cons d l ih =>
      intro b hb
      rw [List.foldl_cons]
      apply ih
      intro x hx
      unfold olderMemo at hx
      split at hx
      · exact hb x hx
      · injection hx with hx; subst hx; exact ⟨_, ‹_›⟩
      · split at hx <;> (injection hx with hx; subst hx)
        · exact ⟨_, ‹_›⟩
        · exact hb _ rfl
  unfold CallTable.oldestMemo at h
  rw [Option.map_eq_some_iff] at h
  obtain ⟨x, hx, rfl⟩ := h
  exact key _ none (fun x hx => by simp at hx) x hx

/-- An oldest memo is found wherever one is present. -/
theorem oldestMemo_none {t : CallTable} {now : StreetTime} (h : t.oldestMemo now = none) (c : Crossing) :
    look t.memos c = none := by
  have grow : ∀ (l : List Crossing) (x : Crossing × Nat), ∃ y, l.foldl (olderMemo now t) (some x) = some y := by
    intro l
    induction l with
    | nil => intro x; exact ⟨x, rfl⟩
    | cons d l ih =>
      intro x
      rw [List.foldl_cons]
      have : ∃ y, olderMemo now t (some x) d = some y := by
        unfold olderMemo
        split
        · exact ⟨x, rfl⟩
        · exact ⟨_, rfl⟩
        · split <;> exact ⟨_, rfl⟩
      obtain ⟨y, hy⟩ := this
      rw [hy]; exact ih y
  have key : ∀ (l : List Crossing), l.foldl (olderMemo now t) none = none → ∀ c ∈ l, look t.memos c = none := by
    intro l
    induction l with
    | nil => intro _ c hc; simp at hc
    | cons d l ih =>
      intro hl c hc
      rw [List.foldl_cons] at hl
      have hd : look t.memos d = none := by
        by_contra hne
        obtain ⟨m, hm⟩ := Option.ne_none_iff_exists'.1 hne
        have : olderMemo now t none d = some (d, ageOf now m.since) := by simp [olderMemo, hm]
        rw [this] at hl
        obtain ⟨y, hy⟩ := grow l (d, ageOf now m.since)
        rw [hy] at hl; simp at hl
      have h0 : olderMemo now t none d = none := by simp [olderMemo, hd]
      rw [h0] at hl
      rcases List.mem_cons.1 hc with rfl | hc
      · exact hd
      · exact ih hl c hc
  unfold CallTable.oldestMemo at h
  rw [Option.map_eq_none_iff] at h
  exact key _ h c (List.mem_finRange c)

/-- An allocation gives a free record to a present memo, or does nothing because there is no free record or no memo (R54). -/
theorem allocate_cases :
    ((t.freeSlot = none ∨ ∀ c, look t.memos c = none) ∧ t.allocate p = t) ∨
      ∃ i c m, t.freeSlot = some i ∧ t.oldestMemo p.streetTime = some c ∧ look t.memos c = some m ∧
        t.allocate p = { (t.fill i (newRecord p c .waiting m.origin m.kind m.stations m.count m.since)) with
          memos := put t.memos c none }.retarget (.memo c) (.record i) := by
  unfold CallTable.allocate
  split
  · rename_i i c hi hc
    obtain ⟨m, hm⟩ := oldestMemo_some hc
    right
    refine ⟨i, c, m, hi, hc, hm, ?_⟩
    simp [hm]
  · rename_i h
    left
    refine ⟨?_, rfl⟩
    by_cases hf : t.freeSlot = none
    · exact .inl hf
    · right
      obtain ⟨i, hi⟩ := Option.ne_none_iff_exists'.1 hf
      refine oldestMemo_none (now := p.streetTime) ?_
      by_contra hne
      obtain ⟨c, hc⟩ := Option.ne_none_iff_exists'.1 hne
      exact h i c hi hc

/-! ## Demand -/

/-- What demand does to the records: a record in use keeps its crossing and its state, and a free place stays free or holds a new
WAITING record. -/
def DemandOnly (t t' : CallTable) : Prop :=
  ∀ i, (∀ r, look t.records i = some r → ∃ r', look t'.records i = some r' ∧ r'.crossing = r.crossing ∧ r'.state = r.state) ∧
    (look t.records i = none → look t'.records i = none ∨ ∃ r', look t'.records i = some r' ∧ r'.state = .waiting)

theorem DemandOnly.refl : DemandOnly t t := fun _ => ⟨fun r h => ⟨r, h, rfl, rfl⟩, .inl⟩

theorem DemandOnly.of_records {t t' : CallTable} (h : t'.records = t.records) : DemandOnly t t' := by
  intro i; rw [h]; exact DemandOnly.refl t i

theorem DemandOnly.trans {t u v : CallTable} (h : DemandOnly t u) (k : DemandOnly u v) : DemandOnly t v := by
  intro i
  refine ⟨fun r hr => ?_, fun hn => ?_⟩
  · obtain ⟨r1, h1, h2, h3⟩ := (h i).1 r hr
    obtain ⟨r2, k1, k2, k3⟩ := (k i).1 r1 h1
    exact ⟨r2, k1, k2.trans h2, k3.trans h3⟩
  · rcases (h i).2 hn with h1 | ⟨r1, h1, h2⟩
    · exact (k i).2 h1
    · obtain ⟨r2, k1, _, k3⟩ := (k i).1 r1 h1
      exact .inr ⟨r2, k1, k3.trans h2⟩

theorem DemandOnly.edit (k : RecordSlot) (f : CallRecord → CallRecord) (hc : ∀ r, (f r).crossing = r.crossing)
    (hs : ∀ r, (f r).state = r.state) : DemandOnly t (t.edit k f) := by
  intro i
  rw [CallTable.edit_look]
  split
  · exact ⟨fun r hr => ⟨f r, by simp [hr], hc r, hs r⟩, fun hn => .inl (by simp [hn])⟩
  · exact ⟨fun r hr => ⟨r, hr, rfl, rfl⟩, .inl⟩

theorem DemandOnly.fill {k : RecordSlot} {r : CallRecord} (hk : look t.records k = none) (hr : r.state = .waiting) :
    DemandOnly t (t.fill k r) := by
  intro i
  rw [CallTable.fill_look]
  split
  · rename_i h; subst h
    exact ⟨fun q hq => by simp [hk] at hq, fun _ => .inr ⟨r, rfl, hr⟩⟩
  · exact ⟨fun r hr => ⟨r, hr, rfl, rfl⟩, .inl⟩

theorem placePress_demand (i : Station) (c : Crossing) : DemandOnly t (t.placePress p i c).1 := by
  unfold CallTable.placePress
  split
  · exact DemandOnly.edit t _ _ (fun _ => rfl) (fun _ => rfl)
  · split
    · exact DemandOnly.edit t _ _ (fun _ => rfl) (fun _ => rfl)
    · split
      · exact DemandOnly.fill t (freeSlot_some ‹_›) rfl
      · exact DemandOnly.of_records rfl

theorem placeLinked_demand (k : CallKind) (c : Crossing) : DemandOnly t (t.placeLinked p k c) := by
  unfold CallTable.placeLinked
  split
  · exact DemandOnly.edit t _ _ (by simp) (by simp)
  · split
    · exact DemandOnly.edit t _ _ (by simp) (by simp)
    · split
      · exact DemandOnly.fill t (freeSlot_some ‹_›) rfl
      · exact DemandOnly.of_records rfl

theorem carry_demand (k : CallKind) (c : Crossing) : DemandOnly t (t.carry p k c) := by
  unfold CallTable.carry
  generalize carriedTo p c = l
  induction l generalizing t with
  | nil => exact DemandOnly.refl t
  | cons d l ih => exact (placeLinked_demand t p k d).trans (ih _)

theorem register_demand (i : Station) (c : Crossing) : DemandOnly t (t.register p i c).1 := by
  unfold CallTable.register
  split
  · dsimp only
    refine (placePress_demand t p i c).trans (DemandOnly.trans (u := (t.placePress p i c).1.aim i (t.placePress p i c).2)
      (DemandOnly.of_records rfl) (carry_demand _ p _ c))
  · exact DemandOnly.of_records rfl

theorem upgrade_demand (i : Station) : DemandOnly t (t.upgrade p i) := by
  unfold CallTable.upgrade
  split
  · exact DemandOnly.refl t
  · split
    · exact (DemandOnly.edit t _ _ (by simp) (by simp)).trans (carry_demand _ p _ _)
    · exact DemandOnly.refl t
  · split
    · refine DemandOnly.trans (DemandOnly.of_records ?_) (carry_demand _ p _ _)
      rfl
    · exact DemandOnly.refl t

theorem reassign_demand (i : Station) (c : Crossing) : DemandOnly t (t.reassign i c) := by
  unfold CallTable.reassign
  split
  · exact (DemandOnly.edit t _ _ (by simp) (by simp)).trans (DemandOnly.of_records rfl)
  · exact DemandOnly.of_records rfl

theorem allocate_demand : DemandOnly t (t.allocate p) := by
  rcases allocate_cases t p with ⟨_, h⟩ | ⟨i, c, m, hi, _, _, h⟩
  · rw [h]; exact DemandOnly.refl t
  · rw [h]
    exact (DemandOnly.fill t (r := newRecord p c .waiting m.origin m.kind m.stations m.count m.since) (freeSlot_some hi)
      rfl).trans (DemandOnly.of_records (by simp))

theorem markSeen_demand (only : Option Crossing) : DemandOnly t (t.markSeen only) := by
  intro i
  have h : look (t.markSeen only).records i = (look t.records i).map fun r => if asked only r then { r with seen := true } else r := by
    simp [CallTable.markSeen]
  rw [h]
  refine ⟨fun r hr => ⟨_, by rw [hr]; rfl, ?_, ?_⟩, fun hn => .inl (by simp [hn])⟩ <;> dsimp only <;> split <;> rfl

/-- Demand leaves every crossing's WALKING record where it was. -/
theorem DemandOnly.walking {t t' : CallTable} (h : DemandOnly t t') (c : Crossing) (i : RecordSlot) :
    recordIs c CallState.isWalking (look t'.records i) = recordIs c CallState.isWalking (look t.records i) := by
  cases hr : look t.records i with
  | none =>
    rcases (h i).2 hr with h1 | ⟨r', h1, h2⟩
    · rw [h1]
    · simp [h1, h2, recordIs, CallState.isWalking]
  | some r =>
    obtain ⟨r', h1, h2, h3⟩ := (h i).1 r hr
    simp [h1, h2, h3, recordIs]

theorem DemandOnly.walkingSlot {t t' : CallTable} (h : DemandOnly t t') (c : Crossing) :
    t'.walkingSlot c = t.walkingSlot c := firstWhere_congr (h.walking c)

end Sys2Proof.Machine
end

