-- ==== Sys2Proof/Laws/State.lean ====
section
/-! SUPPORT. One lemma per field per update of State, so that no proof unfolds a record update. -/

namespace Sys2Proof.Machine

variable (s : State)

@[simp] theorem State.onStore_store (f : ProfileStore → ProfileStore) : (s.onStore f).store = f s.store := rfl
@[simp] theorem State.onStore_bus (f : ProfileStore → ProfileStore) : (s.onStore f).bus = s.bus := rfl
@[simp] theorem State.onStore_press (f : ProfileStore → ProfileStore) : (s.onStore f).press = s.press := rfl
@[simp] theorem State.onStore_table (f : ProfileStore → ProfileStore) : (s.onStore f).table = s.table := rfl
@[simp] theorem State.onStore_grants (f : ProfileStore → ProfileStore) : (s.onStore f).grants = s.grants := rfl
@[simp] theorem State.onStore_aspects (f : ProfileStore → ProfileStore) : (s.onStore f).aspects = s.aspects := rfl
@[simp] theorem State.onStore_holds (f : ProfileStore → ProfileStore) : (s.onStore f).holds = s.holds := rfl
@[simp] theorem State.onStore_cues (f : ProfileStore → ProfileStore) : (s.onStore f).cues = s.cues := rfl
@[simp] theorem State.onStore_levels (f : ProfileStore → ProfileStore) : (s.onStore f).levels = s.levels := rfl
@[simp] theorem State.onStore_response (f : ProfileStore → ProfileStore) : (s.onStore f).response = s.response := rfl
@[simp] theorem State.onStore_subTime (f : ProfileStore → ProfileStore) : (s.onStore f).subTime = s.subTime := rfl
@[simp] theorem State.onStore_pending (f : ProfileStore → ProfileStore) : (s.onStore f).pending = s.pending := rfl

@[simp] theorem State.onBus_store (f : BusController → BusController) : (s.onBus f).store = s.store := rfl
@[simp] theorem State.onBus_bus (f : BusController → BusController) : (s.onBus f).bus = f s.bus := rfl
@[simp] theorem State.onBus_press (f : BusController → BusController) : (s.onBus f).press = s.press := rfl
@[simp] theorem State.onBus_table (f : BusController → BusController) : (s.onBus f).table = s.table := rfl
@[simp] theorem State.onBus_grants (f : BusController → BusController) : (s.onBus f).grants = s.grants := rfl
@[simp] theorem State.onBus_aspects (f : BusController → BusController) : (s.onBus f).aspects = s.aspects := rfl
@[simp] theorem State.onBus_holds (f : BusController → BusController) : (s.onBus f).holds = s.holds := rfl
@[simp] theorem State.onBus_cues (f : BusController → BusController) : (s.onBus f).cues = s.cues := rfl
@[simp] theorem State.onBus_levels (f : BusController → BusController) : (s.onBus f).levels = s.levels := rfl
@[simp] theorem State.onBus_response (f : BusController → BusController) : (s.onBus f).response = s.response := rfl
@[simp] theorem State.onBus_subTime (f : BusController → BusController) : (s.onBus f).subTime = s.subTime := rfl
@[simp] theorem State.onBus_pending (f : BusController → BusController) : (s.onBus f).pending = s.pending := rfl

@[simp] theorem State.onLink_store (i : Station) (f : StationLink → StationLink) : (s.onLink i f).store = s.store := rfl
@[simp] theorem State.onLink_bus (i : Station) (f : StationLink → StationLink) : (s.onLink i f).bus = { s.bus with stations := change s.bus.stations i f } := rfl
@[simp] theorem State.onLink_press (i : Station) (f : StationLink → StationLink) : (s.onLink i f).press = s.press := rfl
@[simp] theorem State.onLink_table (i : Station) (f : StationLink → StationLink) : (s.onLink i f).table = s.table := rfl
@[simp] theorem State.onLink_grants (i : Station) (f : StationLink → StationLink) : (s.onLink i f).grants = s.grants := rfl
@[simp] theorem State.onLink_aspects (i : Station) (f : StationLink → StationLink) : (s.onLink i f).aspects = s.aspects := rfl
@[simp] theorem State.onLink_holds (i : Station) (f : StationLink → StationLink) : (s.onLink i f).holds = s.holds := rfl
@[simp] theorem State.onLink_cues (i : Station) (f : StationLink → StationLink) : (s.onLink i f).cues = s.cues := rfl
@[simp] theorem State.onLink_levels (i : Station) (f : StationLink → StationLink) : (s.onLink i f).levels = s.levels := rfl
@[simp] theorem State.onLink_response (i : Station) (f : StationLink → StationLink) : (s.onLink i f).response = s.response := rfl
@[simp] theorem State.onLink_subTime (i : Station) (f : StationLink → StationLink) : (s.onLink i f).subTime = s.subTime := rfl
@[simp] theorem State.onLink_pending (i : Station) (f : StationLink → StationLink) : (s.onLink i f).pending = s.pending := rfl

@[simp] theorem State.onPress_store (i : Station) (f : PressState → PressState) : (s.onPress i f).store = s.store := rfl
@[simp] theorem State.onPress_bus (i : Station) (f : PressState → PressState) : (s.onPress i f).bus = s.bus := rfl
@[simp] theorem State.onPress_press (i : Station) (f : PressState → PressState) : (s.onPress i f).press = change s.press i f := rfl
@[simp] theorem State.onPress_table (i : Station) (f : PressState → PressState) : (s.onPress i f).table = s.table := rfl
@[simp] theorem State.onPress_grants (i : Station) (f : PressState → PressState) : (s.onPress i f).grants = s.grants := rfl
@[simp] theorem State.onPress_aspects (i : Station) (f : PressState → PressState) : (s.onPress i f).aspects = s.aspects := rfl
@[simp] theorem State.onPress_holds (i : Station) (f : PressState → PressState) : (s.onPress i f).holds = s.holds := rfl
@[simp] theorem State.onPress_cues (i : Station) (f : PressState → PressState) : (s.onPress i f).cues = s.cues := rfl
@[simp] theorem State.onPress_levels (i : Station) (f : PressState → PressState) : (s.onPress i f).levels = s.levels := rfl
@[simp] theorem State.onPress_response (i : Station) (f : PressState → PressState) : (s.onPress i f).response = s.response := rfl
@[simp] theorem State.onPress_subTime (i : Station) (f : PressState → PressState) : (s.onPress i f).subTime = s.subTime := rfl
@[simp] theorem State.onPress_pending (i : Station) (f : PressState → PressState) : (s.onPress i f).pending = s.pending := rfl

@[simp] theorem State.onTable_store (f : CallTable → CallTable) : (s.onTable f).store = s.store := rfl
@[simp] theorem State.onTable_bus (f : CallTable → CallTable) : (s.onTable f).bus = s.bus := rfl
@[simp] theorem State.onTable_press (f : CallTable → CallTable) : (s.onTable f).press = s.press := rfl
@[simp] theorem State.onTable_table (f : CallTable → CallTable) : (s.onTable f).table = f s.table := rfl
@[simp] theorem State.onTable_grants (f : CallTable → CallTable) : (s.onTable f).grants = s.grants := rfl
@[simp] theorem State.onTable_aspects (f : CallTable → CallTable) : (s.onTable f).aspects = s.aspects := rfl
@[simp] theorem State.onTable_holds (f : CallTable → CallTable) : (s.onTable f).holds = s.holds := rfl
@[simp] theorem State.onTable_cues (f : CallTable → CallTable) : (s.onTable f).cues = s.cues := rfl
@[simp] theorem State.onTable_levels (f : CallTable → CallTable) : (s.onTable f).levels = s.levels := rfl
@[simp] theorem State.onTable_response (f : CallTable → CallTable) : (s.onTable f).response = s.response := rfl
@[simp] theorem State.onTable_subTime (f : CallTable → CallTable) : (s.onTable f).subTime = s.subTime := rfl
@[simp] theorem State.onTable_pending (f : CallTable → CallTable) : (s.onTable f).pending = s.pending := rfl

@[simp] theorem State.onGrant_store (c : Crossing) (f : GrantState → GrantState) : (s.onGrant c f).store = s.store := rfl
@[simp] theorem State.onGrant_bus (c : Crossing) (f : GrantState → GrantState) : (s.onGrant c f).bus = s.bus := rfl
@[simp] theorem State.onGrant_press (c : Crossing) (f : GrantState → GrantState) : (s.onGrant c f).press = s.press := rfl
@[simp] theorem State.onGrant_table (c : Crossing) (f : GrantState → GrantState) : (s.onGrant c f).table = s.table := rfl
@[simp] theorem State.onGrant_grants (c : Crossing) (f : GrantState → GrantState) : (s.onGrant c f).grants = change s.grants c f := rfl
@[simp] theorem State.onGrant_aspects (c : Crossing) (f : GrantState → GrantState) : (s.onGrant c f).aspects = s.aspects := rfl
@[simp] theorem State.onGrant_holds (c : Crossing) (f : GrantState → GrantState) : (s.onGrant c f).holds = s.holds := rfl
@[simp] theorem State.onGrant_cues (c : Crossing) (f : GrantState → GrantState) : (s.onGrant c f).cues = s.cues := rfl
@[simp] theorem State.onGrant_levels (c : Crossing) (f : GrantState → GrantState) : (s.onGrant c f).levels = s.levels := rfl
@[simp] theorem State.onGrant_response (c : Crossing) (f : GrantState → GrantState) : (s.onGrant c f).response = s.response := rfl
@[simp] theorem State.onGrant_subTime (c : Crossing) (f : GrantState → GrantState) : (s.onGrant c f).subTime = s.subTime := rfl
@[simp] theorem State.onGrant_pending (c : Crossing) (f : GrantState → GrantState) : (s.onGrant c f).pending = s.pending := rfl

@[simp] theorem State.onAspect_store (c : Crossing) (f : AspectState → AspectState) : (s.onAspect c f).store = s.store := rfl
@[simp] theorem State.onAspect_bus (c : Crossing) (f : AspectState → AspectState) : (s.onAspect c f).bus = s.bus := rfl
@[simp] theorem State.onAspect_press (c : Crossing) (f : AspectState → AspectState) : (s.onAspect c f).press = s.press := rfl
@[simp] theorem State.onAspect_table (c : Crossing) (f : AspectState → AspectState) : (s.onAspect c f).table = s.table := rfl
@[simp] theorem State.onAspect_grants (c : Crossing) (f : AspectState → AspectState) : (s.onAspect c f).grants = s.grants := rfl
@[simp] theorem State.onAspect_aspects (c : Crossing) (f : AspectState → AspectState) : (s.onAspect c f).aspects = change s.aspects c f := rfl
@[simp] theorem State.onAspect_holds (c : Crossing) (f : AspectState → AspectState) : (s.onAspect c f).holds = s.holds := rfl
@[simp] theorem State.onAspect_cues (c : Crossing) (f : AspectState → AspectState) : (s.onAspect c f).cues = s.cues := rfl
@[simp] theorem State.onAspect_levels (c : Crossing) (f : AspectState → AspectState) : (s.onAspect c f).levels = s.levels := rfl
@[simp] theorem State.onAspect_response (c : Crossing) (f : AspectState → AspectState) : (s.onAspect c f).response = s.response := rfl
@[simp] theorem State.onAspect_subTime (c : Crossing) (f : AspectState → AspectState) : (s.onAspect c f).subTime = s.subTime := rfl
@[simp] theorem State.onAspect_pending (c : Crossing) (f : AspectState → AspectState) : (s.onAspect c f).pending = s.pending := rfl

@[simp] theorem State.onHolds_store (f : HoldUnit → HoldUnit) : (s.onHolds f).store = s.store := rfl
@[simp] theorem State.onHolds_bus (f : HoldUnit → HoldUnit) : (s.onHolds f).bus = s.bus := rfl
@[simp] theorem State.onHolds_press (f : HoldUnit → HoldUnit) : (s.onHolds f).press = s.press := rfl
@[simp] theorem State.onHolds_table (f : HoldUnit → HoldUnit) : (s.onHolds f).table = s.table := rfl
@[simp] theorem State.onHolds_grants (f : HoldUnit → HoldUnit) : (s.onHolds f).grants = s.grants := rfl
@[simp] theorem State.onHolds_aspects (f : HoldUnit → HoldUnit) : (s.onHolds f).aspects = s.aspects := rfl
@[simp] theorem State.onHolds_holds (f : HoldUnit → HoldUnit) : (s.onHolds f).holds = f s.holds := rfl
@[simp] theorem State.onHolds_cues (f : HoldUnit → HoldUnit) : (s.onHolds f).cues = s.cues := rfl
@[simp] theorem State.onHolds_levels (f : HoldUnit → HoldUnit) : (s.onHolds f).levels = s.levels := rfl
@[simp] theorem State.onHolds_response (f : HoldUnit → HoldUnit) : (s.onHolds f).response = s.response := rfl
@[simp] theorem State.onHolds_subTime (f : HoldUnit → HoldUnit) : (s.onHolds f).subTime = s.subTime := rfl
@[simp] theorem State.onHolds_pending (f : HoldUnit → HoldUnit) : (s.onHolds f).pending = s.pending := rfl

@[simp] theorem State.onCues_store (f : CueGenerator → CueGenerator) : (s.onCues f).store = s.store := rfl
@[simp] theorem State.onCues_bus (f : CueGenerator → CueGenerator) : (s.onCues f).bus = s.bus := rfl
@[simp] theorem State.onCues_press (f : CueGenerator → CueGenerator) : (s.onCues f).press = s.press := rfl
@[simp] theorem State.onCues_table (f : CueGenerator → CueGenerator) : (s.onCues f).table = s.table := rfl
@[simp] theorem State.onCues_grants (f : CueGenerator → CueGenerator) : (s.onCues f).grants = s.grants := rfl
@[simp] theorem State.onCues_aspects (f : CueGenerator → CueGenerator) : (s.onCues f).aspects = s.aspects := rfl
@[simp] theorem State.onCues_holds (f : CueGenerator → CueGenerator) : (s.onCues f).holds = s.holds := rfl
@[simp] theorem State.onCues_cues (f : CueGenerator → CueGenerator) : (s.onCues f).cues = f s.cues := rfl
@[simp] theorem State.onCues_levels (f : CueGenerator → CueGenerator) : (s.onCues f).levels = s.levels := rfl
@[simp] theorem State.onCues_response (f : CueGenerator → CueGenerator) : (s.onCues f).response = s.response := rfl
@[simp] theorem State.onCues_subTime (f : CueGenerator → CueGenerator) : (s.onCues f).subTime = s.subTime := rfl
@[simp] theorem State.onCues_pending (f : CueGenerator → CueGenerator) : (s.onCues f).pending = s.pending := rfl

@[simp] theorem State.onLevel_store (i : Station) (f : LevelState → LevelState) : (s.onLevel i f).store = s.store := rfl
@[simp] theorem State.onLevel_bus (i : Station) (f : LevelState → LevelState) : (s.onLevel i f).bus = s.bus := rfl
@[simp] theorem State.onLevel_press (i : Station) (f : LevelState → LevelState) : (s.onLevel i f).press = s.press := rfl
@[simp] theorem State.onLevel_table (i : Station) (f : LevelState → LevelState) : (s.onLevel i f).table = s.table := rfl
@[simp] theorem State.onLevel_grants (i : Station) (f : LevelState → LevelState) : (s.onLevel i f).grants = s.grants := rfl
@[simp] theorem State.onLevel_aspects (i : Station) (f : LevelState → LevelState) : (s.onLevel i f).aspects = s.aspects := rfl
@[simp] theorem State.onLevel_holds (i : Station) (f : LevelState → LevelState) : (s.onLevel i f).holds = s.holds := rfl
@[simp] theorem State.onLevel_cues (i : Station) (f : LevelState → LevelState) : (s.onLevel i f).cues = s.cues := rfl
@[simp] theorem State.onLevel_levels (i : Station) (f : LevelState → LevelState) : (s.onLevel i f).levels = change s.levels i f := rfl
@[simp] theorem State.onLevel_response (i : Station) (f : LevelState → LevelState) : (s.onLevel i f).response = s.response := rfl
@[simp] theorem State.onLevel_subTime (i : Station) (f : LevelState → LevelState) : (s.onLevel i f).subTime = s.subTime := rfl
@[simp] theorem State.onLevel_pending (i : Station) (f : LevelState → LevelState) : (s.onLevel i f).pending = s.pending := rfl

@[simp] theorem State.respond_store (x : Status) (l : List Byte) : (s.respond x l).store = s.store := rfl
@[simp] theorem State.respond_bus (x : Status) (l : List Byte) : (s.respond x l).bus = s.bus := rfl
@[simp] theorem State.respond_press (x : Status) (l : List Byte) : (s.respond x l).press = s.press := rfl
@[simp] theorem State.respond_table (x : Status) (l : List Byte) : (s.respond x l).table = s.table := rfl
@[simp] theorem State.respond_grants (x : Status) (l : List Byte) : (s.respond x l).grants = s.grants := rfl
@[simp] theorem State.respond_aspects (x : Status) (l : List Byte) : (s.respond x l).aspects = s.aspects := rfl
@[simp] theorem State.respond_holds (x : Status) (l : List Byte) : (s.respond x l).holds = s.holds := rfl
@[simp] theorem State.respond_cues (x : Status) (l : List Byte) : (s.respond x l).cues = s.cues := rfl
@[simp] theorem State.respond_levels (x : Status) (l : List Byte) : (s.respond x l).levels = s.levels := rfl
@[simp] theorem State.respond_response (x : Status) (l : List Byte) : (s.respond x l).response = { status := x, fields := l } := rfl
@[simp] theorem State.respond_subTime (x : Status) (l : List Byte) : (s.respond x l).subTime = s.subTime := rfl
@[simp] theorem State.respond_pending (x : Status) (l : List Byte) : (s.respond x l).pending = s.pending := rfl

@[simp] theorem State.answer_store (x : Status) : (s.answer x).store = s.store := rfl
@[simp] theorem State.answer_bus (x : Status) : (s.answer x).bus = s.bus := rfl
@[simp] theorem State.answer_press (x : Status) : (s.answer x).press = s.press := rfl
@[simp] theorem State.answer_table (x : Status) : (s.answer x).table = s.table := rfl
@[simp] theorem State.answer_grants (x : Status) : (s.answer x).grants = s.grants := rfl
@[simp] theorem State.answer_aspects (x : Status) : (s.answer x).aspects = s.aspects := rfl
@[simp] theorem State.answer_holds (x : Status) : (s.answer x).holds = s.holds := rfl
@[simp] theorem State.answer_cues (x : Status) : (s.answer x).cues = s.cues := rfl
@[simp] theorem State.answer_levels (x : Status) : (s.answer x).levels = s.levels := rfl
@[simp] theorem State.answer_response (x : Status) : (s.answer x).response = { status := x, fields := [] } := rfl
@[simp] theorem State.answer_subTime (x : Status) : (s.answer x).subTime = s.subTime := rfl
@[simp] theorem State.answer_pending (x : Status) : (s.answer x).pending = s.pending := rfl

variable (g : CueGenerator)

@[simp] theorem CueGenerator.onStation_corners (i : Station) (f : StationCue → StationCue) : (g.onStation i f).corners = g.corners := rfl
@[simp] theorem CueGenerator.onStation_gates (i : Station) (f : StationCue → StationCue) : (g.onStation i f).gates = g.gates := rfl
@[simp] theorem CueGenerator.onStation_stations (i : Station) (f : StationCue → StationCue) : (g.onStation i f).stations = change g.stations i f := rfl
@[simp] theorem CueGenerator.onStation_speech (i : Station) (f : StationCue → StationCue) : (g.onStation i f).speech = g.speech := rfl
@[simp] theorem CueGenerator.onStation_nextSerial (i : Station) (f : StationCue → StationCue) : (g.onStation i f).nextSerial = g.nextSerial := rfl

@[simp] theorem CueGenerator.onCorner_corners (k : Corner) (f : CornerPhase → CornerPhase) : (g.onCorner k f).corners = change g.corners k f := rfl
@[simp] theorem CueGenerator.onCorner_gates (k : Corner) (f : CornerPhase → CornerPhase) : (g.onCorner k f).gates = g.gates := rfl
@[simp] theorem CueGenerator.onCorner_stations (k : Corner) (f : CornerPhase → CornerPhase) : (g.onCorner k f).stations = g.stations := rfl
@[simp] theorem CueGenerator.onCorner_speech (k : Corner) (f : CornerPhase → CornerPhase) : (g.onCorner k f).speech = g.speech := rfl
@[simp] theorem CueGenerator.onCorner_nextSerial (k : Corner) (f : CornerPhase → CornerPhase) : (g.onCorner k f).nextSerial = g.nextSerial := rfl

@[simp] theorem CueGenerator.onSpeech_corners (k : Corner) (f : CornerSpeech → CornerSpeech) : (g.onSpeech k f).corners = g.corners := rfl
@[simp] theorem CueGenerator.onSpeech_gates (k : Corner) (f : CornerSpeech → CornerSpeech) : (g.onSpeech k f).gates = g.gates := rfl
@[simp] theorem CueGenerator.onSpeech_stations (k : Corner) (f : CornerSpeech → CornerSpeech) : (g.onSpeech k f).stations = g.stations := rfl
@[simp] theorem CueGenerator.onSpeech_speech (k : Corner) (f : CornerSpeech → CornerSpeech) : (g.onSpeech k f).speech = change g.speech k f := rfl
@[simp] theorem CueGenerator.onSpeech_nextSerial (k : Corner) (f : CornerSpeech → CornerSpeech) : (g.onSpeech k f).nextSerial = g.nextSerial := rfl

end Sys2Proof.Machine
end

