-- ==== Sys2Proof/Laws/Frames.lean ====
section
/-! SUPPORT. Which blocks each shared operation leaves as they stand: gates, service, holds and presses. -/

namespace Sys2Proof.Machine

/-- What every turn of a fold keeps, the fold keeps. -/
theorem foldl_keeps {σ α β : Type} (π : σ → β) (f : σ → α → σ) (h : ∀ s a, π (f s a) = π s) (l : List α) (s : σ) :
    π (l.foldl f s) = π s := by
  induction l generalizing s with
  | nil => rfl
  | cons a l ih => rw [List.foldl_cons, ih, h]

variable (s : State)

@[simp] theorem State.findGate_store (c : Crossing) : (s.findGate c).store = s.store := by
  simp only [State.findGate]; (repeat' split) <;> simp
@[simp] theorem State.findGate_bus (c : Crossing) : (s.findGate c).bus = s.bus := by
  simp only [State.findGate]; (repeat' split) <;> simp
@[simp] theorem State.findGate_press (c : Crossing) : (s.findGate c).press = s.press := by
  simp only [State.findGate]; (repeat' split) <;> simp
@[simp] theorem State.findGate_table (c : Crossing) : (s.findGate c).table = s.table := by
  simp only [State.findGate]; (repeat' split) <;> simp
@[simp] theorem State.findGate_grants (c : Crossing) : (s.findGate c).grants = s.grants := by
  simp only [State.findGate]; (repeat' split) <;> simp
@[simp] theorem State.findGate_aspects (c : Crossing) : (s.findGate c).aspects = s.aspects := by
  simp only [State.findGate]; (repeat' split) <;> simp
@[simp] theorem State.findGate_holds (c : Crossing) : (s.findGate c).holds = s.holds := by
  simp only [State.findGate]; (repeat' split) <;> simp
@[simp] theorem State.findGate_levels (c : Crossing) : (s.findGate c).levels = s.levels := by
  simp only [State.findGate]; (repeat' split) <;> simp
@[simp] theorem State.findGate_response (c : Crossing) : (s.findGate c).response = s.response := by
  simp only [State.findGate]; (repeat' split) <;> simp
@[simp] theorem State.findGate_subTime (c : Crossing) : (s.findGate c).subTime = s.subTime := by
  simp only [State.findGate]; (repeat' split) <;> simp
@[simp] theorem State.findGate_pending (c : Crossing) : (s.findGate c).pending = s.pending := by
  simp only [State.findGate]; (repeat' split) <;> simp

@[simp] theorem State.findGates_store : (s.findGates).store = s.store := by
  exact foldl_keeps State.store _ (fun s c => State.findGate_store s c) _ s
@[simp] theorem State.findGates_bus : (s.findGates).bus = s.bus := by
  exact foldl_keeps State.bus _ (fun s c => State.findGate_bus s c) _ s
@[simp] theorem State.findGates_press : (s.findGates).press = s.press := by
  exact foldl_keeps State.press _ (fun s c => State.findGate_press s c) _ s
@[simp] theorem State.findGates_table : (s.findGates).table = s.table := by
  exact foldl_keeps State.table _ (fun s c => State.findGate_table s c) _ s
@[simp] theorem State.findGates_grants : (s.findGates).grants = s.grants := by
  exact foldl_keeps State.grants _ (fun s c => State.findGate_grants s c) _ s
@[simp] theorem State.findGates_aspects : (s.findGates).aspects = s.aspects := by
  exact foldl_keeps State.aspects _ (fun s c => State.findGate_aspects s c) _ s
@[simp] theorem State.findGates_holds : (s.findGates).holds = s.holds := by
  exact foldl_keeps State.holds _ (fun s c => State.findGate_holds s c) _ s
@[simp] theorem State.findGates_levels : (s.findGates).levels = s.levels := by
  exact foldl_keeps State.levels _ (fun s c => State.findGate_levels s c) _ s
@[simp] theorem State.findGates_response : (s.findGates).response = s.response := by
  exact foldl_keeps State.response _ (fun s c => State.findGate_response s c) _ s
@[simp] theorem State.findGates_subTime : (s.findGates).subTime = s.subTime := by
  exact foldl_keeps State.subTime _ (fun s c => State.findGate_subTime s c) _ s
@[simp] theorem State.findGates_pending : (s.findGates).pending = s.pending := by
  exact foldl_keeps State.pending _ (fun s c => State.findGate_pending s c) _ s

@[simp] theorem State.rangeAll_store : (s.rangeAll).store = s.store := by
  simp [State.rangeAll]
@[simp] theorem State.rangeAll_bus : (s.rangeAll).bus = s.bus := by
  simp [State.rangeAll]
@[simp] theorem State.rangeAll_press : (s.rangeAll).press = s.press := by
  simp [State.rangeAll]
@[simp] theorem State.rangeAll_table : (s.rangeAll).table = s.table := by
  simp [State.rangeAll]
@[simp] theorem State.rangeAll_grants : (s.rangeAll).grants = s.grants := by
  simp [State.rangeAll]
@[simp] theorem State.rangeAll_aspects : (s.rangeAll).aspects = s.aspects := by
  simp [State.rangeAll]
@[simp] theorem State.rangeAll_holds : (s.rangeAll).holds = s.holds := by
  simp [State.rangeAll]
@[simp] theorem State.rangeAll_cues : (s.rangeAll).cues = s.cues := by
  simp [State.rangeAll]
@[simp] theorem State.rangeAll_response : (s.rangeAll).response = s.response := by
  simp [State.rangeAll]
@[simp] theorem State.rangeAll_subTime : (s.rangeAll).subTime = s.subTime := by
  simp [State.rangeAll]
@[simp] theorem State.rangeAll_pending : (s.rangeAll).pending = s.pending := by
  simp [State.rangeAll]

@[simp] theorem State.removeRecord_store (i : RecordSlot) : (s.removeRecord i).store = s.store := by
  simp [State.removeRecord]
@[simp] theorem State.removeRecord_bus (i : RecordSlot) : (s.removeRecord i).bus = s.bus := by
  simp [State.removeRecord]
@[simp] theorem State.removeRecord_press (i : RecordSlot) : (s.removeRecord i).press = s.press := by
  simp [State.removeRecord]
@[simp] theorem State.removeRecord_grants (i : RecordSlot) : (s.removeRecord i).grants = s.grants := by
  simp [State.removeRecord]
@[simp] theorem State.removeRecord_aspects (i : RecordSlot) : (s.removeRecord i).aspects = s.aspects := by
  simp [State.removeRecord]
@[simp] theorem State.removeRecord_holds (i : RecordSlot) : (s.removeRecord i).holds = s.holds := by
  simp [State.removeRecord]
@[simp] theorem State.removeRecord_cues (i : RecordSlot) : (s.removeRecord i).cues = s.cues := by
  simp [State.removeRecord]
@[simp] theorem State.removeRecord_levels (i : RecordSlot) : (s.removeRecord i).levels = s.levels := by
  simp [State.removeRecord]
@[simp] theorem State.removeRecord_response (i : RecordSlot) : (s.removeRecord i).response = s.response := by
  simp [State.removeRecord]
@[simp] theorem State.removeRecord_subTime (i : RecordSlot) : (s.removeRecord i).subTime = s.subTime := by
  simp [State.removeRecord]
@[simp] theorem State.removeRecord_pending (i : RecordSlot) : (s.removeRecord i).pending = s.pending := by
  simp [State.removeRecord]

@[simp] theorem State.dropService_store (c : Crossing) : (s.dropService c).store = s.store := by
  simp only [State.dropService]; (repeat' split) <;> simp
@[simp] theorem State.dropService_bus (c : Crossing) : (s.dropService c).bus = s.bus := by
  simp only [State.dropService]; (repeat' split) <;> simp
@[simp] theorem State.dropService_press (c : Crossing) : (s.dropService c).press = s.press := by
  simp only [State.dropService]; (repeat' split) <;> simp
@[simp] theorem State.dropService_grants (c : Crossing) : (s.dropService c).grants = s.grants := by
  simp only [State.dropService]; (repeat' split) <;> simp
@[simp] theorem State.dropService_aspects (c : Crossing) : (s.dropService c).aspects = s.aspects := by
  simp only [State.dropService]; (repeat' split) <;> simp
@[simp] theorem State.dropService_holds (c : Crossing) : (s.dropService c).holds = s.holds := by
  simp only [State.dropService]; (repeat' split) <;> simp
@[simp] theorem State.dropService_cues (c : Crossing) : (s.dropService c).cues = s.cues := by
  simp only [State.dropService]; (repeat' split) <;> simp
@[simp] theorem State.dropService_levels (c : Crossing) : (s.dropService c).levels = s.levels := by
  simp only [State.dropService]; (repeat' split) <;> simp
@[simp] theorem State.dropService_response (c : Crossing) : (s.dropService c).response = s.response := by
  simp only [State.dropService]; (repeat' split) <;> simp
@[simp] theorem State.dropService_subTime (c : Crossing) : (s.dropService c).subTime = s.subTime := by
  simp only [State.dropService]; (repeat' split) <;> simp
@[simp] theorem State.dropService_pending (c : Crossing) : (s.dropService c).pending = s.pending := by
  simp only [State.dropService]; (repeat' split) <;> simp

@[simp] theorem State.raiseFault_store (c : Crossing) (k : FaultKind) : (s.raiseFault c k).store = s.store := by
  simp [State.raiseFault]
@[simp] theorem State.raiseFault_bus (c : Crossing) (k : FaultKind) : (s.raiseFault c k).bus = s.bus := by
  simp [State.raiseFault]
@[simp] theorem State.raiseFault_press (c : Crossing) (k : FaultKind) : (s.raiseFault c k).press = s.press := by
  simp [State.raiseFault]
@[simp] theorem State.raiseFault_holds (c : Crossing) (k : FaultKind) : (s.raiseFault c k).holds = s.holds := by
  simp [State.raiseFault]
@[simp] theorem State.raiseFault_cues (c : Crossing) (k : FaultKind) : (s.raiseFault c k).cues = s.cues := by
  simp [State.raiseFault]
@[simp] theorem State.raiseFault_levels (c : Crossing) (k : FaultKind) : (s.raiseFault c k).levels = s.levels := by
  simp [State.raiseFault]
@[simp] theorem State.raiseFault_response (c : Crossing) (k : FaultKind) : (s.raiseFault c k).response = s.response := by
  simp [State.raiseFault]
@[simp] theorem State.raiseFault_subTime (c : Crossing) (k : FaultKind) : (s.raiseFault c k).subTime = s.subTime := by
  simp [State.raiseFault]
@[simp] theorem State.raiseFault_pending (c : Crossing) (k : FaultKind) : (s.raiseFault c k).pending = s.pending := by
  simp [State.raiseFault]

@[simp] theorem State.furtherFault_store (c : Crossing) : (s.furtherFault c).store = s.store := by
  simp [State.furtherFault]
@[simp] theorem State.furtherFault_bus (c : Crossing) : (s.furtherFault c).bus = s.bus := by
  simp [State.furtherFault]
@[simp] theorem State.furtherFault_press (c : Crossing) : (s.furtherFault c).press = s.press := by
  simp [State.furtherFault]
@[simp] theorem State.furtherFault_table (c : Crossing) : (s.furtherFault c).table = s.table := by
  simp [State.furtherFault]
@[simp] theorem State.furtherFault_grants (c : Crossing) : (s.furtherFault c).grants = s.grants := by
  simp [State.furtherFault]
@[simp] theorem State.furtherFault_holds (c : Crossing) : (s.furtherFault c).holds = s.holds := by
  simp [State.furtherFault]
@[simp] theorem State.furtherFault_cues (c : Crossing) : (s.furtherFault c).cues = s.cues := by
  simp [State.furtherFault]
@[simp] theorem State.furtherFault_levels (c : Crossing) : (s.furtherFault c).levels = s.levels := by
  simp [State.furtherFault]
@[simp] theorem State.furtherFault_response (c : Crossing) : (s.furtherFault c).response = s.response := by
  simp [State.furtherFault]
@[simp] theorem State.furtherFault_subTime (c : Crossing) : (s.furtherFault c).subTime = s.subTime := by
  simp [State.furtherFault]
@[simp] theorem State.furtherFault_pending (c : Crossing) : (s.furtherFault c).pending = s.pending := by
  simp [State.furtherFault]

@[simp] theorem State.walkDeclared_store (c : Crossing) : (s.walkDeclared c).store = s.store := by
  simp only [State.walkDeclared]; (repeat' split) <;> simp
@[simp] theorem State.walkDeclared_bus (c : Crossing) : (s.walkDeclared c).bus = s.bus := by
  simp only [State.walkDeclared]; (repeat' split) <;> simp
@[simp] theorem State.walkDeclared_press (c : Crossing) : (s.walkDeclared c).press = s.press := by
  simp only [State.walkDeclared]; (repeat' split) <;> simp
@[simp] theorem State.walkDeclared_aspects (c : Crossing) : (s.walkDeclared c).aspects = s.aspects := by
  simp only [State.walkDeclared]; (repeat' split) <;> simp
@[simp] theorem State.walkDeclared_holds (c : Crossing) : (s.walkDeclared c).holds = s.holds := by
  simp only [State.walkDeclared]; (repeat' split) <;> simp
@[simp] theorem State.walkDeclared_cues (c : Crossing) : (s.walkDeclared c).cues = s.cues := by
  simp only [State.walkDeclared]; (repeat' split) <;> simp
@[simp] theorem State.walkDeclared_levels (c : Crossing) : (s.walkDeclared c).levels = s.levels := by
  simp only [State.walkDeclared]; (repeat' split) <;> simp
@[simp] theorem State.walkDeclared_response (c : Crossing) : (s.walkDeclared c).response = s.response := by
  simp only [State.walkDeclared]; (repeat' split) <;> simp
@[simp] theorem State.walkDeclared_subTime (c : Crossing) : (s.walkDeclared c).subTime = s.subTime := by
  simp only [State.walkDeclared]; (repeat' split) <;> simp
@[simp] theorem State.walkDeclared_pending (c : Crossing) : (s.walkDeclared c).pending = s.pending := by
  simp only [State.walkDeclared]; (repeat' split) <;> simp

@[simp] theorem State.clearanceDeclared_store (c : Crossing) : (s.clearanceDeclared c).store = s.store := by
  simp only [State.clearanceDeclared]; (repeat' split) <;> simp
@[simp] theorem State.clearanceDeclared_bus (c : Crossing) : (s.clearanceDeclared c).bus = s.bus := by
  simp only [State.clearanceDeclared]; (repeat' split) <;> simp
@[simp] theorem State.clearanceDeclared_press (c : Crossing) : (s.clearanceDeclared c).press = s.press := by
  simp only [State.clearanceDeclared]; (repeat' split) <;> simp
@[simp] theorem State.clearanceDeclared_aspects (c : Crossing) : (s.clearanceDeclared c).aspects = s.aspects := by
  simp only [State.clearanceDeclared]; (repeat' split) <;> simp
@[simp] theorem State.clearanceDeclared_holds (c : Crossing) : (s.clearanceDeclared c).holds = s.holds := by
  simp only [State.clearanceDeclared]; (repeat' split) <;> simp
@[simp] theorem State.clearanceDeclared_cues (c : Crossing) : (s.clearanceDeclared c).cues = s.cues := by
  simp only [State.clearanceDeclared]; (repeat' split) <;> simp
@[simp] theorem State.clearanceDeclared_levels (c : Crossing) : (s.clearanceDeclared c).levels = s.levels := by
  simp only [State.clearanceDeclared]; (repeat' split) <;> simp
@[simp] theorem State.clearanceDeclared_response (c : Crossing) : (s.clearanceDeclared c).response = s.response := by
  simp only [State.clearanceDeclared]; (repeat' split) <;> simp
@[simp] theorem State.clearanceDeclared_subTime (c : Crossing) : (s.clearanceDeclared c).subTime = s.subTime := by
  simp only [State.clearanceDeclared]; (repeat' split) <;> simp
@[simp] theorem State.clearanceDeclared_pending (c : Crossing) : (s.clearanceDeclared c).pending = s.pending := by
  simp only [State.clearanceDeclared]; (repeat' split) <;> simp

@[simp] theorem State.dontWalkDeclared_store (c : Crossing) : (s.dontWalkDeclared c).store = s.store := by
  simp only [State.dontWalkDeclared]; (repeat' split) <;> simp
@[simp] theorem State.dontWalkDeclared_bus (c : Crossing) : (s.dontWalkDeclared c).bus = s.bus := by
  simp only [State.dontWalkDeclared]; (repeat' split) <;> simp
@[simp] theorem State.dontWalkDeclared_press (c : Crossing) : (s.dontWalkDeclared c).press = s.press := by
  simp only [State.dontWalkDeclared]; (repeat' split) <;> simp
@[simp] theorem State.dontWalkDeclared_aspects (c : Crossing) : (s.dontWalkDeclared c).aspects = s.aspects := by
  simp only [State.dontWalkDeclared]; (repeat' split) <;> simp
@[simp] theorem State.dontWalkDeclared_holds (c : Crossing) : (s.dontWalkDeclared c).holds = s.holds := by
  simp only [State.dontWalkDeclared]; (repeat' split) <;> simp
@[simp] theorem State.dontWalkDeclared_cues (c : Crossing) : (s.dontWalkDeclared c).cues = s.cues := by
  simp only [State.dontWalkDeclared]; (repeat' split) <;> simp
@[simp] theorem State.dontWalkDeclared_levels (c : Crossing) : (s.dontWalkDeclared c).levels = s.levels := by
  simp only [State.dontWalkDeclared]; (repeat' split) <;> simp
@[simp] theorem State.dontWalkDeclared_response (c : Crossing) : (s.dontWalkDeclared c).response = s.response := by
  simp only [State.dontWalkDeclared]; (repeat' split) <;> simp
@[simp] theorem State.dontWalkDeclared_subTime (c : Crossing) : (s.dontWalkDeclared c).subTime = s.subTime := by
  simp only [State.dontWalkDeclared]; (repeat' split) <;> simp
@[simp] theorem State.dontWalkDeclared_pending (c : Crossing) : (s.dontWalkDeclared c).pending = s.pending := by
  simp only [State.dontWalkDeclared]; (repeat' split) <;> simp

@[simp] theorem State.handDeclaration_store (c : Crossing) (a : Aspect) : (s.handDeclaration c a).store = s.store := by
  simp only [State.handDeclaration]; (repeat' split) <;> simp
@[simp] theorem State.handDeclaration_bus (c : Crossing) (a : Aspect) : (s.handDeclaration c a).bus = s.bus := by
  simp only [State.handDeclaration]; (repeat' split) <;> simp
@[simp] theorem State.handDeclaration_press (c : Crossing) (a : Aspect) : (s.handDeclaration c a).press = s.press := by
  simp only [State.handDeclaration]; (repeat' split) <;> simp
@[simp] theorem State.handDeclaration_aspects (c : Crossing) (a : Aspect) : (s.handDeclaration c a).aspects = s.aspects := by
  simp only [State.handDeclaration]; (repeat' split) <;> simp
@[simp] theorem State.handDeclaration_holds (c : Crossing) (a : Aspect) : (s.handDeclaration c a).holds = s.holds := by
  simp only [State.handDeclaration]; (repeat' split) <;> simp
@[simp] theorem State.handDeclaration_cues (c : Crossing) (a : Aspect) : (s.handDeclaration c a).cues = s.cues := by
  simp only [State.handDeclaration]; (repeat' split) <;> simp
@[simp] theorem State.handDeclaration_levels (c : Crossing) (a : Aspect) : (s.handDeclaration c a).levels = s.levels := by
  simp only [State.handDeclaration]; (repeat' split) <;> simp
@[simp] theorem State.handDeclaration_response (c : Crossing) (a : Aspect) : (s.handDeclaration c a).response = s.response := by
  simp only [State.handDeclaration]; (repeat' split) <;> simp
@[simp] theorem State.handDeclaration_subTime (c : Crossing) (a : Aspect) : (s.handDeclaration c a).subTime = s.subTime := by
  simp only [State.handDeclaration]; (repeat' split) <;> simp
@[simp] theorem State.handDeclaration_pending (c : Crossing) (a : Aspect) : (s.handDeclaration c a).pending = s.pending := by
  simp only [State.handDeclaration]; (repeat' split) <;> simp

@[simp] theorem State.completeWaits_store (c : Crossing) : (s.completeWaits c).store = s.store := by
  simp [State.completeWaits]
@[simp] theorem State.completeWaits_bus (c : Crossing) : (s.completeWaits c).bus = s.bus := by
  simp [State.completeWaits]
@[simp] theorem State.completeWaits_press (c : Crossing) : (s.completeWaits c).press = s.press := by
  simp [State.completeWaits]
@[simp] theorem State.completeWaits_table (c : Crossing) : (s.completeWaits c).table = s.table := by
  simp [State.completeWaits]
@[simp] theorem State.completeWaits_grants (c : Crossing) : (s.completeWaits c).grants = s.grants := by
  simp [State.completeWaits]
@[simp] theorem State.completeWaits_aspects (c : Crossing) : (s.completeWaits c).aspects = s.aspects := by
  simp [State.completeWaits]
@[simp] theorem State.completeWaits_cues (c : Crossing) : (s.completeWaits c).cues = s.cues := by
  simp [State.completeWaits]
@[simp] theorem State.completeWaits_levels (c : Crossing) : (s.completeWaits c).levels = s.levels := by
  simp [State.completeWaits]
@[simp] theorem State.completeWaits_response (c : Crossing) : (s.completeWaits c).response = s.response := by
  simp [State.completeWaits]
@[simp] theorem State.completeWaits_subTime (c : Crossing) : (s.completeWaits c).subTime = s.subTime := by
  simp [State.completeWaits]
@[simp] theorem State.completeWaits_pending (c : Crossing) : (s.completeWaits c).pending = s.pending := by
  simp [State.completeWaits]

@[simp] theorem State.declare_store (c : Crossing) (a : Aspect) : (s.declare c a).store = s.store := by
  simp only [State.declare]; (repeat' split) <;> simp
@[simp] theorem State.declare_bus (c : Crossing) (a : Aspect) : (s.declare c a).bus = s.bus := by
  simp only [State.declare]; (repeat' split) <;> simp
@[simp] theorem State.declare_press (c : Crossing) (a : Aspect) : (s.declare c a).press = s.press := by
  simp only [State.declare]; (repeat' split) <;> simp
@[simp] theorem State.declare_cues (c : Crossing) (a : Aspect) : (s.declare c a).cues = s.cues := by
  simp only [State.declare]; (repeat' split) <;> simp
@[simp] theorem State.declare_levels (c : Crossing) (a : Aspect) : (s.declare c a).levels = s.levels := by
  simp only [State.declare]; (repeat' split) <;> simp
@[simp] theorem State.declare_response (c : Crossing) (a : Aspect) : (s.declare c a).response = s.response := by
  simp only [State.declare]; (repeat' split) <;> simp
@[simp] theorem State.declare_subTime (c : Crossing) (a : Aspect) : (s.declare c a).subTime = s.subTime := by
  simp only [State.declare]; (repeat' split) <;> simp
@[simp] theorem State.declare_pending (c : Crossing) (a : Aspect) : (s.declare c a).pending = s.pending := by
  simp only [State.declare]; (repeat' split) <;> simp

@[simp] theorem State.retest_store (c : Crossing) : (s.retest c).store = s.store := by
  simp only [State.retest]; (repeat' split) <;> simp
@[simp] theorem State.retest_bus (c : Crossing) : (s.retest c).bus = s.bus := by
  simp only [State.retest]; (repeat' split) <;> simp
@[simp] theorem State.retest_press (c : Crossing) : (s.retest c).press = s.press := by
  simp only [State.retest]; (repeat' split) <;> simp
@[simp] theorem State.retest_cues (c : Crossing) : (s.retest c).cues = s.cues := by
  simp only [State.retest]; (repeat' split) <;> simp
@[simp] theorem State.retest_levels (c : Crossing) : (s.retest c).levels = s.levels := by
  simp only [State.retest]; (repeat' split) <;> simp
@[simp] theorem State.retest_response (c : Crossing) : (s.retest c).response = s.response := by
  simp only [State.retest]; (repeat' split) <;> simp
@[simp] theorem State.retest_subTime (c : Crossing) : (s.retest c).subTime = s.subTime := by
  simp only [State.retest]; (repeat' split) <;> simp
@[simp] theorem State.retest_pending (c : Crossing) : (s.retest c).pending = s.pending := by
  simp only [State.retest]; (repeat' split) <;> simp

@[simp] theorem State.enablingCheck_store (c : Crossing) : (s.enablingCheck c).store = s.store := by
  simp only [State.enablingCheck]; (repeat' split) <;> simp
@[simp] theorem State.enablingCheck_bus (c : Crossing) : (s.enablingCheck c).bus = s.bus := by
  simp only [State.enablingCheck]; (repeat' split) <;> simp
@[simp] theorem State.enablingCheck_press (c : Crossing) : (s.enablingCheck c).press = s.press := by
  simp only [State.enablingCheck]; (repeat' split) <;> simp
@[simp] theorem State.enablingCheck_holds (c : Crossing) : (s.enablingCheck c).holds = s.holds := by
  simp only [State.enablingCheck]; (repeat' split) <;> simp
@[simp] theorem State.enablingCheck_cues (c : Crossing) : (s.enablingCheck c).cues = s.cues := by
  simp only [State.enablingCheck]; (repeat' split) <;> simp
@[simp] theorem State.enablingCheck_levels (c : Crossing) : (s.enablingCheck c).levels = s.levels := by
  simp only [State.enablingCheck]; (repeat' split) <;> simp
@[simp] theorem State.enablingCheck_response (c : Crossing) : (s.enablingCheck c).response = s.response := by
  simp only [State.enablingCheck]; (repeat' split) <;> simp
@[simp] theorem State.enablingCheck_subTime (c : Crossing) : (s.enablingCheck c).subTime = s.subTime := by
  simp only [State.enablingCheck]; (repeat' split) <;> simp
@[simp] theorem State.enablingCheck_pending (c : Crossing) : (s.enablingCheck c).pending = s.pending := by
  simp only [State.enablingCheck]; (repeat' split) <;> simp

@[simp] theorem State.enablingLimit_store (c : Crossing) : (s.enablingLimit c).store = s.store := by
  simp only [State.enablingLimit]; (repeat' split) <;> simp
@[simp] theorem State.enablingLimit_bus (c : Crossing) : (s.enablingLimit c).bus = s.bus := by
  simp only [State.enablingLimit]; (repeat' split) <;> simp
@[simp] theorem State.enablingLimit_press (c : Crossing) : (s.enablingLimit c).press = s.press := by
  simp only [State.enablingLimit]; (repeat' split) <;> simp
@[simp] theorem State.enablingLimit_holds (c : Crossing) : (s.enablingLimit c).holds = s.holds := by
  simp only [State.enablingLimit]; (repeat' split) <;> simp
@[simp] theorem State.enablingLimit_cues (c : Crossing) : (s.enablingLimit c).cues = s.cues := by
  simp only [State.enablingLimit]; (repeat' split) <;> simp
@[simp] theorem State.enablingLimit_levels (c : Crossing) : (s.enablingLimit c).levels = s.levels := by
  simp only [State.enablingLimit]; (repeat' split) <;> simp
@[simp] theorem State.enablingLimit_response (c : Crossing) : (s.enablingLimit c).response = s.response := by
  simp only [State.enablingLimit]; (repeat' split) <;> simp
@[simp] theorem State.enablingLimit_subTime (c : Crossing) : (s.enablingLimit c).subTime = s.subTime := by
  simp only [State.enablingLimit]; (repeat' split) <;> simp
@[simp] theorem State.enablingLimit_pending (c : Crossing) : (s.enablingLimit c).pending = s.pending := by
  simp only [State.enablingLimit]; (repeat' split) <;> simp

@[simp] theorem State.transferCrossing_bus (c : Crossing) (new : CrossingProfile) : (s.transferCrossing c new).bus = s.bus := by
  simp only [State.transferCrossing]; (repeat' split) <;> simp
@[simp] theorem State.transferCrossing_press (c : Crossing) (new : CrossingProfile) : (s.transferCrossing c new).press = s.press := by
  simp only [State.transferCrossing]; (repeat' split) <;> simp
@[simp] theorem State.transferCrossing_cues (c : Crossing) (new : CrossingProfile) : (s.transferCrossing c new).cues = s.cues := by
  simp only [State.transferCrossing]; (repeat' split) <;> simp
@[simp] theorem State.transferCrossing_levels (c : Crossing) (new : CrossingProfile) : (s.transferCrossing c new).levels = s.levels := by
  simp only [State.transferCrossing]; (repeat' split) <;> simp
@[simp] theorem State.transferCrossing_response (c : Crossing) (new : CrossingProfile) : (s.transferCrossing c new).response = s.response := by
  simp only [State.transferCrossing]; (repeat' split) <;> simp
@[simp] theorem State.transferCrossing_subTime (c : Crossing) (new : CrossingProfile) : (s.transferCrossing c new).subTime = s.subTime := by
  simp only [State.transferCrossing]; (repeat' split) <;> simp
@[simp] theorem State.transferCrossing_pending (c : Crossing) (new : CrossingProfile) : (s.transferCrossing c new).pending = s.pending := by
  simp only [State.transferCrossing]; (repeat' split) <;> simp

@[simp] theorem State.testTransfer_bus (c : Crossing) : (s.testTransfer c).bus = s.bus := by
  simp only [State.testTransfer]; (repeat' split) <;> simp
@[simp] theorem State.testTransfer_press (c : Crossing) : (s.testTransfer c).press = s.press := by
  simp only [State.testTransfer]; (repeat' split) <;> simp
@[simp] theorem State.testTransfer_cues (c : Crossing) : (s.testTransfer c).cues = s.cues := by
  simp only [State.testTransfer]; (repeat' split) <;> simp
@[simp] theorem State.testTransfer_levels (c : Crossing) : (s.testTransfer c).levels = s.levels := by
  simp only [State.testTransfer]; (repeat' split) <;> simp
@[simp] theorem State.testTransfer_response (c : Crossing) : (s.testTransfer c).response = s.response := by
  simp only [State.testTransfer]; (repeat' split) <;> simp
@[simp] theorem State.testTransfer_subTime (c : Crossing) : (s.testTransfer c).subTime = s.subTime := by
  simp only [State.testTransfer]; (repeat' split) <;> simp
@[simp] theorem State.testTransfer_pending (c : Crossing) : (s.testTransfer c).pending = s.pending := by
  simp only [State.testTransfer]; (repeat' split) <;> simp

@[simp] theorem State.settleCrossing_bus (c : Crossing) : (s.settleCrossing c).bus = s.bus := by
  simp [State.settleCrossing]
@[simp] theorem State.settleCrossing_press (c : Crossing) : (s.settleCrossing c).press = s.press := by
  simp [State.settleCrossing]
@[simp] theorem State.settleCrossing_levels (c : Crossing) : (s.settleCrossing c).levels = s.levels := by
  simp [State.settleCrossing]
@[simp] theorem State.settleCrossing_response (c : Crossing) : (s.settleCrossing c).response = s.response := by
  simp [State.settleCrossing]
@[simp] theorem State.settleCrossing_subTime (c : Crossing) : (s.settleCrossing c).subTime = s.subTime := by
  simp [State.settleCrossing]
@[simp] theorem State.settleCrossing_pending (c : Crossing) : (s.settleCrossing c).pending = s.pending := by
  simp [State.settleCrossing]

@[simp] theorem State.changeLevel_store (l : HoldLine) (x : Level) : (s.changeLevel l x).store = s.store := by
  simp only [State.changeLevel]; (repeat' split) <;> simp
@[simp] theorem State.changeLevel_bus (l : HoldLine) (x : Level) : (s.changeLevel l x).bus = s.bus := by
  simp only [State.changeLevel]; (repeat' split) <;> simp
@[simp] theorem State.changeLevel_press (l : HoldLine) (x : Level) : (s.changeLevel l x).press = s.press := by
  simp only [State.changeLevel]; (repeat' split) <;> simp
@[simp] theorem State.changeLevel_table (l : HoldLine) (x : Level) : (s.changeLevel l x).table = s.table := by
  simp only [State.changeLevel]; (repeat' split) <;> simp
@[simp] theorem State.changeLevel_grants (l : HoldLine) (x : Level) : (s.changeLevel l x).grants = s.grants := by
  simp only [State.changeLevel]; (repeat' split) <;> simp
@[simp] theorem State.changeLevel_aspects (l : HoldLine) (x : Level) : (s.changeLevel l x).aspects = s.aspects := by
  simp only [State.changeLevel]; (repeat' split) <;> simp
@[simp] theorem State.changeLevel_cues (l : HoldLine) (x : Level) : (s.changeLevel l x).cues = s.cues := by
  simp only [State.changeLevel]; (repeat' split) <;> simp
@[simp] theorem State.changeLevel_levels (l : HoldLine) (x : Level) : (s.changeLevel l x).levels = s.levels := by
  simp only [State.changeLevel]; (repeat' split) <;> simp
@[simp] theorem State.changeLevel_response (l : HoldLine) (x : Level) : (s.changeLevel l x).response = s.response := by
  simp only [State.changeLevel]; (repeat' split) <;> simp
@[simp] theorem State.changeLevel_subTime (l : HoldLine) (x : Level) : (s.changeLevel l x).subTime = s.subTime := by
  simp only [State.changeLevel]; (repeat' split) <;> simp
@[simp] theorem State.changeLevel_pending (l : HoldLine) (x : Level) : (s.changeLevel l x).pending = s.pending := by
  simp only [State.changeLevel]; (repeat' split) <;> simp

@[simp] theorem State.applyLine_store (p : ProfileStore) (l : HoldLine) : (s.applyLine p l).store = s.store := by
  simp only [State.applyLine]; (repeat' split) <;> simp
@[simp] theorem State.applyLine_bus (p : ProfileStore) (l : HoldLine) : (s.applyLine p l).bus = s.bus := by
  simp only [State.applyLine]; (repeat' split) <;> simp
@[simp] theorem State.applyLine_press (p : ProfileStore) (l : HoldLine) : (s.applyLine p l).press = s.press := by
  simp only [State.applyLine]; (repeat' split) <;> simp
@[simp] theorem State.applyLine_table (p : ProfileStore) (l : HoldLine) : (s.applyLine p l).table = s.table := by
  simp only [State.applyLine]; (repeat' split) <;> simp
@[simp] theorem State.applyLine_grants (p : ProfileStore) (l : HoldLine) : (s.applyLine p l).grants = s.grants := by
  simp only [State.applyLine]; (repeat' split) <;> simp
@[simp] theorem State.applyLine_aspects (p : ProfileStore) (l : HoldLine) : (s.applyLine p l).aspects = s.aspects := by
  simp only [State.applyLine]; (repeat' split) <;> simp
@[simp] theorem State.applyLine_cues (p : ProfileStore) (l : HoldLine) : (s.applyLine p l).cues = s.cues := by
  simp only [State.applyLine]; (repeat' split) <;> simp
@[simp] theorem State.applyLine_levels (p : ProfileStore) (l : HoldLine) : (s.applyLine p l).levels = s.levels := by
  simp only [State.applyLine]; (repeat' split) <;> simp
@[simp] theorem State.applyLine_response (p : ProfileStore) (l : HoldLine) : (s.applyLine p l).response = s.response := by
  simp only [State.applyLine]; (repeat' split) <;> simp
@[simp] theorem State.applyLine_subTime (p : ProfileStore) (l : HoldLine) : (s.applyLine p l).subTime = s.subTime := by
  simp only [State.applyLine]; (repeat' split) <;> simp
@[simp] theorem State.applyLine_pending (p : ProfileStore) (l : HoldLine) : (s.applyLine p l).pending = s.pending := by
  simp only [State.applyLine]; (repeat' split) <;> simp

@[simp] theorem State.senseLines_store : (s.senseLines).store = s.store := by
  simp only [State.senseLines]; (repeat' split) <;> simp
@[simp] theorem State.senseLines_bus : (s.senseLines).bus = s.bus := by
  simp only [State.senseLines]; (repeat' split) <;> simp
@[simp] theorem State.senseLines_press : (s.senseLines).press = s.press := by
  simp only [State.senseLines]; (repeat' split) <;> simp
@[simp] theorem State.senseLines_table : (s.senseLines).table = s.table := by
  simp only [State.senseLines]; (repeat' split) <;> simp
@[simp] theorem State.senseLines_grants : (s.senseLines).grants = s.grants := by
  simp only [State.senseLines]; (repeat' split) <;> simp
@[simp] theorem State.senseLines_aspects : (s.senseLines).aspects = s.aspects := by
  simp only [State.senseLines]; (repeat' split) <;> simp
@[simp] theorem State.senseLines_cues : (s.senseLines).cues = s.cues := by
  simp only [State.senseLines]; (repeat' split) <;> simp
@[simp] theorem State.senseLines_levels : (s.senseLines).levels = s.levels := by
  simp only [State.senseLines]; (repeat' split) <;> simp
@[simp] theorem State.senseLines_response : (s.senseLines).response = s.response := by
  simp only [State.senseLines]; (repeat' split) <;> simp
@[simp] theorem State.senseLines_subTime : (s.senseLines).subTime = s.subTime := by
  simp only [State.senseLines]; (repeat' split) <;> simp
@[simp] theorem State.senseLines_pending : (s.senseLines).pending = s.pending := by
  simp only [State.senseLines]; (repeat' split) <;> simp

@[simp] theorem State.qualify_store (i : Station) : (s.qualify i).store = s.store := by
  simp only [State.qualify]; (repeat' split) <;> simp
@[simp] theorem State.qualify_bus (i : Station) : (s.qualify i).bus = s.bus := by
  simp only [State.qualify]; (repeat' split) <;> simp
@[simp] theorem State.qualify_grants (i : Station) : (s.qualify i).grants = s.grants := by
  simp only [State.qualify]; (repeat' split) <;> simp
@[simp] theorem State.qualify_aspects (i : Station) : (s.qualify i).aspects = s.aspects := by
  simp only [State.qualify]; (repeat' split) <;> simp
@[simp] theorem State.qualify_holds (i : Station) : (s.qualify i).holds = s.holds := by
  simp only [State.qualify]; (repeat' split) <;> simp
@[simp] theorem State.qualify_levels (i : Station) : (s.qualify i).levels = s.levels := by
  simp only [State.qualify]; (repeat' split) <;> simp
@[simp] theorem State.qualify_response (i : Station) : (s.qualify i).response = s.response := by
  simp only [State.qualify]; (repeat' split) <;> simp
@[simp] theorem State.qualify_subTime (i : Station) : (s.qualify i).subTime = s.subTime := by
  simp only [State.qualify]; (repeat' split) <;> simp
@[simp] theorem State.qualify_pending (i : Station) : (s.qualify i).pending = s.pending := by
  simp only [State.qualify]; (repeat' split) <;> simp

@[simp] theorem State.reachLong_store (i : Station) : (s.reachLong i).store = s.store := by
  simp only [State.reachLong]; (repeat' split) <;> simp
@[simp] theorem State.reachLong_bus (i : Station) : (s.reachLong i).bus = s.bus := by
  simp only [State.reachLong]; (repeat' split) <;> simp
@[simp] theorem State.reachLong_grants (i : Station) : (s.reachLong i).grants = s.grants := by
  simp only [State.reachLong]; (repeat' split) <;> simp
@[simp] theorem State.reachLong_aspects (i : Station) : (s.reachLong i).aspects = s.aspects := by
  simp only [State.reachLong]; (repeat' split) <;> simp
@[simp] theorem State.reachLong_holds (i : Station) : (s.reachLong i).holds = s.holds := by
  simp only [State.reachLong]; (repeat' split) <;> simp
@[simp] theorem State.reachLong_cues (i : Station) : (s.reachLong i).cues = s.cues := by
  simp only [State.reachLong]; (repeat' split) <;> simp
@[simp] theorem State.reachLong_levels (i : Station) : (s.reachLong i).levels = s.levels := by
  simp only [State.reachLong]; (repeat' split) <;> simp
@[simp] theorem State.reachLong_response (i : Station) : (s.reachLong i).response = s.response := by
  simp only [State.reachLong]; (repeat' split) <;> simp
@[simp] theorem State.reachLong_subTime (i : Station) : (s.reachLong i).subTime = s.subTime := by
  simp only [State.reachLong]; (repeat' split) <;> simp
@[simp] theorem State.reachLong_pending (i : Station) : (s.reachLong i).pending = s.pending := by
  simp only [State.reachLong]; (repeat' split) <;> simp

@[simp] theorem State.reachStuck_store (i : Station) : (s.reachStuck i).store = s.store := by
  simp [State.reachStuck]
@[simp] theorem State.reachStuck_bus (i : Station) : (s.reachStuck i).bus = s.bus := by
  simp [State.reachStuck]
@[simp] theorem State.reachStuck_table (i : Station) : (s.reachStuck i).table = s.table := by
  simp [State.reachStuck]
@[simp] theorem State.reachStuck_grants (i : Station) : (s.reachStuck i).grants = s.grants := by
  simp [State.reachStuck]
@[simp] theorem State.reachStuck_aspects (i : Station) : (s.reachStuck i).aspects = s.aspects := by
  simp [State.reachStuck]
@[simp] theorem State.reachStuck_holds (i : Station) : (s.reachStuck i).holds = s.holds := by
  simp [State.reachStuck]
@[simp] theorem State.reachStuck_cues (i : Station) : (s.reachStuck i).cues = s.cues := by
  simp [State.reachStuck]
@[simp] theorem State.reachStuck_levels (i : Station) : (s.reachStuck i).levels = s.levels := by
  simp [State.reachStuck]
@[simp] theorem State.reachStuck_response (i : Station) : (s.reachStuck i).response = s.response := by
  simp [State.reachStuck]
@[simp] theorem State.reachStuck_subTime (i : Station) : (s.reachStuck i).subTime = s.subTime := by
  simp [State.reachStuck]
@[simp] theorem State.reachStuck_pending (i : Station) : (s.reachStuck i).pending = s.pending := by
  simp [State.reachStuck]

@[simp] theorem State.thresholds_store (i : Station) : (s.thresholds i).store = s.store := by
  simp only [State.thresholds]; (repeat' split) <;> simp
@[simp] theorem State.thresholds_bus (i : Station) : (s.thresholds i).bus = s.bus := by
  simp only [State.thresholds]; (repeat' split) <;> simp
@[simp] theorem State.thresholds_grants (i : Station) : (s.thresholds i).grants = s.grants := by
  simp only [State.thresholds]; (repeat' split) <;> simp
@[simp] theorem State.thresholds_aspects (i : Station) : (s.thresholds i).aspects = s.aspects := by
  simp only [State.thresholds]; (repeat' split) <;> simp
@[simp] theorem State.thresholds_holds (i : Station) : (s.thresholds i).holds = s.holds := by
  simp only [State.thresholds]; (repeat' split) <;> simp
@[simp] theorem State.thresholds_levels (i : Station) : (s.thresholds i).levels = s.levels := by
  simp only [State.thresholds]; (repeat' split) <;> simp
@[simp] theorem State.thresholds_response (i : Station) : (s.thresholds i).response = s.response := by
  simp only [State.thresholds]; (repeat' split) <;> simp
@[simp] theorem State.thresholds_subTime (i : Station) : (s.thresholds i).subTime = s.subTime := by
  simp only [State.thresholds]; (repeat' split) <;> simp
@[simp] theorem State.thresholds_pending (i : Station) : (s.thresholds i).pending = s.pending := by
  simp only [State.thresholds]; (repeat' split) <;> simp

@[simp] theorem State.askInfo_store (i : Station) : (s.askInfo i).store = s.store := by
  simp only [State.askInfo]; (repeat' split) <;> simp
@[simp] theorem State.askInfo_bus (i : Station) : (s.askInfo i).bus = s.bus := by
  simp only [State.askInfo]; (repeat' split) <;> simp
@[simp] theorem State.askInfo_press (i : Station) : (s.askInfo i).press = s.press := by
  simp only [State.askInfo]; (repeat' split) <;> simp
@[simp] theorem State.askInfo_table (i : Station) : (s.askInfo i).table = s.table := by
  simp only [State.askInfo]; (repeat' split) <;> simp
@[simp] theorem State.askInfo_grants (i : Station) : (s.askInfo i).grants = s.grants := by
  simp only [State.askInfo]; (repeat' split) <;> simp
@[simp] theorem State.askInfo_aspects (i : Station) : (s.askInfo i).aspects = s.aspects := by
  simp only [State.askInfo]; (repeat' split) <;> simp
@[simp] theorem State.askInfo_holds (i : Station) : (s.askInfo i).holds = s.holds := by
  simp only [State.askInfo]; (repeat' split) <;> simp
@[simp] theorem State.askInfo_levels (i : Station) : (s.askInfo i).levels = s.levels := by
  simp only [State.askInfo]; (repeat' split) <;> simp
@[simp] theorem State.askInfo_response (i : Station) : (s.askInfo i).response = s.response := by
  simp only [State.askInfo]; (repeat' split) <;> simp
@[simp] theorem State.askInfo_subTime (i : Station) : (s.askInfo i).subTime = s.subTime := by
  simp only [State.askInfo]; (repeat' split) <;> simp
@[simp] theorem State.askInfo_pending (i : Station) : (s.askInfo i).pending = s.pending := by
  simp only [State.askInfo]; (repeat' split) <;> simp

@[simp] theorem State.takeRelease_store (i : Station) (r : Option Tick) : (s.takeRelease i r).store = s.store := by
  simp only [State.takeRelease]; (repeat' split) <;> simp
@[simp] theorem State.takeRelease_bus (i : Station) (r : Option Tick) : (s.takeRelease i r).bus = s.bus := by
  simp only [State.takeRelease]; (repeat' split) <;> simp
@[simp] theorem State.takeRelease_table (i : Station) (r : Option Tick) : (s.takeRelease i r).table = s.table := by
  simp only [State.takeRelease]; (repeat' split) <;> simp
@[simp] theorem State.takeRelease_grants (i : Station) (r : Option Tick) : (s.takeRelease i r).grants = s.grants := by
  simp only [State.takeRelease]; (repeat' split) <;> simp
@[simp] theorem State.takeRelease_aspects (i : Station) (r : Option Tick) : (s.takeRelease i r).aspects = s.aspects := by
  simp only [State.takeRelease]; (repeat' split) <;> simp
@[simp] theorem State.takeRelease_holds (i : Station) (r : Option Tick) : (s.takeRelease i r).holds = s.holds := by
  simp only [State.takeRelease]; (repeat' split) <;> simp
@[simp] theorem State.takeRelease_levels (i : Station) (r : Option Tick) : (s.takeRelease i r).levels = s.levels := by
  simp only [State.takeRelease]; (repeat' split) <;> simp
@[simp] theorem State.takeRelease_response (i : Station) (r : Option Tick) : (s.takeRelease i r).response = s.response := by
  simp only [State.takeRelease]; (repeat' split) <;> simp
@[simp] theorem State.takeRelease_subTime (i : Station) (r : Option Tick) : (s.takeRelease i r).subTime = s.subTime := by
  simp only [State.takeRelease]; (repeat' split) <;> simp
@[simp] theorem State.takeRelease_pending (i : Station) (r : Option Tick) : (s.takeRelease i r).pending = s.pending := by
  simp only [State.takeRelease]; (repeat' split) <;> simp

@[simp] theorem State.takePress_store (i : Station) (x : Tick) : (s.takePress i x).store = s.store := by
  simp [State.takePress]
@[simp] theorem State.takePress_bus (i : Station) (x : Tick) : (s.takePress i x).bus = s.bus := by
  simp [State.takePress]
@[simp] theorem State.takePress_table (i : Station) (x : Tick) : (s.takePress i x).table = s.table := by
  simp [State.takePress]
@[simp] theorem State.takePress_grants (i : Station) (x : Tick) : (s.takePress i x).grants = s.grants := by
  simp [State.takePress]
@[simp] theorem State.takePress_aspects (i : Station) (x : Tick) : (s.takePress i x).aspects = s.aspects := by
  simp [State.takePress]
@[simp] theorem State.takePress_holds (i : Station) (x : Tick) : (s.takePress i x).holds = s.holds := by
  simp [State.takePress]
@[simp] theorem State.takePress_levels (i : Station) (x : Tick) : (s.takePress i x).levels = s.levels := by
  simp [State.takePress]
@[simp] theorem State.takePress_response (i : Station) (x : Tick) : (s.takePress i x).response = s.response := by
  simp [State.takePress]
@[simp] theorem State.takePress_subTime (i : Station) (x : Tick) : (s.takePress i x).subTime = s.subTime := by
  simp [State.takePress]
@[simp] theorem State.takePress_pending (i : Station) (x : Tick) : (s.takePress i x).pending = s.pending := by
  simp [State.takePress]

@[simp] theorem State.toMoment_store (i : Station) (x y : Tick) : (s.toMoment i x y).store = s.store := by
  simp [State.toMoment]
@[simp] theorem State.toMoment_bus (i : Station) (x y : Tick) : (s.toMoment i x y).bus = s.bus := by
  simp [State.toMoment]
@[simp] theorem State.toMoment_grants (i : Station) (x y : Tick) : (s.toMoment i x y).grants = s.grants := by
  simp [State.toMoment]
@[simp] theorem State.toMoment_aspects (i : Station) (x y : Tick) : (s.toMoment i x y).aspects = s.aspects := by
  simp [State.toMoment]
@[simp] theorem State.toMoment_holds (i : Station) (x y : Tick) : (s.toMoment i x y).holds = s.holds := by
  simp [State.toMoment]
@[simp] theorem State.toMoment_levels (i : Station) (x y : Tick) : (s.toMoment i x y).levels = s.levels := by
  simp [State.toMoment]
@[simp] theorem State.toMoment_response (i : Station) (x y : Tick) : (s.toMoment i x y).response = s.response := by
  simp [State.toMoment]
@[simp] theorem State.toMoment_subTime (i : Station) (x y : Tick) : (s.toMoment i x y).subTime = s.subTime := by
  simp [State.toMoment]
@[simp] theorem State.toMoment_pending (i : Station) (x y : Tick) : (s.toMoment i x y).pending = s.pending := by
  simp [State.toMoment]

@[simp] theorem State.pressMoment_store (i : Station) (x y : Tick) : (s.pressMoment i x y).store = s.store := by
  simp [State.pressMoment]
@[simp] theorem State.pressMoment_bus (i : Station) (x y : Tick) : (s.pressMoment i x y).bus = s.bus := by
  simp [State.pressMoment]
@[simp] theorem State.pressMoment_grants (i : Station) (x y : Tick) : (s.pressMoment i x y).grants = s.grants := by
  simp [State.pressMoment]
@[simp] theorem State.pressMoment_aspects (i : Station) (x y : Tick) : (s.pressMoment i x y).aspects = s.aspects := by
  simp [State.pressMoment]
@[simp] theorem State.pressMoment_holds (i : Station) (x y : Tick) : (s.pressMoment i x y).holds = s.holds := by
  simp [State.pressMoment]
@[simp] theorem State.pressMoment_levels (i : Station) (x y : Tick) : (s.pressMoment i x y).levels = s.levels := by
  simp [State.pressMoment]
@[simp] theorem State.pressMoment_response (i : Station) (x y : Tick) : (s.pressMoment i x y).response = s.response := by
  simp [State.pressMoment]
@[simp] theorem State.pressMoment_subTime (i : Station) (x y : Tick) : (s.pressMoment i x y).subTime = s.subTime := by
  simp [State.pressMoment]
@[simp] theorem State.pressMoment_pending (i : Station) (x y : Tick) : (s.pressMoment i x y).pending = s.pending := by
  simp [State.pressMoment]

@[simp] theorem State.releaseMoment_store (i : Station) (x y : Tick) : (s.releaseMoment i x y).store = s.store := by
  simp [State.releaseMoment]
@[simp] theorem State.releaseMoment_bus (i : Station) (x y : Tick) : (s.releaseMoment i x y).bus = s.bus := by
  simp [State.releaseMoment]
@[simp] theorem State.releaseMoment_grants (i : Station) (x y : Tick) : (s.releaseMoment i x y).grants = s.grants := by
  simp [State.releaseMoment]
@[simp] theorem State.releaseMoment_aspects (i : Station) (x y : Tick) : (s.releaseMoment i x y).aspects = s.aspects := by
  simp [State.releaseMoment]
@[simp] theorem State.releaseMoment_holds (i : Station) (x y : Tick) : (s.releaseMoment i x y).holds = s.holds := by
  simp [State.releaseMoment]
@[simp] theorem State.releaseMoment_levels (i : Station) (x y : Tick) : (s.releaseMoment i x y).levels = s.levels := by
  simp [State.releaseMoment]
@[simp] theorem State.releaseMoment_response (i : Station) (x y : Tick) : (s.releaseMoment i x y).response = s.response := by
  simp [State.releaseMoment]
@[simp] theorem State.releaseMoment_subTime (i : Station) (x y : Tick) : (s.releaseMoment i x y).subTime = s.subTime := by
  simp [State.releaseMoment]
@[simp] theorem State.releaseMoment_pending (i : Station) (x y : Tick) : (s.releaseMoment i x y).pending = s.pending := by
  simp [State.releaseMoment]

@[simp] theorem State.takeEdges_store (i : Station) (r : Report) : (s.takeEdges i r).store = s.store := by
  simp only [State.takeEdges]; (repeat' split) <;> simp
@[simp] theorem State.takeEdges_bus (i : Station) (r : Report) : (s.takeEdges i r).bus = s.bus := by
  simp only [State.takeEdges]; (repeat' split) <;> simp
@[simp] theorem State.takeEdges_grants (i : Station) (r : Report) : (s.takeEdges i r).grants = s.grants := by
  simp only [State.takeEdges]; (repeat' split) <;> simp
@[simp] theorem State.takeEdges_aspects (i : Station) (r : Report) : (s.takeEdges i r).aspects = s.aspects := by
  simp only [State.takeEdges]; (repeat' split) <;> simp
@[simp] theorem State.takeEdges_holds (i : Station) (r : Report) : (s.takeEdges i r).holds = s.holds := by
  simp only [State.takeEdges]; (repeat' split) <;> simp
@[simp] theorem State.takeEdges_levels (i : Station) (r : Report) : (s.takeEdges i r).levels = s.levels := by
  simp only [State.takeEdges]; (repeat' split) <;> simp
@[simp] theorem State.takeEdges_response (i : Station) (r : Report) : (s.takeEdges i r).response = s.response := by
  simp only [State.takeEdges]; (repeat' split) <;> simp
@[simp] theorem State.takeEdges_subTime (i : Station) (r : Report) : (s.takeEdges i r).subTime = s.subTime := by
  simp only [State.takeEdges]; (repeat' split) <;> simp
@[simp] theorem State.takeEdges_pending (i : Station) (r : Report) : (s.takeEdges i r).pending = s.pending := by
  simp only [State.takeEdges]; (repeat' split) <;> simp

@[simp] theorem State.checkButton_store (i : Station) (r : Report) : (s.checkButton i r).store = s.store := by
  simp only [State.checkButton]; (repeat' split) <;> simp
@[simp] theorem State.checkButton_bus (i : Station) (r : Report) : (s.checkButton i r).bus = s.bus := by
  simp only [State.checkButton]; (repeat' split) <;> simp
@[simp] theorem State.checkButton_table (i : Station) (r : Report) : (s.checkButton i r).table = s.table := by
  simp only [State.checkButton]; (repeat' split) <;> simp
@[simp] theorem State.checkButton_grants (i : Station) (r : Report) : (s.checkButton i r).grants = s.grants := by
  simp only [State.checkButton]; (repeat' split) <;> simp
@[simp] theorem State.checkButton_aspects (i : Station) (r : Report) : (s.checkButton i r).aspects = s.aspects := by
  simp only [State.checkButton]; (repeat' split) <;> simp
@[simp] theorem State.checkButton_holds (i : Station) (r : Report) : (s.checkButton i r).holds = s.holds := by
  simp only [State.checkButton]; (repeat' split) <;> simp
@[simp] theorem State.checkButton_levels (i : Station) (r : Report) : (s.checkButton i r).levels = s.levels := by
  simp only [State.checkButton]; (repeat' split) <;> simp
@[simp] theorem State.checkButton_response (i : Station) (r : Report) : (s.checkButton i r).response = s.response := by
  simp only [State.checkButton]; (repeat' split) <;> simp
@[simp] theorem State.checkButton_subTime (i : Station) (r : Report) : (s.checkButton i r).subTime = s.subTime := by
  simp only [State.checkButton]; (repeat' split) <;> simp
@[simp] theorem State.checkButton_pending (i : Station) (r : Report) : (s.checkButton i r).pending = s.pending := by
  simp only [State.checkButton]; (repeat' split) <;> simp

@[simp] theorem State.takeButton_store (i : Station) (r : Report) : (s.takeButton i r).store = s.store := by
  simp [State.takeButton]
@[simp] theorem State.takeButton_bus (i : Station) (r : Report) : (s.takeButton i r).bus = s.bus := by
  simp [State.takeButton]
@[simp] theorem State.takeButton_grants (i : Station) (r : Report) : (s.takeButton i r).grants = s.grants := by
  simp [State.takeButton]
@[simp] theorem State.takeButton_aspects (i : Station) (r : Report) : (s.takeButton i r).aspects = s.aspects := by
  simp [State.takeButton]
@[simp] theorem State.takeButton_holds (i : Station) (r : Report) : (s.takeButton i r).holds = s.holds := by
  simp [State.takeButton]
@[simp] theorem State.takeButton_levels (i : Station) (r : Report) : (s.takeButton i r).levels = s.levels := by
  simp [State.takeButton]
@[simp] theorem State.takeButton_response (i : Station) (r : Report) : (s.takeButton i r).response = s.response := by
  simp [State.takeButton]
@[simp] theorem State.takeButton_subTime (i : Station) (r : Report) : (s.takeButton i r).subTime = s.subTime := by
  simp [State.takeButton]
@[simp] theorem State.takeButton_pending (i : Station) (r : Report) : (s.takeButton i r).pending = s.pending := by
  simp [State.takeButton]

@[simp] theorem State.abandonPress_store (i : Station) : (s.abandonPress i).store = s.store := by
  simp [State.abandonPress]
@[simp] theorem State.abandonPress_bus (i : Station) : (s.abandonPress i).bus = s.bus := by
  simp [State.abandonPress]
@[simp] theorem State.abandonPress_grants (i : Station) : (s.abandonPress i).grants = s.grants := by
  simp [State.abandonPress]
@[simp] theorem State.abandonPress_aspects (i : Station) : (s.abandonPress i).aspects = s.aspects := by
  simp [State.abandonPress]
@[simp] theorem State.abandonPress_holds (i : Station) : (s.abandonPress i).holds = s.holds := by
  simp [State.abandonPress]
@[simp] theorem State.abandonPress_cues (i : Station) : (s.abandonPress i).cues = s.cues := by
  simp [State.abandonPress]
@[simp] theorem State.abandonPress_levels (i : Station) : (s.abandonPress i).levels = s.levels := by
  simp [State.abandonPress]
@[simp] theorem State.abandonPress_response (i : Station) : (s.abandonPress i).response = s.response := by
  simp [State.abandonPress]
@[simp] theorem State.abandonPress_subTime (i : Station) : (s.abandonPress i).subTime = s.subTime := by
  simp [State.abandonPress]
@[simp] theorem State.abandonPress_pending (i : Station) : (s.abandonPress i).pending = s.pending := by
  simp [State.abandonPress]

end Sys2Proof.Machine
end

