-- ==== Sys2Proof/Laws/Speech.lean ====
section
/-! SUPPORT. What each operation on corner speech and on the cue gates can do: the parts of the Cue Generator it leaves, and the
gate that a finding leaves (R121). -/

namespace Sys2Proof.Machine

variable (g : CueGenerator)

@[simp] theorem CueGenerator.result_corners (i : Station) (r : SpeechResult) : (g.result i r).corners = g.corners := by
  simp [CueGenerator.result]
@[simp] theorem CueGenerator.result_gates (i : Station) (r : SpeechResult) : (g.result i r).gates = g.gates := by
  simp [CueGenerator.result]
@[simp] theorem CueGenerator.result_speech (i : Station) (r : SpeechResult) : (g.result i r).speech = g.speech := by
  simp [CueGenerator.result]
@[simp] theorem CueGenerator.result_nextSerial (i : Station) (r : SpeechResult) : (g.result i r).nextSerial = g.nextSerial := by
  simp [CueGenerator.result]

@[simp] theorem CueGenerator.setChannel_corners (k : Corner) (x : Channel) : (g.setChannel k x).corners = g.corners := by
  simp [CueGenerator.setChannel]
@[simp] theorem CueGenerator.setChannel_gates (k : Corner) (x : Channel) : (g.setChannel k x).gates = g.gates := by
  simp [CueGenerator.setChannel]
@[simp] theorem CueGenerator.setChannel_stations (k : Corner) (x : Channel) : (g.setChannel k x).stations = g.stations := by
  simp [CueGenerator.setChannel]
@[simp] theorem CueGenerator.setChannel_nextSerial (k : Corner) (x : Channel) : (g.setChannel k x).nextSerial = g.nextSerial := by
  simp [CueGenerator.setChannel]

@[simp] theorem CueGenerator.setQueue_corners (k : Corner) (q : List SpeechEntry) : (g.setQueue k q).corners = g.corners := by
  simp [CueGenerator.setQueue]
@[simp] theorem CueGenerator.setQueue_gates (k : Corner) (q : List SpeechEntry) : (g.setQueue k q).gates = g.gates := by
  simp [CueGenerator.setQueue]
@[simp] theorem CueGenerator.setQueue_stations (k : Corner) (q : List SpeechEntry) : (g.setQueue k q).stations = g.stations := by
  simp [CueGenerator.setQueue]
@[simp] theorem CueGenerator.setQueue_nextSerial (k : Corner) (q : List SpeechEntry) : (g.setQueue k q).nextSerial = g.nextSerial := by
  simp [CueGenerator.setQueue]

@[simp] theorem CueGenerator.startTest_corners (p : ProfileStore) (k : Corner) : (g.startTest p k).corners = g.corners := by
  simp only [CueGenerator.startTest]; (repeat' split) <;> simp
@[simp] theorem CueGenerator.startTest_gates (p : ProfileStore) (k : Corner) : (g.startTest p k).gates = g.gates := by
  simp only [CueGenerator.startTest]; (repeat' split) <;> simp
@[simp] theorem CueGenerator.startTest_stations (p : ProfileStore) (k : Corner) : (g.startTest p k).stations = g.stations := by
  simp only [CueGenerator.startTest]; (repeat' split) <;> simp

@[simp] theorem CueGenerator.enterGap_corners (p : ProfileStore) (k : Corner) : (g.enterGap p k).corners = g.corners := by
  simp only [CueGenerator.enterGap]; (repeat' split) <;> simp
@[simp] theorem CueGenerator.enterGap_gates (p : ProfileStore) (k : Corner) : (g.enterGap p k).gates = g.gates := by
  simp only [CueGenerator.enterGap]; (repeat' split) <;> simp
@[simp] theorem CueGenerator.enterGap_stations (p : ProfileStore) (k : Corner) : (g.enterGap p k).stations = g.stations := by
  simp only [CueGenerator.enterGap]; (repeat' split) <;> simp

@[simp] theorem CueGenerator.lapseLimit_corners (k : Corner) (n : Nat) (r : SpeechResult) : (g.lapseLimit k n r).corners = g.corners := by
  simp [CueGenerator.lapseLimit]
@[simp] theorem CueGenerator.lapseLimit_gates (k : Corner) (n : Nat) (r : SpeechResult) : (g.lapseLimit k n r).gates = g.gates := by
  simp [CueGenerator.lapseLimit]
@[simp] theorem CueGenerator.lapseLimit_stations (k : Corner) (n : Nat) (r : SpeechResult) : (g.lapseLimit k n r).stations = g.stations := by
  simp [CueGenerator.lapseLimit]
@[simp] theorem CueGenerator.lapseLimit_nextSerial (k : Corner) (n : Nat) (r : SpeechResult) : (g.lapseLimit k n r).nextSerial = g.nextSerial := by
  simp [CueGenerator.lapseLimit]

@[simp] theorem CueGenerator.endPlayback_corners (p : ProfileStore) (k : Corner) (r : SpeechResult) : (g.endPlayback p k r).corners = g.corners := by
  simp only [CueGenerator.endPlayback]; (repeat' split) <;> simp
@[simp] theorem CueGenerator.endPlayback_gates (p : ProfileStore) (k : Corner) (r : SpeechResult) : (g.endPlayback p k r).gates = g.gates := by
  simp only [CueGenerator.endPlayback]; (repeat' split) <;> simp

@[simp] theorem CueGenerator.afterWalk_corners (p : ProfileStore) (k : Corner) : (g.afterWalk p k).corners = g.corners := by
  simp only [CueGenerator.afterWalk]; (repeat' split) <;> simp
@[simp] theorem CueGenerator.afterWalk_gates (p : ProfileStore) (k : Corner) : (g.afterWalk p k).gates = g.gates := by
  simp only [CueGenerator.afterWalk]; (repeat' split) <;> simp

@[simp] theorem CueGenerator.enqueueWalk_corners (p : ProfileStore) (k : Corner) (e : SpeechEntry) : (g.enqueueWalk p k e).corners = g.corners := by
  simp only [CueGenerator.enqueueWalk]; (repeat' split) <;> simp
@[simp] theorem CueGenerator.enqueueWalk_gates (p : ProfileStore) (k : Corner) (e : SpeechEntry) : (g.enqueueWalk p k e).gates = g.gates := by
  simp only [CueGenerator.enqueueWalk]; (repeat' split) <;> simp

@[simp] theorem CueGenerator.enqueueInfo_corners (p : ProfileStore) (k : Corner) (e : SpeechEntry) : (g.enqueueInfo p k e).corners = g.corners := by
  simp only [CueGenerator.enqueueInfo]; (repeat' split) <;> simp
@[simp] theorem CueGenerator.enqueueInfo_gates (p : ProfileStore) (k : Corner) (e : SpeechEntry) : (g.enqueueInfo p k e).gates = g.gates := by
  simp only [CueGenerator.enqueueInfo]; (repeat' split) <;> simp

@[simp] theorem CueGenerator.dropEntries_corners (k : Corner) (i : Station) (o : SpeechEntry → Bool) : (g.dropEntries k i o).corners = g.corners := by
  simp only [CueGenerator.dropEntries]; (repeat' split) <;> simp
@[simp] theorem CueGenerator.dropEntries_gates (k : Corner) (i : Station) (o : SpeechEntry → Bool) : (g.dropEntries k i o).gates = g.gates := by
  simp only [CueGenerator.dropEntries]; (repeat' split) <;> simp
@[simp] theorem CueGenerator.dropEntries_nextSerial (k : Corner) (i : Station) (o : SpeechEntry → Bool) : (g.dropEntries k i o).nextSerial = g.nextSerial := by
  simp only [CueGenerator.dropEntries]; (repeat' split) <;> simp

@[simp] theorem CueGenerator.cutEntry_corners (p : ProfileStore) (k : Corner) (i : Station) (o : SpeechEntry → Bool) : (g.cutEntry p k i o).corners = g.corners := by
  simp only [CueGenerator.cutEntry]; (repeat' split) <;> simp
@[simp] theorem CueGenerator.cutEntry_gates (p : ProfileStore) (k : Corner) (i : Station) (o : SpeechEntry → Bool) : (g.cutEntry p k i o).gates = g.gates := by
  simp only [CueGenerator.cutEntry]; (repeat' split) <;> simp

@[simp] theorem CueGenerator.dropStation_corners (p : ProfileStore) (i : Station) : (CueGenerator.dropStation p g i).corners = g.corners := by
  simp [CueGenerator.dropStation]
@[simp] theorem CueGenerator.dropStation_gates (p : ProfileStore) (i : Station) : (CueGenerator.dropStation p g i).gates = g.gates := by
  simp [CueGenerator.dropStation]
@[simp] theorem CueGenerator.cutStation_corners (p : ProfileStore) (i : Station) : (CueGenerator.cutStation p g i).corners = g.corners := by
  simp [CueGenerator.cutStation]
@[simp] theorem CueGenerator.cutStation_gates (p : ProfileStore) (i : Station) : (CueGenerator.cutStation p g i).gates = g.gates := by
  simp [CueGenerator.cutStation]
@[simp] theorem CueGenerator.silenceStation_corners (i : Station) : (g.silenceStation i).corners = g.corners := by
  simp [CueGenerator.silenceStation]
@[simp] theorem CueGenerator.silenceStation_gates (i : Station) : (g.silenceStation i).gates = g.gates := by
  simp [CueGenerator.silenceStation]
@[simp] theorem CueGenerator.silenceStation_speech (i : Station) : (g.silenceStation i).speech = g.speech := by
  simp [CueGenerator.silenceStation]

@[simp] theorem CueGenerator.leave_corners (p : ProfileStore) (i : Station) : (g.leave p i).corners = g.corners := by
  simp [CueGenerator.leave]
@[simp] theorem CueGenerator.leave_gates (p : ProfileStore) (i : Station) : (g.leave p i).gates = g.gates := by
  simp [CueGenerator.leave]

@[simp] theorem CueGenerator.leaveAll_corners (p : ProfileStore) (l : List Station) : (g.leaveAll p l).corners = g.corners := by
  simp only [CueGenerator.leaveAll]
  rw [foldl_keeps CueGenerator.corners _ (fun g i => CueGenerator.startTest_corners g _ _),
    foldl_keeps CueGenerator.corners _ (fun g i => CueGenerator.silenceStation_corners g _),
    foldl_keeps CueGenerator.corners _ (fun g i => CueGenerator.cutStation_corners g _ _),
    foldl_keeps CueGenerator.corners _ (fun g i => CueGenerator.dropStation_corners g _ _)]
@[simp] theorem CueGenerator.leaveAll_gates (p : ProfileStore) (l : List Station) : (g.leaveAll p l).gates = g.gates := by
  simp only [CueGenerator.leaveAll]
  rw [foldl_keeps CueGenerator.gates _ (fun g i => CueGenerator.startTest_gates g _ _),
    foldl_keeps CueGenerator.gates _ (fun g i => CueGenerator.silenceStation_gates g _),
    foldl_keeps CueGenerator.gates _ (fun g i => CueGenerator.cutStation_gates g _ _),
    foldl_keeps CueGenerator.gates _ (fun g i => CueGenerator.dropStation_gates g _ _)]

@[simp] theorem CueGenerator.endGap_corners (p : ProfileStore) (k : Corner) : (g.endGap p k).corners = g.corners := by
  simp only [CueGenerator.endGap]; (repeat' split) <;> simp
@[simp] theorem CueGenerator.endGap_gates (p : ProfileStore) (k : Corner) : (g.endGap p k).gates = g.gates := by
  simp only [CueGenerator.endGap]; (repeat' split) <;> simp
@[simp] theorem CueGenerator.endGap_stations (p : ProfileStore) (k : Corner) : (g.endGap p k).stations = g.stations := by
  simp only [CueGenerator.endGap]; (repeat' split) <;> simp

@[simp] theorem CueGenerator.limitPlayback_corners (p : ProfileStore) (k : Corner) : (g.limitPlayback p k).corners = g.corners := by
  simp only [CueGenerator.limitPlayback]; split <;> simp
@[simp] theorem CueGenerator.limitPlayback_gates (p : ProfileStore) (k : Corner) : (g.limitPlayback p k).gates = g.gates := by
  simp only [CueGenerator.limitPlayback]; split <;> simp

@[simp] theorem CueGenerator.messageDone_corners (p : ProfileStore) (k : Corner) (n : Nat) : (g.messageDone p k n).corners = g.corners := by
  simp only [CueGenerator.messageDone]; (repeat' split) <;> simp
@[simp] theorem CueGenerator.messageDone_gates (p : ProfileStore) (k : Corner) (n : Nat) : (g.messageDone p k n).gates = g.gates := by
  simp only [CueGenerator.messageDone]; (repeat' split) <;> simp

@[simp] theorem CueGenerator.openGate_gates (p : ProfileStore) (b : BusController) (c : Crossing) :
    (g.openGate p b c).gates = put g.gates c true := by
  simp only [CueGenerator.openGate]
  rw [foldl_keeps CueGenerator.gates _ (fun g i => CueGenerator.enqueueWalk_gates g _ _ _)]

@[simp] theorem CueGenerator.openGate_corners (p : ProfileStore) (b : BusController) (c : Crossing) :
    (g.openGate p b c).corners = g.corners := by
  simp only [CueGenerator.openGate]
  rw [foldl_keeps CueGenerator.corners _ (fun g i => CueGenerator.enqueueWalk_corners g _ _ _)]

@[simp] theorem CueGenerator.closeGate_gates (p : ProfileStore) (c : Crossing) :
    (g.closeGate p c).gates = put g.gates c false := by
  simp only [CueGenerator.closeGate]
  rw [foldl_keeps CueGenerator.gates _ (fun g i => CueGenerator.cutEntry_gates g _ _ _ _),
    foldl_keeps CueGenerator.gates _ (fun g i => CueGenerator.dropEntries_gates g _ _ _)]

@[simp] theorem CueGenerator.closeGate_corners (p : ProfileStore) (c : Crossing) :
    (g.closeGate p c).corners = g.corners := by
  simp only [CueGenerator.closeGate]
  rw [foldl_keeps CueGenerator.corners _ (fun g i => CueGenerator.cutEntry_corners g _ _ _ _),
    foldl_keeps CueGenerator.corners _ (fun g i => CueGenerator.dropEntries_corners g _ _ _)]

variable (s : State)

/-- A finding leaves the gate equal to its condition (R121). -/
theorem State.findGate_look (c : Crossing) : look (s.findGate c).cues.gates c = s.gateCondition c := by
  unfold State.findGate
  split <;> split <;> simp_all

/-- A finding of one crossing's gate leaves the others. -/
theorem State.findGate_look_ne {c d : Crossing} (h : d ≠ c) : look (s.findGate c).cues.gates d = look s.cues.gates d := by
  unfold State.findGate
  split <;> split <;> simp [look_put_ne _ h]

/-- The gate's condition reads the store, the table, the aspects and the holds alone. -/
theorem State.gateCondition_congr {s t : State} (c : Crossing) (h1 : t.store = s.store) (h2 : t.table = s.table)
    (h3 : t.aspects = s.aspects) (h4 : t.holds = s.holds) : t.gateCondition c = s.gateCondition c := by
  simp only [State.gateCondition, h1, h2, h3, h4]

@[simp] theorem State.findGate_gateCondition (c d : Crossing) : (s.findGate c).gateCondition d = s.gateCondition d :=
  State.gateCondition_congr d (by simp) (by simp) (by simp) (by simp)

/-- After every gate has been found, each equals its condition (R121). -/
theorem State.findGates_look (c : Crossing) : look s.findGates.cues.gates c = s.gateCondition c := by
  have key : ∀ (l : List Crossing) (s : State), c ∈ l →
      look (l.foldl (fun s c => s.findGate c) s).cues.gates c = s.gateCondition c := by
    intro l
    induction l with
    | nil => intro s h; simp at h
    | cons d l ih =>
      intro s h
      rw [List.foldl_cons]
      by_cases hc : c ∈ l
      · rw [ih _ hc]; simp
      · have hd : c = d := by simpa [hc] using h
        subst hd
        have keep : ∀ (l : List Crossing) (s : State), c ∉ l →
            look (l.foldl (fun s c => s.findGate c) s).cues.gates c = look s.cues.gates c := by
          intro l
          induction l with
          | nil => intro s _; rfl
          | cons e l ih =>
            intro s h
            simp only [List.mem_cons, not_or] at h
            rw [List.foldl_cons, ih _ h.2, State.findGate_look_ne _ h.1]
        rw [keep _ _ hc, State.findGate_look]
  unfold State.findGates
  exact key _ s (List.mem_finRange c)

end Sys2Proof.Machine
end

