-- ==== Sys2Proof/Laws/Checks.lean ====
section
/-! SUPPORT. How a concrete state is shown lawful: each law of the part follows from a condition that a computation decides. -/

namespace Sys2Proof.Machine

variable {s : State} {t : CallTable} {c : Crossing} {p : CallState → Bool}

/-- Gates that equal their conditions are lawful (R121). -/
theorem gateLaw_of (h : ∀ c, look s.cues.gates c = s.gateCondition c) : GateLaw s := by
  intro c
  rw [h c]
  simp only [State.gateCondition, Bool.and_eq_true, HoldFlags.held]
  constructor
  · rintro ⟨⟨⟨⟨hw, h1⟩, h2⟩, h3⟩, h4⟩
    obtain ⟨i, hw⟩ := Option.isSome_iff_exists.1 hw
    obtain ⟨r, k1, k2, k3⟩ := walkingSlot_some hw
    refine ⟨?_, by simpa using h1, by simpa [and_assoc] using h2, by simpa using h3, h4⟩
    cases hr : r.state <;> simp [hr, CallState.isWalking] at k3
    exact ⟨i, r, _, k1, k2, hr⟩
  · rintro ⟨⟨i, r, st, h1, h2, h3⟩, h4, ⟨h5, h6, h7⟩, h8, h9⟩
    exact ⟨⟨⟨⟨firstWhere_isSome.2 ⟨i, by simp [recordIs, h1, h2, h3, CallState.isWalking]⟩, by simp [h4]⟩, by simp [h5, h6, h7]⟩,
      by simp [h8]⟩, h9⟩

/-- Two places that may stand beside each other (R36). -/
def apart (a b : Option CallRecord) : Bool :=
  match a, b with
  | some r, some q =>
    r.crossing != q.crossing || (r.state.isWaiting != q.state.isWaiting && !r.state.isJoinable && !q.state.isJoinable)
  | _, _ => true

/-- A place lawful by itself (R51, R67, R69, R73, R77). -/
def placeOk (s : State) (a : Option CallRecord) : Bool :=
  match a with
  | none => true
  | some r =>
    (r.state.isWaiting ||
      ((s.store.crossing r.crossing).enabled && (look s.aspects r.crossing).fault.isNone &&
        match r.state, (look s.aspects r.crossing).observed with
        | .granted _, .dontWalk => true
        | .walking _, .walk => true
        | .clearing _, .clearance => true
        | _, .dark => true
        | _, _ => false)) &&
      ((look s.table.memos r.crossing).isNone ||
        match r.state with
        | .clearing _ => true
        | _ => false)

/-- A table whose places pass these checks, and which is full or has no memo, is lawful (R36, R51). -/
theorem serviceLaw_of (h1 : ∀ i j : RecordSlot, i ≠ j → apart (look s.table.records i) (look s.table.records j) = true)
    (h2 : ∀ i : RecordSlot, placeOk s (look s.table.records i) = true)
    (h3 : (∀ c : Crossing, look s.table.memos c = none) ∨ ∀ i : RecordSlot, (look s.table.records i).isSome = true) :
    ServiceLaw s where
  oneOfGroup i j r q hr hq hc hw := by
    by_contra hij
    have := h1 i j hij
    rw [hr, hq] at this
    simp [apart, hc, hw] at this
  joinableAlone i j r q hr hq hc hw := by
    by_contra hij
    have := h1 i j hij
    rw [hr, hq] at this
    simp [apart, hc, hw] at this
  memoFull c i hm := by
    rcases h3 with h3 | h3
    · simp [h3 c] at hm
    · exact h3 i
  memoBeside c i r hm hr hc := by
    have := h2 i
    rw [hr] at this
    simp only [placeOk, hc, Bool.and_eq_true, Bool.or_eq_true] at this
    rcases this.2 with h | h
    · rw [Option.isNone_iff_eq_none] at h; simp [h] at hm
    · cases hs : r.state <;> simp [hs] at h
      exact ⟨_, rfl⟩
  servingFits i r hr hw := by
    have := h2 i
    rw [hr] at this
    simp only [placeOk, hw, Bool.false_or, Bool.and_eq_true] at this
    obtain ⟨⟨⟨h4, h5⟩, h6⟩, -⟩ := this
    refine ⟨h4, by simpa using h5, ?_⟩
    unfold CallState.fits
    cases hs : r.state <;> cases ha : (look s.aspects r.crossing).observed <;>
      simp [hs, ha] at h6 hw ⊢

/-- A search that finds a place shows a record. -/
theorem hasRecord_of (h : anyWhere (fun i => recordIs c p (look t.records i)) = true) : HasRecord t c p := by
  obtain ⟨i, h⟩ := anyWhere_iff.1 h
  obtain ⟨r, k1, k2, k3⟩ := recordIs_iff.1 h
  exact ⟨i, r, ⟨k1, k2⟩, k3⟩

/-- A search that finds no place shows that there is no record. -/
theorem noRecord_of (h : anyWhere (fun i => recordIs c p (look t.records i)) = false) : ¬ HasRecord t c p := by
  rintro ⟨i, r, ⟨k1, k2⟩, k3⟩
  have : anyWhere (fun i => recordIs c p (look t.records i)) = true := anyWhere_iff.2 ⟨i, recordIs_iff.2 ⟨r, k1, k2, k3⟩⟩
  simp [h] at this

/-- The one place a search finds. -/
theorem onlyRecord_of {i : RecordSlot} {r : CallRecord} (h1 : look t.records i = some r) (h2 : r.crossing = c) (h3 : p r.state = true)
    (h4 : ∀ j, j ≠ i → recordIs c p (look t.records j) = false) : OnlyRecord t c p i r := by
  refine ⟨⟨h1, h2⟩, h3, fun j q hj hq => ?_⟩
  by_contra hh
  have := h4 j hh
  simp [recordIs, hj.1, hj.2, hq] at this

/-- Some place is free. -/
theorem hasFree_of (h : t.freeSlot.isSome = true) : HasFree t := by
  obtain ⟨i, h⟩ := Option.isSome_iff_exists.1 h
  exact ⟨i, freeSlot_some h⟩

/-- No place is free. -/
theorem noFree_of (h : t.freeSlot = none) : ¬ HasFree t := by
  rintro ⟨i, h'⟩
  have := freeSlot_none.1 h i
  simp [h'] at this

/-- A requesting set checked (R37). -/
def setOk (p : ProfileStore) (c : Crossing) (set : List Station) (count : Nat) : Bool :=
  decide (set.length ≤ 4) && decide (set.Pairwise (· < ·)) && decide (count ≤ 255) && (decide (count = 0) == set.isEmpty) &&
    set.all fun i => (p.station i).crossing == c

theorem requestSet_of {q : ProfileStore} {set : List Station} {n : Nat} (h : setOk q c set n = true) : RequestSet q c set n := by
  simp only [setOk, Bool.and_eq_true, decide_eq_true_eq, beq_iff_eq, List.all_eq_true] at h
  obtain ⟨⟨⟨⟨h1, h2⟩, h3⟩, h4⟩, h5⟩ := h
  refine ⟨h1, h2, h3, ?_, h5⟩
  rw [← List.isEmpty_iff, ← h4, decide_eq_true_eq]

/-- Requesting sets that pass the check are lawful (R37). -/
theorem requestLaw_of
    (h1 : ∀ i : RecordSlot, ((look s.table.records i).all fun r => setOk s.store r.crossing r.stations r.pressCount) = true)
    (h2 : ∀ c : Crossing, ((look s.table.memos c).all fun m => setOk s.store c m.stations m.count && m.origin != .recall) = true) :
    RequestLaw s := by
  refine ⟨fun i r hr => ?_, fun c m hm => ?_⟩
  · have := h1 i; rw [hr] at this; exact requestSet_of this
  · have := h2 c
    rw [hm] at this
    simp only [Option.all_some, Bool.and_eq_true, bne_iff_ne] at this
    exact ⟨requestSet_of this.1, this.2⟩

end Sys2Proof.Machine
end

