-- ==== Sys2Proof/Laws/FramesBus.lean ====
section
/-! SUPPORT. Which blocks each shared operation leaves as they stand: the station bus. -/

namespace Sys2Proof.Machine

variable (s : State)

@[simp] theorem State.beginSlot_store (i : Station) : (s.beginSlot i).store = s.store := by
  simp only [State.beginSlot]; (repeat' split) <;> simp
@[simp] theorem State.beginSlot_press (i : Station) : (s.beginSlot i).press = s.press := by
  simp only [State.beginSlot]; (repeat' split) <;> simp
@[simp] theorem State.beginSlot_table (i : Station) : (s.beginSlot i).table = s.table := by
  simp only [State.beginSlot]; (repeat' split) <;> simp
@[simp] theorem State.beginSlot_grants (i : Station) : (s.beginSlot i).grants = s.grants := by
  simp only [State.beginSlot]; (repeat' split) <;> simp
@[simp] theorem State.beginSlot_aspects (i : Station) : (s.beginSlot i).aspects = s.aspects := by
  simp only [State.beginSlot]; (repeat' split) <;> simp
@[simp] theorem State.beginSlot_holds (i : Station) : (s.beginSlot i).holds = s.holds := by
  simp only [State.beginSlot]; (repeat' split) <;> simp
@[simp] theorem State.beginSlot_levels (i : Station) : (s.beginSlot i).levels = s.levels := by
  simp only [State.beginSlot]; (repeat' split) <;> simp
@[simp] theorem State.beginSlot_response (i : Station) : (s.beginSlot i).response = s.response := by
  simp only [State.beginSlot]; (repeat' split) <;> simp
@[simp] theorem State.beginSlot_subTime (i : Station) : (s.beginSlot i).subTime = s.subTime := by
  simp only [State.beginSlot]; (repeat' split) <;> simp
@[simp] theorem State.beginSlot_pending (i : Station) : (s.beginSlot i).pending = s.pending := by
  simp only [State.beginSlot]; (repeat' split) <;> simp

@[simp] theorem State.leaveActive_store (i : Station) : (s.leaveActive i).store = s.store := by
  simp [State.leaveActive]
@[simp] theorem State.leaveActive_grants (i : Station) : (s.leaveActive i).grants = s.grants := by
  simp [State.leaveActive]
@[simp] theorem State.leaveActive_aspects (i : Station) : (s.leaveActive i).aspects = s.aspects := by
  simp [State.leaveActive]
@[simp] theorem State.leaveActive_holds (i : Station) : (s.leaveActive i).holds = s.holds := by
  simp [State.leaveActive]
@[simp] theorem State.leaveActive_response (i : Station) : (s.leaveActive i).response = s.response := by
  simp [State.leaveActive]
@[simp] theorem State.leaveActive_subTime (i : Station) : (s.leaveActive i).subTime = s.subTime := by
  simp [State.leaveActive]
@[simp] theorem State.leaveActive_pending (i : Station) : (s.leaveActive i).pending = s.pending := by
  simp [State.leaveActive]

@[simp] theorem State.takeAmbient_store (i : Station) (r : Report) : (s.takeAmbient i r).store = s.store := by
  simp only [State.takeAmbient]; (repeat' split) <;> simp
@[simp] theorem State.takeAmbient_bus (i : Station) (r : Report) : (s.takeAmbient i r).bus = s.bus := by
  simp only [State.takeAmbient]; (repeat' split) <;> simp
@[simp] theorem State.takeAmbient_press (i : Station) (r : Report) : (s.takeAmbient i r).press = s.press := by
  simp only [State.takeAmbient]; (repeat' split) <;> simp
@[simp] theorem State.takeAmbient_table (i : Station) (r : Report) : (s.takeAmbient i r).table = s.table := by
  simp only [State.takeAmbient]; (repeat' split) <;> simp
@[simp] theorem State.takeAmbient_grants (i : Station) (r : Report) : (s.takeAmbient i r).grants = s.grants := by
  simp only [State.takeAmbient]; (repeat' split) <;> simp
@[simp] theorem State.takeAmbient_aspects (i : Station) (r : Report) : (s.takeAmbient i r).aspects = s.aspects := by
  simp only [State.takeAmbient]; (repeat' split) <;> simp
@[simp] theorem State.takeAmbient_holds (i : Station) (r : Report) : (s.takeAmbient i r).holds = s.holds := by
  simp only [State.takeAmbient]; (repeat' split) <;> simp
@[simp] theorem State.takeAmbient_cues (i : Station) (r : Report) : (s.takeAmbient i r).cues = s.cues := by
  simp only [State.takeAmbient]; (repeat' split) <;> simp
@[simp] theorem State.takeAmbient_response (i : Station) (r : Report) : (s.takeAmbient i r).response = s.response := by
  simp only [State.takeAmbient]; (repeat' split) <;> simp
@[simp] theorem State.takeAmbient_subTime (i : Station) (r : Report) : (s.takeAmbient i r).subTime = s.subTime := by
  simp only [State.takeAmbient]; (repeat' split) <;> simp
@[simp] theorem State.takeAmbient_pending (i : Station) (r : Report) : (s.takeAmbient i r).pending = s.pending := by
  simp only [State.takeAmbient]; (repeat' split) <;> simp

@[simp] theorem State.takeMessageDone_store (i : Station) (r : Report) (n : Option Nat) : (s.takeMessageDone i r n).store = s.store := by
  simp only [State.takeMessageDone]; (repeat' split) <;> simp
@[simp] theorem State.takeMessageDone_bus (i : Station) (r : Report) (n : Option Nat) : (s.takeMessageDone i r n).bus = s.bus := by
  simp only [State.takeMessageDone]; (repeat' split) <;> simp
@[simp] theorem State.takeMessageDone_press (i : Station) (r : Report) (n : Option Nat) : (s.takeMessageDone i r n).press = s.press := by
  simp only [State.takeMessageDone]; (repeat' split) <;> simp
@[simp] theorem State.takeMessageDone_table (i : Station) (r : Report) (n : Option Nat) : (s.takeMessageDone i r n).table = s.table := by
  simp only [State.takeMessageDone]; (repeat' split) <;> simp
@[simp] theorem State.takeMessageDone_grants (i : Station) (r : Report) (n : Option Nat) : (s.takeMessageDone i r n).grants = s.grants := by
  simp only [State.takeMessageDone]; (repeat' split) <;> simp
@[simp] theorem State.takeMessageDone_aspects (i : Station) (r : Report) (n : Option Nat) : (s.takeMessageDone i r n).aspects = s.aspects := by
  simp only [State.takeMessageDone]; (repeat' split) <;> simp
@[simp] theorem State.takeMessageDone_holds (i : Station) (r : Report) (n : Option Nat) : (s.takeMessageDone i r n).holds = s.holds := by
  simp only [State.takeMessageDone]; (repeat' split) <;> simp
@[simp] theorem State.takeMessageDone_levels (i : Station) (r : Report) (n : Option Nat) : (s.takeMessageDone i r n).levels = s.levels := by
  simp only [State.takeMessageDone]; (repeat' split) <;> simp
@[simp] theorem State.takeMessageDone_response (i : Station) (r : Report) (n : Option Nat) : (s.takeMessageDone i r n).response = s.response := by
  simp only [State.takeMessageDone]; (repeat' split) <;> simp
@[simp] theorem State.takeMessageDone_subTime (i : Station) (r : Report) (n : Option Nat) : (s.takeMessageDone i r n).subTime = s.subTime := by
  simp only [State.takeMessageDone]; (repeat' split) <;> simp
@[simp] theorem State.takeMessageDone_pending (i : Station) (r : Report) (n : Option Nat) : (s.takeMessageDone i r n).pending = s.pending := by
  simp only [State.takeMessageDone]; (repeat' split) <;> simp

@[simp] theorem State.takeParts_store (i : Station) (r : Report) (n : Option Nat) : (s.takeParts i r n).store = s.store := by
  simp [State.takeParts]
@[simp] theorem State.takeParts_bus (i : Station) (r : Report) (n : Option Nat) : (s.takeParts i r n).bus = s.bus := by
  simp [State.takeParts]
@[simp] theorem State.takeParts_grants (i : Station) (r : Report) (n : Option Nat) : (s.takeParts i r n).grants = s.grants := by
  simp [State.takeParts]
@[simp] theorem State.takeParts_aspects (i : Station) (r : Report) (n : Option Nat) : (s.takeParts i r n).aspects = s.aspects := by
  simp [State.takeParts]
@[simp] theorem State.takeParts_holds (i : Station) (r : Report) (n : Option Nat) : (s.takeParts i r n).holds = s.holds := by
  simp [State.takeParts]
@[simp] theorem State.takeParts_response (i : Station) (r : Report) (n : Option Nat) : (s.takeParts i r n).response = s.response := by
  simp [State.takeParts]
@[simp] theorem State.takeParts_subTime (i : Station) (r : Report) (n : Option Nat) : (s.takeParts i r n).subTime = s.subTime := by
  simp [State.takeParts]
@[simp] theorem State.takeParts_pending (i : Station) (r : Report) (n : Option Nat) : (s.takeParts i r n).pending = s.pending := by
  simp [State.takeParts]

@[simp] theorem State.join_store (i : Station) (r : Report) (o : Offer) : (s.join i r o).store = s.store := by
  simp [State.join]
@[simp] theorem State.join_grants (i : Station) (r : Report) (o : Offer) : (s.join i r o).grants = s.grants := by
  simp [State.join]
@[simp] theorem State.join_aspects (i : Station) (r : Report) (o : Offer) : (s.join i r o).aspects = s.aspects := by
  simp [State.join]
@[simp] theorem State.join_holds (i : Station) (r : Report) (o : Offer) : (s.join i r o).holds = s.holds := by
  simp [State.join]
@[simp] theorem State.join_response (i : Station) (r : Report) (o : Offer) : (s.join i r o).response = s.response := by
  simp [State.join]
@[simp] theorem State.join_subTime (i : Station) (r : Report) (o : Offer) : (s.join i r o).subTime = s.subTime := by
  simp [State.join]
@[simp] theorem State.join_pending (i : Station) (r : Report) (o : Offer) : (s.join i r o).pending = s.pending := by
  simp [State.join]

@[simp] theorem State.takeReport_store (i : Station) (r : Report) (n : Option Nat) : (s.takeReport i r n).store = s.store := by
  simp only [State.takeReport]; (repeat' split) <;> simp
@[simp] theorem State.takeReport_grants (i : Station) (r : Report) (n : Option Nat) : (s.takeReport i r n).grants = s.grants := by
  simp only [State.takeReport]; (repeat' split) <;> simp
@[simp] theorem State.takeReport_aspects (i : Station) (r : Report) (n : Option Nat) : (s.takeReport i r n).aspects = s.aspects := by
  simp only [State.takeReport]; (repeat' split) <;> simp
@[simp] theorem State.takeReport_holds (i : Station) (r : Report) (n : Option Nat) : (s.takeReport i r n).holds = s.holds := by
  simp only [State.takeReport]; (repeat' split) <;> simp
@[simp] theorem State.takeReport_response (i : Station) (r : Report) (n : Option Nat) : (s.takeReport i r n).response = s.response := by
  simp only [State.takeReport]; (repeat' split) <;> simp
@[simp] theorem State.takeReport_subTime (i : Station) (r : Report) (n : Option Nat) : (s.takeReport i r n).subTime = s.subTime := by
  simp only [State.takeReport]; (repeat' split) <;> simp
@[simp] theorem State.takeReport_pending (i : Station) (r : Report) (n : Option Nat) : (s.takeReport i r n).pending = s.pending := by
  simp only [State.takeReport]; (repeat' split) <;> simp

@[simp] theorem State.missSlot_store (i : Station) : (s.missSlot i).store = s.store := by
  simp only [State.missSlot]; (repeat' split) <;> simp
@[simp] theorem State.missSlot_grants (i : Station) : (s.missSlot i).grants = s.grants := by
  simp only [State.missSlot]; (repeat' split) <;> simp
@[simp] theorem State.missSlot_aspects (i : Station) : (s.missSlot i).aspects = s.aspects := by
  simp only [State.missSlot]; (repeat' split) <;> simp
@[simp] theorem State.missSlot_holds (i : Station) : (s.missSlot i).holds = s.holds := by
  simp only [State.missSlot]; (repeat' split) <;> simp
@[simp] theorem State.missSlot_response (i : Station) : (s.missSlot i).response = s.response := by
  simp only [State.missSlot]; (repeat' split) <;> simp
@[simp] theorem State.missSlot_subTime (i : Station) : (s.missSlot i).subTime = s.subTime := by
  simp only [State.missSlot]; (repeat' split) <;> simp
@[simp] theorem State.missSlot_pending (i : Station) : (s.missSlot i).pending = s.pending := by
  simp only [State.missSlot]; (repeat' split) <;> simp

@[simp] theorem State.settleSlot_store : (s.settleSlot).store = s.store := by
  simp [State.settleSlot]
@[simp] theorem State.settleSlot_press : (s.settleSlot).press = s.press := by
  simp [State.settleSlot]
@[simp] theorem State.settleSlot_table : (s.settleSlot).table = s.table := by
  simp [State.settleSlot]
@[simp] theorem State.settleSlot_grants : (s.settleSlot).grants = s.grants := by
  simp [State.settleSlot]
@[simp] theorem State.settleSlot_aspects : (s.settleSlot).aspects = s.aspects := by
  simp [State.settleSlot]
@[simp] theorem State.settleSlot_holds : (s.settleSlot).holds = s.holds := by
  simp [State.settleSlot]
@[simp] theorem State.settleSlot_cues : (s.settleSlot).cues = s.cues := by
  simp [State.settleSlot]
@[simp] theorem State.settleSlot_levels : (s.settleSlot).levels = s.levels := by
  simp [State.settleSlot]
@[simp] theorem State.settleSlot_response : (s.settleSlot).response = s.response := by
  simp [State.settleSlot]
@[simp] theorem State.settleSlot_subTime : (s.settleSlot).subTime = s.subTime := by
  simp [State.settleSlot]
@[simp] theorem State.settleSlot_pending : (s.settleSlot).pending = s.pending := by
  simp [State.settleSlot]

@[simp] theorem State.dealReport_store (x : Slot) (r : Report) : (s.dealReport x r).store = s.store := by
  simp only [State.dealReport]; (repeat' split) <;> simp
@[simp] theorem State.dealReport_grants (x : Slot) (r : Report) : (s.dealReport x r).grants = s.grants := by
  simp only [State.dealReport]; (repeat' split) <;> simp
@[simp] theorem State.dealReport_aspects (x : Slot) (r : Report) : (s.dealReport x r).aspects = s.aspects := by
  simp only [State.dealReport]; (repeat' split) <;> simp
@[simp] theorem State.dealReport_holds (x : Slot) (r : Report) : (s.dealReport x r).holds = s.holds := by
  simp only [State.dealReport]; (repeat' split) <;> simp
@[simp] theorem State.dealReport_response (x : Slot) (r : Report) : (s.dealReport x r).response = s.response := by
  simp only [State.dealReport]; (repeat' split) <;> simp
@[simp] theorem State.dealReport_subTime (x : Slot) (r : Report) : (s.dealReport x r).subTime = s.subTime := by
  simp only [State.dealReport]; (repeat' split) <;> simp
@[simp] theorem State.dealReport_pending (x : Slot) (r : Report) : (s.dealReport x r).pending = s.pending := by
  simp only [State.dealReport]; (repeat' split) <;> simp

@[simp] theorem State.dealMiss_store (x : Slot) : (s.dealMiss x).store = s.store := by
  simp only [State.dealMiss]; (repeat' split) <;> simp
@[simp] theorem State.dealMiss_grants (x : Slot) : (s.dealMiss x).grants = s.grants := by
  simp only [State.dealMiss]; (repeat' split) <;> simp
@[simp] theorem State.dealMiss_aspects (x : Slot) : (s.dealMiss x).aspects = s.aspects := by
  simp only [State.dealMiss]; (repeat' split) <;> simp
@[simp] theorem State.dealMiss_holds (x : Slot) : (s.dealMiss x).holds = s.holds := by
  simp only [State.dealMiss]; (repeat' split) <;> simp
@[simp] theorem State.dealMiss_response (x : Slot) : (s.dealMiss x).response = s.response := by
  simp only [State.dealMiss]; (repeat' split) <;> simp
@[simp] theorem State.dealMiss_subTime (x : Slot) : (s.dealMiss x).subTime = s.subTime := by
  simp only [State.dealMiss]; (repeat' split) <;> simp
@[simp] theorem State.dealMiss_pending (x : Slot) : (s.dealMiss x).pending = s.pending := by
  simp only [State.dealMiss]; (repeat' split) <;> simp

@[simp] theorem State.receive_store (b : List Byte) : (s.receive b).store = s.store := by
  simp only [State.receive]; (repeat' split) <;> simp
@[simp] theorem State.receive_grants (b : List Byte) : (s.receive b).grants = s.grants := by
  simp only [State.receive]; (repeat' split) <;> simp
@[simp] theorem State.receive_aspects (b : List Byte) : (s.receive b).aspects = s.aspects := by
  simp only [State.receive]; (repeat' split) <;> simp
@[simp] theorem State.receive_holds (b : List Byte) : (s.receive b).holds = s.holds := by
  simp only [State.receive]; (repeat' split) <;> simp
@[simp] theorem State.receive_response (b : List Byte) : (s.receive b).response = s.response := by
  simp only [State.receive]; (repeat' split) <;> simp
@[simp] theorem State.receive_subTime (b : List Byte) : (s.receive b).subTime = s.subTime := by
  simp only [State.receive]; (repeat' split) <;> simp
@[simp] theorem State.receive_pending (b : List Byte) : (s.receive b).pending = s.pending := by
  simp only [State.receive]; (repeat' split) <;> simp

@[simp] theorem State.endSlot_store : (s.endSlot).store = s.store := by
  simp only [State.endSlot]; (repeat' split) <;> simp
@[simp] theorem State.endSlot_grants : (s.endSlot).grants = s.grants := by
  simp only [State.endSlot]; (repeat' split) <;> simp
@[simp] theorem State.endSlot_aspects : (s.endSlot).aspects = s.aspects := by
  simp only [State.endSlot]; (repeat' split) <;> simp
@[simp] theorem State.endSlot_holds : (s.endSlot).holds = s.holds := by
  simp only [State.endSlot]; (repeat' split) <;> simp
@[simp] theorem State.endSlot_response : (s.endSlot).response = s.response := by
  simp only [State.endSlot]; (repeat' split) <;> simp
@[simp] theorem State.endSlot_subTime : (s.endSlot).subTime = s.subTime := by
  simp only [State.endSlot]; (repeat' split) <;> simp
@[simp] theorem State.endSlot_pending : (s.endSlot).pending = s.pending := by
  simp only [State.endSlot]; (repeat' split) <;> simp

@[simp] theorem State.transferLink_store (i : Station) (new : StationProfile) : (s.transferLink i new).store = s.store := by
  simp only [State.transferLink]; (repeat' split) <;> simp
@[simp] theorem State.transferLink_grants (i : Station) (new : StationProfile) : (s.transferLink i new).grants = s.grants := by
  simp only [State.transferLink]; (repeat' split) <;> simp
@[simp] theorem State.transferLink_aspects (i : Station) (new : StationProfile) : (s.transferLink i new).aspects = s.aspects := by
  simp only [State.transferLink]; (repeat' split) <;> simp
@[simp] theorem State.transferLink_holds (i : Station) (new : StationProfile) : (s.transferLink i new).holds = s.holds := by
  simp only [State.transferLink]; (repeat' split) <;> simp
@[simp] theorem State.transferLink_response (i : Station) (new : StationProfile) : (s.transferLink i new).response = s.response := by
  simp only [State.transferLink]; (repeat' split) <;> simp
@[simp] theorem State.transferLink_subTime (i : Station) (new : StationProfile) : (s.transferLink i new).subTime = s.subTime := by
  simp only [State.transferLink]; (repeat' split) <;> simp
@[simp] theorem State.transferLink_pending (i : Station) (new : StationProfile) : (s.transferLink i new).pending = s.pending := by
  simp only [State.transferLink]; (repeat' split) <;> simp

@[simp] theorem State.transferStation_grants (i : Station) (new : StationProfile) : (s.transferStation i new).grants = s.grants := by
  simp only [State.transferStation]; (repeat' split) <;> simp
@[simp] theorem State.transferStation_aspects (i : Station) (new : StationProfile) : (s.transferStation i new).aspects = s.aspects := by
  simp only [State.transferStation]; (repeat' split) <;> simp
@[simp] theorem State.transferStation_holds (i : Station) (new : StationProfile) : (s.transferStation i new).holds = s.holds := by
  simp only [State.transferStation]; (repeat' split) <;> simp
@[simp] theorem State.transferStation_response (i : Station) (new : StationProfile) : (s.transferStation i new).response = s.response := by
  simp only [State.transferStation]; (repeat' split) <;> simp
@[simp] theorem State.transferStation_subTime (i : Station) (new : StationProfile) : (s.transferStation i new).subTime = s.subTime := by
  simp only [State.transferStation]; (repeat' split) <;> simp
@[simp] theorem State.transferStation_pending (i : Station) (new : StationProfile) : (s.transferStation i new).pending = s.pending := by
  simp only [State.transferStation]; (repeat' split) <;> simp

@[simp] theorem State.testStation_grants (i : Station) : (s.testStation i).grants = s.grants := by
  simp only [State.testStation]; (repeat' split) <;> simp
@[simp] theorem State.testStation_aspects (i : Station) : (s.testStation i).aspects = s.aspects := by
  simp only [State.testStation]; (repeat' split) <;> simp
@[simp] theorem State.testStation_holds (i : Station) : (s.testStation i).holds = s.holds := by
  simp only [State.testStation]; (repeat' split) <;> simp
@[simp] theorem State.testStation_response (i : Station) : (s.testStation i).response = s.response := by
  simp only [State.testStation]; (repeat' split) <;> simp
@[simp] theorem State.testStation_subTime (i : Station) : (s.testStation i).subTime = s.subTime := by
  simp only [State.testStation]; (repeat' split) <;> simp
@[simp] theorem State.testStation_pending (i : Station) : (s.testStation i).pending = s.pending := by
  simp only [State.testStation]; (repeat' split) <;> simp

@[simp] theorem State.fitStation_store (n : Nat) (i : Station) : (State.fitStation n s i).store = s.store := by
  simp only [State.fitStation]; (repeat' split) <;> simp
@[simp] theorem State.fitStation_grants (n : Nat) (i : Station) : (State.fitStation n s i).grants = s.grants := by
  simp only [State.fitStation]; (repeat' split) <;> simp
@[simp] theorem State.fitStation_aspects (n : Nat) (i : Station) : (State.fitStation n s i).aspects = s.aspects := by
  simp only [State.fitStation]; (repeat' split) <;> simp
@[simp] theorem State.fitStation_holds (n : Nat) (i : Station) : (State.fitStation n s i).holds = s.holds := by
  simp only [State.fitStation]; (repeat' split) <;> simp
@[simp] theorem State.fitStation_response (n : Nat) (i : Station) : (State.fitStation n s i).response = s.response := by
  simp only [State.fitStation]; (repeat' split) <;> simp
@[simp] theorem State.fitStation_subTime (n : Nat) (i : Station) : (State.fitStation n s i).subTime = s.subTime := by
  simp only [State.fitStation]; (repeat' split) <;> simp
@[simp] theorem State.fitStation_pending (n : Nat) (i : Station) : (State.fitStation n s i).pending = s.pending := by
  simp only [State.fitStation]; (repeat' split) <;> simp

@[simp] theorem State.applyLength_grants : (s.applyLength).grants = s.grants := by
  simp only [State.applyLength]; (repeat' split) <;> simp [foldl_keeps State.grants _ (fun s i => State.fitStation_grants s _ i)]
@[simp] theorem State.applyLength_aspects : (s.applyLength).aspects = s.aspects := by
  simp only [State.applyLength]; (repeat' split) <;> simp [foldl_keeps State.aspects _ (fun s i => State.fitStation_aspects s _ i)]
@[simp] theorem State.applyLength_holds : (s.applyLength).holds = s.holds := by
  simp only [State.applyLength]; (repeat' split) <;> simp [foldl_keeps State.holds _ (fun s i => State.fitStation_holds s _ i)]
@[simp] theorem State.applyLength_response : (s.applyLength).response = s.response := by
  simp only [State.applyLength]; (repeat' split) <;> simp [foldl_keeps State.response _ (fun s i => State.fitStation_response s _ i)]
@[simp] theorem State.applyLength_subTime : (s.applyLength).subTime = s.subTime := by
  simp only [State.applyLength]; (repeat' split) <;> simp [foldl_keeps State.subTime _ (fun s i => State.fitStation_subTime s _ i)]
@[simp] theorem State.applyLength_pending : (s.applyLength).pending = s.pending := by
  simp only [State.applyLength]; (repeat' split) <;> simp [foldl_keeps State.pending _ (fun s i => State.fitStation_pending s _ i)]

@[simp] theorem State.sendSlotZero_store : (s.sendSlotZero).store = s.store := by
  simp [State.sendSlotZero]
@[simp] theorem State.sendSlotZero_press : (s.sendSlotZero).press = s.press := by
  simp [State.sendSlotZero]
@[simp] theorem State.sendSlotZero_table : (s.sendSlotZero).table = s.table := by
  simp [State.sendSlotZero]
@[simp] theorem State.sendSlotZero_grants : (s.sendSlotZero).grants = s.grants := by
  simp [State.sendSlotZero]
@[simp] theorem State.sendSlotZero_aspects : (s.sendSlotZero).aspects = s.aspects := by
  simp [State.sendSlotZero]
@[simp] theorem State.sendSlotZero_holds : (s.sendSlotZero).holds = s.holds := by
  simp [State.sendSlotZero]
@[simp] theorem State.sendSlotZero_levels : (s.sendSlotZero).levels = s.levels := by
  simp [State.sendSlotZero]
@[simp] theorem State.sendSlotZero_response : (s.sendSlotZero).response = s.response := by
  simp [State.sendSlotZero]
@[simp] theorem State.sendSlotZero_subTime : (s.sendSlotZero).subTime = s.subTime := by
  simp [State.sendSlotZero]
@[simp] theorem State.sendSlotZero_pending : (s.sendSlotZero).pending = s.pending := by
  simp [State.sendSlotZero]

@[simp] theorem State.startFrame_grants : (s.startFrame).grants = s.grants := by
  simp [State.startFrame, foldl_keeps State.grants _ (fun s i => State.testStation_grants s i)]
@[simp] theorem State.startFrame_aspects : (s.startFrame).aspects = s.aspects := by
  simp [State.startFrame, foldl_keeps State.aspects _ (fun s i => State.testStation_aspects s i)]
@[simp] theorem State.startFrame_holds : (s.startFrame).holds = s.holds := by
  simp [State.startFrame, foldl_keeps State.holds _ (fun s i => State.testStation_holds s i)]
@[simp] theorem State.startFrame_response : (s.startFrame).response = s.response := by
  simp [State.startFrame, foldl_keeps State.response _ (fun s i => State.testStation_response s i)]
@[simp] theorem State.startFrame_subTime : (s.startFrame).subTime = s.subTime := by
  simp [State.startFrame, foldl_keeps State.subTime _ (fun s i => State.testStation_subTime s i)]
@[simp] theorem State.startFrame_pending : (s.startFrame).pending = s.pending := by
  simp [State.startFrame, foldl_keeps State.pending _ (fun s i => State.testStation_pending s i)]

@[simp] theorem State.leaveAllCues_store : s.leaveAllCues.store = s.store := by
  simp [State.leaveAllCues]
@[simp] theorem State.leaveAllCues_grants : s.leaveAllCues.grants = s.grants := by
  simp [State.leaveAllCues]
@[simp] theorem State.leaveAllCues_aspects : s.leaveAllCues.aspects = s.aspects := by
  simp [State.leaveAllCues]
@[simp] theorem State.leaveAllCues_holds : s.leaveAllCues.holds = s.holds := by
  simp [State.leaveAllCues]
@[simp] theorem State.leaveAllCues_response : s.leaveAllCues.response = s.response := by
  simp [State.leaveAllCues]
@[simp] theorem State.leaveAllCues_subTime : s.leaveAllCues.subTime = s.subTime := by
  simp [State.leaveAllCues]
@[simp] theorem State.leaveAllCues_pending : s.leaveAllCues.pending = s.pending := by
  simp [State.leaveAllCues]
@[simp] theorem State.leaveAllCues_bus : s.leaveAllCues.bus = s.bus := by
  simp [State.leaveAllCues]
@[simp] theorem State.leaveAllCues_press : s.leaveAllCues.press = s.press := by
  simp [State.leaveAllCues]
@[simp] theorem State.leaveAllCues_table : s.leaveAllCues.table = s.table := by
  simp [State.leaveAllCues]
@[simp] theorem State.leaveAllCues_levels : s.leaveAllCues.levels = s.levels := by
  simp [State.leaveAllCues]
@[simp] theorem State.leaveAllCues_cues :
    s.leaveAllCues.cues = s.cues.leaveAll s.store (members fun i : Station => decide (s.linkState i = .active)) := by
  simp [State.leaveAllCues]
@[simp] theorem State.sectionStation_cues (i : Station) : (s.sectionStation i).cues = s.cues := by
  simp only [State.sectionStation]; (repeat' split) <;> simp

@[simp] theorem State.sectionStation_store (i : Station) : (s.sectionStation i).store = s.store := by
  simp only [State.sectionStation]; (repeat' split) <;> simp
@[simp] theorem State.sectionStation_grants (i : Station) : (s.sectionStation i).grants = s.grants := by
  simp only [State.sectionStation]; (repeat' split) <;> simp
@[simp] theorem State.sectionStation_aspects (i : Station) : (s.sectionStation i).aspects = s.aspects := by
  simp only [State.sectionStation]; (repeat' split) <;> simp
@[simp] theorem State.sectionStation_holds (i : Station) : (s.sectionStation i).holds = s.holds := by
  simp only [State.sectionStation]; (repeat' split) <;> simp
@[simp] theorem State.sectionStation_response (i : Station) : (s.sectionStation i).response = s.response := by
  simp only [State.sectionStation]; (repeat' split) <;> simp
@[simp] theorem State.sectionStation_subTime (i : Station) : (s.sectionStation i).subTime = s.subTime := by
  simp only [State.sectionStation]; (repeat' split) <;> simp
@[simp] theorem State.sectionStation_pending (i : Station) : (s.sectionStation i).pending = s.pending := by
  simp only [State.sectionStation]; (repeat' split) <;> simp

@[simp] theorem State.sectionReset_grants : (s.sectionReset).grants = s.grants := by
  simp [State.sectionReset, foldl_keeps State.grants _ (fun s i => State.sectionStation_grants s i)]
@[simp] theorem State.sectionReset_aspects : (s.sectionReset).aspects = s.aspects := by
  simp [State.sectionReset, foldl_keeps State.aspects _ (fun s i => State.sectionStation_aspects s i)]
@[simp] theorem State.sectionReset_holds : (s.sectionReset).holds = s.holds := by
  simp [State.sectionReset, foldl_keeps State.holds _ (fun s i => State.sectionStation_holds s i)]
@[simp] theorem State.sectionReset_response : (s.sectionReset).response = s.response := by
  simp [State.sectionReset, foldl_keeps State.response _ (fun s i => State.sectionStation_response s i)]
@[simp] theorem State.sectionReset_subTime : (s.sectionReset).subTime = s.subTime := by
  simp [State.sectionReset, foldl_keeps State.subTime _ (fun s i => State.sectionStation_subTime s i)]
@[simp] theorem State.sectionReset_pending : (s.sectionReset).pending = s.pending := by
  simp [State.sectionReset, foldl_keeps State.pending _ (fun s i => State.sectionStation_pending s i)]

end Sys2Proof.Machine
end

