-- ==== Sys2Proof/Laws/FramesRequests.lean ====
section
/-! SUPPORT. Which blocks each shared operation leaves as they stand: reads, requests, writes and corner events. -/

namespace Sys2Proof.Machine

variable (s : State)

@[simp] theorem State.clearCrossingNotices_store (c : Crossing) : (s.clearCrossingNotices c).store = s.store := by
  simp [State.clearCrossingNotices]
@[simp] theorem State.clearCrossingNotices_bus (c : Crossing) : (s.clearCrossingNotices c).bus = s.bus := by
  simp [State.clearCrossingNotices]
@[simp] theorem State.clearCrossingNotices_press (c : Crossing) : (s.clearCrossingNotices c).press = s.press := by
  simp [State.clearCrossingNotices]
@[simp] theorem State.clearCrossingNotices_table (c : Crossing) : (s.clearCrossingNotices c).table = s.table := by
  simp [State.clearCrossingNotices]
@[simp] theorem State.clearCrossingNotices_holds (c : Crossing) : (s.clearCrossingNotices c).holds = s.holds := by
  simp [State.clearCrossingNotices]
@[simp] theorem State.clearCrossingNotices_cues (c : Crossing) : (s.clearCrossingNotices c).cues = s.cues := by
  simp [State.clearCrossingNotices]
@[simp] theorem State.clearCrossingNotices_levels (c : Crossing) : (s.clearCrossingNotices c).levels = s.levels := by
  simp [State.clearCrossingNotices]
@[simp] theorem State.clearCrossingNotices_response (c : Crossing) : (s.clearCrossingNotices c).response = s.response := by
  simp [State.clearCrossingNotices]
@[simp] theorem State.clearCrossingNotices_subTime (c : Crossing) : (s.clearCrossingNotices c).subTime = s.subTime := by
  simp [State.clearCrossingNotices]
@[simp] theorem State.clearCrossingNotices_pending (c : Crossing) : (s.clearCrossingNotices c).pending = s.pending := by
  simp [State.clearCrossingNotices]

@[simp] theorem State.clearStationNotices_store (i : Station) : (s.clearStationNotices i).store = s.store := by
  simp [State.clearStationNotices]
@[simp] theorem State.clearStationNotices_table (i : Station) : (s.clearStationNotices i).table = s.table := by
  simp [State.clearStationNotices]
@[simp] theorem State.clearStationNotices_grants (i : Station) : (s.clearStationNotices i).grants = s.grants := by
  simp [State.clearStationNotices]
@[simp] theorem State.clearStationNotices_aspects (i : Station) : (s.clearStationNotices i).aspects = s.aspects := by
  simp [State.clearStationNotices]
@[simp] theorem State.clearStationNotices_holds (i : Station) : (s.clearStationNotices i).holds = s.holds := by
  simp [State.clearStationNotices]
@[simp] theorem State.clearStationNotices_cues (i : Station) : (s.clearStationNotices i).cues = s.cues := by
  simp [State.clearStationNotices]
@[simp] theorem State.clearStationNotices_levels (i : Station) : (s.clearStationNotices i).levels = s.levels := by
  simp [State.clearStationNotices]
@[simp] theorem State.clearStationNotices_response (i : Station) : (s.clearStationNotices i).response = s.response := by
  simp [State.clearStationNotices]
@[simp] theorem State.clearStationNotices_subTime (i : Station) : (s.clearStationNotices i).subTime = s.subTime := by
  simp [State.clearStationNotices]
@[simp] theorem State.clearStationNotices_pending (i : Station) : (s.clearStationNotices i).pending = s.pending := by
  simp [State.clearStationNotices]

@[simp] theorem State.setMode_bus (m : StreetMode) : (s.setMode m).bus = s.bus := by
  simp only [State.setMode]; (repeat' split) <;> simp
@[simp] theorem State.setMode_press (m : StreetMode) : (s.setMode m).press = s.press := by
  simp only [State.setMode]; (repeat' split) <;> simp
@[simp] theorem State.setMode_table (m : StreetMode) : (s.setMode m).table = s.table := by
  simp only [State.setMode]; (repeat' split) <;> simp
@[simp] theorem State.setMode_grants (m : StreetMode) : (s.setMode m).grants = s.grants := by
  simp only [State.setMode]; (repeat' split) <;> simp
@[simp] theorem State.setMode_aspects (m : StreetMode) : (s.setMode m).aspects = s.aspects := by
  simp only [State.setMode]; (repeat' split) <;> simp
@[simp] theorem State.setMode_holds (m : StreetMode) : (s.setMode m).holds = s.holds := by
  simp only [State.setMode]; (repeat' split) <;> simp
@[simp] theorem State.setMode_cues (m : StreetMode) : (s.setMode m).cues = s.cues := by
  simp only [State.setMode]; (repeat' split) <;> simp
@[simp] theorem State.setMode_response (m : StreetMode) : (s.setMode m).response = s.response := by
  simp only [State.setMode]; (repeat' split) <;> simp
@[simp] theorem State.setMode_subTime (m : StreetMode) : (s.setMode m).subTime = s.subTime := by
  simp only [State.setMode]; (repeat' split) <;> simp
@[simp] theorem State.setMode_pending (m : StreetMode) : (s.setMode m).pending = s.pending := by
  simp only [State.setMode]; (repeat' split) <;> simp

@[simp] theorem State.limitReached_store (c : Crossing) : (s.limitReached c).store = s.store := by
  simp only [State.limitReached]; (repeat' split) <;> simp
@[simp] theorem State.limitReached_bus (c : Crossing) : (s.limitReached c).bus = s.bus := by
  simp only [State.limitReached]; (repeat' split) <;> simp
@[simp] theorem State.limitReached_press (c : Crossing) : (s.limitReached c).press = s.press := by
  simp only [State.limitReached]; (repeat' split) <;> simp
@[simp] theorem State.limitReached_holds (c : Crossing) : (s.limitReached c).holds = s.holds := by
  simp only [State.limitReached]; (repeat' split) <;> simp
@[simp] theorem State.limitReached_cues (c : Crossing) : (s.limitReached c).cues = s.cues := by
  simp only [State.limitReached]; (repeat' split) <;> simp
@[simp] theorem State.limitReached_levels (c : Crossing) : (s.limitReached c).levels = s.levels := by
  simp only [State.limitReached]; (repeat' split) <;> simp
@[simp] theorem State.limitReached_response (c : Crossing) : (s.limitReached c).response = s.response := by
  simp only [State.limitReached]; (repeat' split) <;> simp
@[simp] theorem State.limitReached_subTime (c : Crossing) : (s.limitReached c).subTime = s.subTime := by
  simp only [State.limitReached]; (repeat' split) <;> simp
@[simp] theorem State.limitReached_pending (c : Crossing) : (s.limitReached c).pending = s.pending := by
  simp only [State.limitReached]; (repeat' split) <;> simp

@[simp] theorem State.transferCorner_bus (k : Corner) : (s.transferCorner k).bus = s.bus := by
  simp [State.transferCorner]
@[simp] theorem State.transferCorner_press (k : Corner) : (s.transferCorner k).press = s.press := by
  simp [State.transferCorner]
@[simp] theorem State.transferCorner_table (k : Corner) : (s.transferCorner k).table = s.table := by
  simp [State.transferCorner]
@[simp] theorem State.transferCorner_grants (k : Corner) : (s.transferCorner k).grants = s.grants := by
  simp [State.transferCorner]
@[simp] theorem State.transferCorner_aspects (k : Corner) : (s.transferCorner k).aspects = s.aspects := by
  simp [State.transferCorner]
@[simp] theorem State.transferCorner_holds (k : Corner) : (s.transferCorner k).holds = s.holds := by
  simp [State.transferCorner]
@[simp] theorem State.transferCorner_cues (k : Corner) : (s.transferCorner k).cues = s.cues := by
  simp [State.transferCorner]
@[simp] theorem State.transferCorner_levels (k : Corner) : (s.transferCorner k).levels = s.levels := by
  simp [State.transferCorner]
@[simp] theorem State.transferCorner_response (k : Corner) : (s.transferCorner k).response = s.response := by
  simp [State.transferCorner]
@[simp] theorem State.transferCorner_subTime (k : Corner) : (s.transferCorner k).subTime = s.subTime := by
  simp [State.transferCorner]
@[simp] theorem State.transferCorner_pending (k : Corner) : (s.transferCorner k).pending = s.pending := by
  simp [State.transferCorner]

@[simp] theorem State.slewCorner_store (k : Corner) : (s.slewCorner k).store = s.store := by
  simp [State.slewCorner]
@[simp] theorem State.slewCorner_bus (k : Corner) : (s.slewCorner k).bus = s.bus := by
  simp [State.slewCorner]
@[simp] theorem State.slewCorner_press (k : Corner) : (s.slewCorner k).press = s.press := by
  simp [State.slewCorner]
@[simp] theorem State.slewCorner_table (k : Corner) : (s.slewCorner k).table = s.table := by
  simp [State.slewCorner]
@[simp] theorem State.slewCorner_grants (k : Corner) : (s.slewCorner k).grants = s.grants := by
  simp [State.slewCorner]
@[simp] theorem State.slewCorner_aspects (k : Corner) : (s.slewCorner k).aspects = s.aspects := by
  simp [State.slewCorner]
@[simp] theorem State.slewCorner_holds (k : Corner) : (s.slewCorner k).holds = s.holds := by
  simp [State.slewCorner]
@[simp] theorem State.slewCorner_cues (k : Corner) : (s.slewCorner k).cues = s.cues := by
  simp [State.slewCorner]
@[simp] theorem State.slewCorner_response (k : Corner) : (s.slewCorner k).response = s.response := by
  simp [State.slewCorner]
@[simp] theorem State.slewCorner_subTime (k : Corner) : (s.slewCorner k).subTime = s.subTime := by
  simp [State.slewCorner]
@[simp] theorem State.slewCorner_pending (k : Corner) : (s.slewCorner k).pending = s.pending := by
  simp [State.slewCorner]

@[simp] theorem State.startPeriod_bus (k : Corner) : (s.startPeriod k).bus = s.bus := by
  simp [State.startPeriod]
@[simp] theorem State.startPeriod_press (k : Corner) : (s.startPeriod k).press = s.press := by
  simp [State.startPeriod]
@[simp] theorem State.startPeriod_table (k : Corner) : (s.startPeriod k).table = s.table := by
  simp [State.startPeriod]
@[simp] theorem State.startPeriod_grants (k : Corner) : (s.startPeriod k).grants = s.grants := by
  simp [State.startPeriod]
@[simp] theorem State.startPeriod_aspects (k : Corner) : (s.startPeriod k).aspects = s.aspects := by
  simp [State.startPeriod]
@[simp] theorem State.startPeriod_holds (k : Corner) : (s.startPeriod k).holds = s.holds := by
  simp [State.startPeriod]
@[simp] theorem State.startPeriod_response (k : Corner) : (s.startPeriod k).response = s.response := by
  simp [State.startPeriod]
@[simp] theorem State.startPeriod_subTime (k : Corner) : (s.startPeriod k).subTime = s.subTime := by
  simp [State.startPeriod]
@[simp] theorem State.startPeriod_pending (k : Corner) : (s.startPeriod k).pending = s.pending := by
  simp [State.startPeriod]

@[simp] theorem State.grant_store (c : Crossing) (w : Nat) : (s.grant c w).store = s.store := by
  simp only [State.grant]; (repeat' split) <;> simp
@[simp] theorem State.grant_bus (c : Crossing) (w : Nat) : (s.grant c w).bus = s.bus := by
  simp only [State.grant]; (repeat' split) <;> simp
@[simp] theorem State.grant_press (c : Crossing) (w : Nat) : (s.grant c w).press = s.press := by
  simp only [State.grant]; (repeat' split) <;> simp
@[simp] theorem State.grant_grants (c : Crossing) (w : Nat) : (s.grant c w).grants = s.grants := by
  simp only [State.grant]; (repeat' split) <;> simp
@[simp] theorem State.grant_aspects (c : Crossing) (w : Nat) : (s.grant c w).aspects = s.aspects := by
  simp only [State.grant]; (repeat' split) <;> simp
@[simp] theorem State.grant_holds (c : Crossing) (w : Nat) : (s.grant c w).holds = s.holds := by
  simp only [State.grant]; (repeat' split) <;> simp
@[simp] theorem State.grant_levels (c : Crossing) (w : Nat) : (s.grant c w).levels = s.levels := by
  simp only [State.grant]; (repeat' split) <;> simp
@[simp] theorem State.grant_subTime (c : Crossing) (w : Nat) : (s.grant c w).subTime = s.subTime := by
  simp only [State.grant]; (repeat' split) <;> simp
@[simp] theorem State.grant_pending (c : Crossing) (w : Nat) : (s.grant c w).pending = s.pending := by
  simp only [State.grant]; (repeat' split) <;> simp

@[simp] theorem State.cancelWaiting_bus (c : Crossing) : (s.cancelWaiting c).bus = s.bus := by
  simp only [State.cancelWaiting]; (repeat' split) <;> simp
@[simp] theorem State.cancelWaiting_press (c : Crossing) : (s.cancelWaiting c).press = s.press := by
  simp only [State.cancelWaiting]; (repeat' split) <;> simp
@[simp] theorem State.cancelWaiting_levels (c : Crossing) : (s.cancelWaiting c).levels = s.levels := by
  simp only [State.cancelWaiting]; (repeat' split) <;> simp
@[simp] theorem State.cancelWaiting_subTime (c : Crossing) : (s.cancelWaiting c).subTime = s.subTime := by
  simp only [State.cancelWaiting]; (repeat' split) <;> simp
@[simp] theorem State.cancelWaiting_pending (c : Crossing) : (s.cancelWaiting c).pending = s.pending := by
  simp only [State.cancelWaiting]; (repeat' split) <;> simp

@[simp] theorem State.cancelServing_bus (c : Crossing) : (s.cancelServing c).bus = s.bus := by
  simp only [State.cancelServing]; (repeat' split) <;> simp
@[simp] theorem State.cancelServing_press (c : Crossing) : (s.cancelServing c).press = s.press := by
  simp only [State.cancelServing]; (repeat' split) <;> simp
@[simp] theorem State.cancelServing_levels (c : Crossing) : (s.cancelServing c).levels = s.levels := by
  simp only [State.cancelServing]; (repeat' split) <;> simp
@[simp] theorem State.cancelServing_subTime (c : Crossing) : (s.cancelServing c).subTime = s.subTime := by
  simp only [State.cancelServing]; (repeat' split) <;> simp
@[simp] theorem State.cancelServing_pending (c : Crossing) : (s.cancelServing c).pending = s.pending := by
  simp only [State.cancelServing]; (repeat' split) <;> simp

@[simp] theorem State.setHold_store (x : List Crossing) (n : Nat) : (s.setHold x n).store = s.store := by
  simp only [State.setHold]; (repeat' split) <;> simp
@[simp] theorem State.setHold_bus (x : List Crossing) (n : Nat) : (s.setHold x n).bus = s.bus := by
  simp only [State.setHold]; (repeat' split) <;> simp
@[simp] theorem State.setHold_press (x : List Crossing) (n : Nat) : (s.setHold x n).press = s.press := by
  simp only [State.setHold]; (repeat' split) <;> simp
@[simp] theorem State.setHold_table (x : List Crossing) (n : Nat) : (s.setHold x n).table = s.table := by
  simp only [State.setHold]; (repeat' split) <;> simp
@[simp] theorem State.setHold_grants (x : List Crossing) (n : Nat) : (s.setHold x n).grants = s.grants := by
  simp only [State.setHold]; (repeat' split) <;> simp
@[simp] theorem State.setHold_aspects (x : List Crossing) (n : Nat) : (s.setHold x n).aspects = s.aspects := by
  simp only [State.setHold]; (repeat' split) <;> simp
@[simp] theorem State.setHold_levels (x : List Crossing) (n : Nat) : (s.setHold x n).levels = s.levels := by
  simp only [State.setHold]; (repeat' split) <;> simp
@[simp] theorem State.setHold_subTime (x : List Crossing) (n : Nat) : (s.setHold x n).subTime = s.subTime := by
  simp only [State.setHold]; (repeat' split) <;> simp
@[simp] theorem State.setHold_pending (x : List Crossing) (n : Nat) : (s.setHold x n).pending = s.pending := by
  simp only [State.setHold]; (repeat' split) <;> simp

@[simp] theorem State.releaseHold_store (l : HoldLine) : (s.releaseHold l).store = s.store := by
  simp only [State.releaseHold]; (repeat' split) <;> simp
@[simp] theorem State.releaseHold_bus (l : HoldLine) : (s.releaseHold l).bus = s.bus := by
  simp only [State.releaseHold]; (repeat' split) <;> simp
@[simp] theorem State.releaseHold_press (l : HoldLine) : (s.releaseHold l).press = s.press := by
  simp only [State.releaseHold]; (repeat' split) <;> simp
@[simp] theorem State.releaseHold_table (l : HoldLine) : (s.releaseHold l).table = s.table := by
  simp only [State.releaseHold]; (repeat' split) <;> simp
@[simp] theorem State.releaseHold_grants (l : HoldLine) : (s.releaseHold l).grants = s.grants := by
  simp only [State.releaseHold]; (repeat' split) <;> simp
@[simp] theorem State.releaseHold_aspects (l : HoldLine) : (s.releaseHold l).aspects = s.aspects := by
  simp only [State.releaseHold]; (repeat' split) <;> simp
@[simp] theorem State.releaseHold_levels (l : HoldLine) : (s.releaseHold l).levels = s.levels := by
  simp only [State.releaseHold]; (repeat' split) <;> simp
@[simp] theorem State.releaseHold_subTime (l : HoldLine) : (s.releaseHold l).subTime = s.subTime := by
  simp only [State.releaseHold]; (repeat' split) <;> simp
@[simp] theorem State.releaseHold_pending (l : HoldLine) : (s.releaseHold l).pending = s.pending := by
  simp only [State.releaseHold]; (repeat' split) <;> simp

@[simp] theorem State.writeStreet_bus (x y : LineSettings) (n : Nat) : (s.writeStreet x y n).bus = s.bus := by
  simp [State.writeStreet]
@[simp] theorem State.writeStreet_press (x y : LineSettings) (n : Nat) : (s.writeStreet x y n).press = s.press := by
  simp [State.writeStreet]
@[simp] theorem State.writeStreet_table (x y : LineSettings) (n : Nat) : (s.writeStreet x y n).table = s.table := by
  simp [State.writeStreet]
@[simp] theorem State.writeStreet_grants (x y : LineSettings) (n : Nat) : (s.writeStreet x y n).grants = s.grants := by
  simp [State.writeStreet]
@[simp] theorem State.writeStreet_aspects (x y : LineSettings) (n : Nat) : (s.writeStreet x y n).aspects = s.aspects := by
  simp [State.writeStreet]
@[simp] theorem State.writeStreet_levels (x y : LineSettings) (n : Nat) : (s.writeStreet x y n).levels = s.levels := by
  simp [State.writeStreet]
@[simp] theorem State.writeStreet_subTime (x y : LineSettings) (n : Nat) : (s.writeStreet x y n).subTime = s.subTime := by
  simp [State.writeStreet]
@[simp] theorem State.writeStreet_pending (x y : LineSettings) (n : Nat) : (s.writeStreet x y n).pending = s.pending := by
  simp [State.writeStreet]

end Sys2Proof.Machine
end

