-- ==== Sys2Proof/Laws/Exec.lean ====
section
/-! SUPPORT. What a step can be, said once: the command at the front of the queue or the clock; and the one induction every law
of all steps goes through. -/

namespace Sys2Proof.Machine

theorem next_inj {s t : State} (h : (Host.Outcome.next s : Host.Outcome State Fault Refusal) = .next t) : s = t := by
  injection h

/-- A step runs the front command on the queue's rest, or idles on an empty queue. -/
theorem step_cases {s t : State} (h : step s = .next t) :
    (s.pending = [] ∧ t = s.idle) ∨
      ∃ i rest, s.pending = i :: rest ∧ exec i { s with pending := rest } = .next t := by
  unfold step at h
  split at h
  · exact .inl ⟨‹_›, (next_inj h).symm⟩
  · exact .inr ⟨_, _, ‹_›, h⟩

/-- The command is one of the requests and events other than REQUEST_FRAME_REFUSED. -/
def Plain (i : Instr) : Prop := ∀ f, i ≠ .requestFrameRefused f

/-- Dealing with a passing frame is dealing with its request, or nothing. -/
theorem dealRequest_cases (i : Instr) (s : State) : dealRequest i s = .next s ∨ (Plain i ∧ dealRequest i s = exec i s) := by
  cases i <;> simp [dealRequest, exec, Plain]

/-- A frame is answered alone, or dealt with as the plain command it spells. -/
theorem execRequestFrameRefused_cases (f : List Byte) (s : State) :
    (∃ x, execRequestFrameRefused f s = .next (s.answer x)) ∨ execRequestFrameRefused f s = .next s ∨
      ∃ i, Plain i ∧ execRequestFrameRefused f s = exec i s := by
  unfold execRequestFrameRefused
  split
  · exact .inl ⟨_, rfl⟩
  · exact .inl ⟨_, rfl⟩
  · rename_i i _
    rcases dealRequest_cases i s with h | ⟨hi, h⟩
    · exact .inr (.inl h)
    · exact .inr (.inr ⟨i, hi, h⟩)

/-- A law that the plain commands keep, and that an answer does not touch, is kept by every command. -/
theorem exec_keeps {P : State → Prop} (answer : ∀ s x, P s → P (s.answer x))
    (plain : ∀ i s t, Plain i → P s → exec i s = .next t → P t) (i : Instr) (s t : State) (hs : P s)
    (h : exec i s = .next t) : P t := by
  by_cases hi : Plain i
  · exact plain i s t hi hs h
  · simp only [Plain, not_forall, not_not] at hi
    obtain ⟨f, rfl⟩ := hi
    rcases execRequestFrameRefused_cases f s with ⟨x, hx⟩ | hx | ⟨i, hi, hx⟩
    · exact next_inj (hx.symm.trans h) ▸ answer s x hs
    · exact next_inj (hx.symm.trans h) ▸ hs
    · exact plain i s t hi hs (hx.symm.trans h)

/-- A law that the commands and the clock keep, and that the queue does not touch, is kept by every step. -/
theorem step_keeps {P : State → Prop} (queue : ∀ s l, P s → P { s with pending := l })
    (clock : ∀ s, P s → P s.passTime) (answer : ∀ s x, P s → P (s.answer x))
    (plain : ∀ i s t, Plain i → P s → exec i s = .next t → P t) (s t : State) (hs : P s)
    (h : step s = .next t) : P t := by
  rcases step_cases h with ⟨_, rfl⟩ | ⟨i, rest, _, hi⟩
  · unfold State.idle
    split
    · exact queue _ _ hs
    · exact queue _ _ (clock _ hs)
  · exact exec_keeps answer plain i _ t (queue _ _ hs) hi

end Sys2Proof.Machine
end

