-- ==== Sys2Proof/Laws/Holds.lean ====
section
/-! SUPPORT. What each Hold Unit operation does to the flags, the cycle waits and the software timer. -/

namespace Sys2Proof.Machine

variable (h : HoldUnit) (p : ProfileStore) (l : HoldLine)

@[simp] theorem HoldFlags.withLine_flag (f : HoldFlags) (x y : Bool) : (f.withLine l x y).flag l = x := by cases l <;> rfl
@[simp] theorem HoldFlags.withLine_wait (f : HoldFlags) (x y : Bool) : (f.withLine l x y).wait l = y := by cases l <;> rfl
theorem HoldFlags.withLine_flag_ne (f : HoldFlags) (x y : Bool) {m : HoldLine} (hm : m ≠ l) :
    (f.withLine l x y).flag m = f.flag m := by cases l <;> cases m <;> first | rfl | exact absurd rfl hm
theorem HoldFlags.withLine_wait_ne (f : HoldFlags) (x y : Bool) {m : HoldLine} (hm : m ≠ l) :
    (f.withLine l x y).wait m = f.wait m := by cases l <;> cases m <;> first | rfl | exact absurd rfl hm
@[simp] theorem HoldFlags.withLine_s (f : HoldFlags) (x y : Bool) : (f.withLine l x y).s = f.s := by cases l <;> rfl
@[simp] theorem HoldFlags.withS_flag (f : HoldFlags) (x : Bool) : ({ f with s := x } : HoldFlags).flag l = f.flag l := by
  cases l <;> rfl
@[simp] theorem HoldFlags.withS_wait (f : HoldFlags) (x : Bool) : ({ f with s := x } : HoldFlags).wait l = f.wait l := by
  cases l <;> rfl

/-- Which of the line's flags stand after an activation (R105). -/
theorem HoldUnit.activate_look (c : Crossing) : look (h.activate p l).flags c =
    (look h.flags c).withLine l ((look h.flags c).flag l || ((p.crossing c).enabled && (p.crossing c).responds l)) false := by
  simp [HoldUnit.activate]

theorem HoldUnit.clearLine_look (c : Crossing) : look (h.clearLine l).flags c = (look h.flags c).withLine l false false := by
  simp [HoldUnit.clearLine]

theorem HoldUnit.dropWaits_look (c : Crossing) :
    look (h.dropWaits l).flags c = (look h.flags c).withLine l ((look h.flags c).flag l) false := by
  simp [HoldUnit.dropWaits]

theorem HoldUnit.cycleRelease_look (a : Vector AspectState 24) (c : Crossing) : look (h.cycleRelease a l).flags c =
    if (look h.flags c).flag l = true then
      (if (look a c).observed.isQuiet = true then (look h.flags c).withLine l false false
       else (look h.flags c).withLine l true true)
    else look h.flags c := by
  simp [HoldUnit.cycleRelease]

theorem HoldUnit.startSoftware_look (set : List Crossing) (n : Nat) (c : Crossing) :
    look (h.startSoftware set n).flags c = { look h.flags c with s := set.contains c } := by
  simp [HoldUnit.startSoftware]

theorem HoldUnit.stopSoftware_look (c : Crossing) : look h.stopSoftware.flags c = { look h.flags c with s := false } := by
  simp [HoldUnit.stopSoftware]

theorem State.completeWaits_look (s : State) (c d : Crossing) : look (s.completeWaits c).holds.flags d =
    if d = c then (look s.holds.flags d).completeWaits else look s.holds.flags d := by
  simp [State.completeWaits, look_change]

@[simp] theorem HoldUnit.activate_timer : (h.activate p l).timer = h.timer := by
  simp only [HoldUnit.activate]
@[simp] theorem HoldUnit.activate_sensed (m : HoldLine) : (h.activate p l).sensed m = h.sensed m := by
  cases m <;> simp only [HoldUnit.activate, HoldUnit.sensed]
@[simp] theorem HoldUnit.clearLine_timer : (h.clearLine l).timer = h.timer := by
  simp only [HoldUnit.clearLine]
@[simp] theorem HoldUnit.clearLine_sensed (m : HoldLine) : (h.clearLine l).sensed m = h.sensed m := by
  cases m <;> simp only [HoldUnit.clearLine, HoldUnit.sensed]
@[simp] theorem HoldUnit.dropWaits_timer : (h.dropWaits l).timer = h.timer := by
  simp only [HoldUnit.dropWaits]
@[simp] theorem HoldUnit.dropWaits_sensed (m : HoldLine) : (h.dropWaits l).sensed m = h.sensed m := by
  cases m <;> simp only [HoldUnit.dropWaits, HoldUnit.sensed]
@[simp] theorem HoldUnit.cycleRelease_timer (a : Vector AspectState 24) : (h.cycleRelease a l).timer = h.timer := by
  simp only [HoldUnit.cycleRelease]
@[simp] theorem HoldUnit.cycleRelease_sensed (a : Vector AspectState 24) (m : HoldLine) :
    (h.cycleRelease a l).sensed m = h.sensed m := by
  cases m <;> simp only [HoldUnit.cycleRelease, HoldUnit.sensed]
@[simp] theorem HoldUnit.sense_timer (x : Level) : (h.sense l x).timer = h.timer := by cases l <;> rfl
@[simp] theorem HoldUnit.sense_flags (x : Level) : (h.sense l x).flags = h.flags := by cases l <;> rfl
@[simp] theorem HoldUnit.sense_sensed (x : Level) : (h.sense l x).sensed l = x := by cases l <;> rfl
theorem HoldUnit.sense_sensed_ne (x : Level) {m : HoldLine} (hm : m ≠ l) : (h.sense l x).sensed m = h.sensed m := by
  cases l <;> cases m <;> first | rfl | exact absurd rfl hm
@[simp] theorem HoldUnit.lapseExpiry_flags : h.lapseExpiry.flags = h.flags := rfl
@[simp] theorem HoldUnit.lapseExpiry_timer : h.lapseExpiry.timer = h.timer := rfl
@[simp] theorem HoldUnit.lapseExpiry_softwareSet : h.lapseExpiry.softwareSet = h.softwareSet := rfl
@[simp] theorem HoldUnit.lapseExpiry_levelA : h.lapseExpiry.levelA = h.levelA := rfl
@[simp] theorem HoldUnit.lapseExpiry_levelB : h.lapseExpiry.levelB = h.levelB := rfl
@[simp] theorem HoldUnit.lapseExpiry_sensed (m : HoldLine) : h.lapseExpiry.sensed m = h.sensed m := by cases m <;> rfl
@[simp] theorem HoldUnit.startSoftware_expiryLapsed (set : List Crossing) (n : Nat) :
    (h.startSoftware set n).expiryLapsed = h.expiryLapsed := by simp only [HoldUnit.startSoftware]
@[simp] theorem HoldUnit.stopSoftware_expiryLapsed : h.stopSoftware.expiryLapsed = h.expiryLapsed := by simp only [HoldUnit.stopSoftware]
@[simp] theorem HoldUnit.startSoftware_sensed (set : List Crossing) (n : Nat) (m : HoldLine) :
    (h.startSoftware set n).sensed m = h.sensed m := by
  cases m <;> simp only [HoldUnit.startSoftware, HoldUnit.sensed]
@[simp] theorem HoldUnit.stopSoftware_sensed (m : HoldLine) : h.stopSoftware.sensed m = h.sensed m := by
  cases m <;> simp only [HoldUnit.stopSoftware, HoldUnit.sensed]
@[simp] theorem HoldUnit.goInactive_timer (a : Vector AspectState 24) (x : ReleaseMode) :
    (h.goInactive a x l).timer = h.timer := by
  cases x <;> simp [HoldUnit.goInactive]
@[simp] theorem HoldUnit.goInactive_sensed (a : Vector AspectState 24) (x : ReleaseMode) (m : HoldLine) :
    (h.goInactive a x l).sensed m = h.sensed m := by
  cases x <;> simp [HoldUnit.goInactive]
@[simp] theorem HoldUnit.newMode_timer (a : Vector AspectState 24) (x : ReleaseMode) :
    (h.newMode a x l).timer = h.timer := by
  cases x <;> simp [HoldUnit.newMode]
@[simp] theorem HoldUnit.newMode_sensed (a : Vector AspectState 24) (x : ReleaseMode) (m : HoldLine) :
    (h.newMode a x l).sensed m = h.sensed m := by
  cases x <;> simp [HoldUnit.newMode]

variable (s : State)

@[simp] theorem State.changeLevel_timer (x : Level) : (s.changeLevel l x).holds.timer = s.holds.timer := by
  simp only [State.changeLevel]; (repeat' split) <;> simp
@[simp] theorem State.applyLine_timer (q : ProfileStore) : (s.applyLine q l).holds.timer = s.holds.timer := by
  simp only [State.applyLine]; (repeat' split) <;> simp
@[simp] theorem State.senseLines_timer : s.senseLines.holds.timer = s.holds.timer := by
  simp only [State.senseLines]; (repeat' split) <;> simp
@[simp] theorem State.completeWaits_timer (c : Crossing) : (s.completeWaits c).holds.timer = s.holds.timer := by simp [State.completeWaits]
@[simp] theorem State.declare_timer (c : Crossing) (a : Aspect) : (s.declare c a).holds.timer = s.holds.timer := by
  simp only [State.declare]; (repeat' split) <;> simp
@[simp] theorem State.retest_timer (c : Crossing) : (s.retest c).holds.timer = s.holds.timer := by
  simp only [State.retest]; (repeat' split) <;> simp
@[simp] theorem State.transferCrossing_timer (c : Crossing) (new : CrossingProfile) :
    (s.transferCrossing c new).holds.timer = s.holds.timer := by
  simp only [State.transferCrossing]; (repeat' split) <;> simp
@[simp] theorem State.testTransfer_timer (c : Crossing) : (s.testTransfer c).holds.timer = s.holds.timer := by
  simp only [State.testTransfer]; (repeat' split) <;> simp
@[simp] theorem State.settleCrossing_timer (c : Crossing) : (s.settleCrossing c).holds.timer = s.holds.timer := by
  simp [State.settleCrossing]

end Sys2Proof.Machine
end

