-- ==== Sys2Proof/WellFormed.lean ====
section
/-! DEFINITION. The checks on commands. Every request operand is a byte or a field of bytes, and the part itself checks
it (R178); the part's own events name a crossing, station or corner that exists, by their types. Two operands
need a check. -/

namespace Sys2Proof

/-- A frame that fails a check of R177. -/
def frameFails (frame : List Byte) : Bool :=
  match decodeFrame frame with
  | .ok _ => false
  | .error _ => true

/-- A command as the table means it: the frame of REQUEST_FRAME_REFUSED fails a check of R177, and a report has
12 bytes (R163). -/
def WellFormed (i : Instr) : Bool :=
  match i with
  | .partReset => true
  | .streetTimeTick => true
  | .requestFrameRefused frame => frameFails frame
  | .noRequest => true
  | .identify => true
  | .readSummary => true
  | .readCalls _ => true
  | .readCrossing _ => true
  | .readStation _ => true
  | .readCorner _ => true
  | .grant _ _ => true
  | .cancel _ _ => true
  | .clearFault _ => true
  | .setHold _ _ => true
  | .releaseLineHold _ => true
  | .setStreetMode _ => true
  | .writeCrossing _ _ => true
  | .writeStation _ _ => true
  | .writeCorner _ _ => true
  | .writeStreet _ _ _ _ _ => true
  | .restartStationBus => true
  | .reset => true
  | .frameStart => true
  | .stationTransfer _ => true
  | .stationSlot _ => true
  | .stationReport bytes => bytes.length == 12
  | .missedSlot => true
  | .lampLineChange _ _ _ => true
  | .steadyTimeReached _ _ _ => true
  | .undecodableLimit _ => true
  | .memoAllocation => true
  | .crossingTransfer _ => true
  | .grantWindowExpiry _ => true
  | .holdLineChange _ _ => true
  | .cycleWaitComplete _ => true
  | .softwareHoldExpiry => true
  | .periodStart _ => true
  | .cornerTransfer _ => true
  | .samplePoint _ => true
  | .speechStart _ => true
  | .playLimit _ => true
  | .gapEnd _ => true

end Sys2Proof
end

