-- ==== Sys2Proof/Tests/Slice0.lean ====
section
/-! SUPPORT. Tests. Expected values are the spec's own figures, or worked by hand from its rules; the rule is named with each test. The
second part shows, for each statement with hypotheses, a concrete state and operands that meet them, clause by clause. -/

namespace Sys2Proof.Tests

open Sys2Proof Sys2Proof.Machine

set_option maxRecDepth 16384

/-! ## Small states -/

/-- The next state of an outcome, or the reset state. -/
def after (o : Host.Outcome State Fault Refusal) : State :=
  match o with
  | .next t => t
  | .fault _ => State.reset
  | .refused _ => State.reset

/-- A call of crossing c by station 0. -/
def call (c : Crossing) (x : CallState) : CallRecord :=
  { crossing := c, state := x, origin := .press, kind := .standard, stations := [⟨2 * c.val, by omega⟩], pressCount := 1,
    registeredAt := 0, clearance := 100, extension := 0, seen := false }

/-- Crossing 0 has a call at place 0. -/
def calling (x : CallState) (s : State) : State := s.onTable fun t => t.fill 0 (call 0 x)

/-- Crossing 0 shows an aspect. -/
def showing (a : Aspect) (s : State) : State := s.onAspect 0 fun x => { x with observed := a }

/-- Crossing 0 is FAULTED. -/
def faulted (s : State) : State := s.onAspect 0 fun x => { x with fault := some .lampsDark }

/-- Crossing 0 with another active copy. -/
def crossing0 (f : CrossingProfile → CrossingProfile) (s : State) : State :=
  s.onStore fun p => { p with crossings := change p.crossings 0 fun x => { x with active := f x.active } }

/-- Crossing 0 with a pending copy. -/
def pending0 (f : CrossingProfile → CrossingProfile) (s : State) : State :=
  s.onStore fun p => { p with crossings := change p.crossings 0 fun x => { x with pending := some (f x.active) } }

/-- Crossing 0 with a demand memo. -/
def memoed (s : State) : State :=
  s.onTable fun t => { t with memos := put t.memos 0 (some
    { since := 0, origin := .press, kind := .standard, stations := [0], count := 1 }) }

/-- Every free place taken: places 1..23 by WAITING calls of crossings 1..23, the rest by CLEARING calls of crossings 1..9. -/
def full (s : State) : State :=
  { s with
    table := { s.table with records := mapAll (fun i r =>
      match r with
      | some r => some r
      | none =>
        if h : 1 ≤ i.val ∧ i.val < 24 then some (call ⟨i.val, h.2⟩ .waiting)
        else some (call ⟨if i.val = 0 then 9 else i.val - 23, by split <;> omega⟩ (.clearing 0))) s.table.records }
    aspects := mapAll (fun c x => if 1 ≤ c.val ∧ c.val ≤ 9 then { x with observed := .clearance } else x) s.aspects }

/-- Station 0 is enabled and its link is in a state. -/
def station0 (l : LinkState) (f : StationProfile → StationProfile) (s : State) : State :=
  (s.onStore fun p =>
    { p with stations := change p.stations 0 fun x => { x with active := f { x.active with enabled := true } } }).onLink 0
    fun x => { x with state := l }

/-- Station 0's press. -/
def press0 (f : PressState → PressState) (s : State) : State := s.onPress 0 f

/-- The slot of station 0 is open. -/
def inSlot0 (l : LinkState) (s : State) : State :=
  s.onBus fun b => { b with slot := some { station := 0, linkAtStart := l, playback := none, settled := false } }

/-- A speech request of a station. -/
def entry (i : Station) (kind : SpeechKind) : SpeechEntry := { station := i, message := 5, kind := kind }

/-- Corner 0's speech. -/
def speech0 (x : Channel) (q : List SpeechEntry) (s : State) : State :=
  s.onCues fun g => { g with speech := put g.speech 0 { channel := x, queue := q, limitLapsed := false } }

/-- No gap after a playback at corner 0. -/
def gapless (s : State) : State := s.onStore fun p =>
  { p with corners := change p.corners 0 fun x => { x with active := { x.active with gap := 0 } } }

/-- A hold line's level and every crossing's flags. -/
def held (a : Level) (f : HoldFlags) (s : State) : State :=
  s.onHolds fun h => { h with levelA := a, flags := Vector.replicate 24 f }

/-- Closing a report with its check byte. -/
def closed (body : List Byte) : List Byte := body ++ [0 - byteSum body]

/-! ## Commands well formed, or not -/

theorem test_wf_refused_frame : WellFormed (.requestFrameRefused [0x13, 0x00]) = true := by decide
theorem test_wf_passing_frame_refused : WellFormed (.requestFrameRefused [0x00, 0x00]) = false := by decide
theorem test_wf_report : WellFormed (.stationReport [0, 0, 0, 0, 0, 0, 0, 0, 0, 0, 0, 0]) = true := by decide
theorem test_wf_short_report_refused : WellFormed (.stationReport [0, 0, 0, 0, 0, 0, 0, 0, 0, 0, 0]) = false := by decide

/-! ## Frames (R177, R180, R191, R192) -/

theorem test_frame_short : (after (exec (.requestFrameRefused [0x07]) State.reset)).response.status = .length := by decide
theorem test_frame_unknown : (after (exec (.requestFrameRefused [0x13, 0x00]) State.reset)).response.status = .unknown := by decide
theorem test_frame_grant : decodeFrame [0x07, 0x02, 0x05, 0x14] = .ok (.grant 5 20) := by rfl
theorem test_frame_set_hold : decodeFrame [0x0A, 0x06, 0, 0, 0, 0x09, 0x0E, 0x10] = .ok (.setHold 9 3600) := by rfl
theorem test_identify : (after (exec .identify State.reset)).response.bytes = [1, 0, 3, 0x09, 0x90, 1] := by decide
theorem test_no_request : (after (exec .noRequest State.reset)).response.shiftOut 5 = [0, 0, 0, 0, 0] := by decide

/-! ## Time, profiles and settings -/

/-- R16: 4,294,967,295 returns to 0. -/
theorem test_street_time_wraps :
    (after (exec .streetTimeTick (State.reset.onStore fun p => { p with streetTime := 0xFFFFFFFF }))).store.streetTime = 0 := by
  decide

/-- R16: 47 periods are reported as 4 s. -/
theorem test_age_seconds : ageSeconds 1250 1203 = 4 := by decide

/-- R3, R4: 27 dm is clamped, 333 ms rounded down; R2: transferred at once over UNKNOWN, answered ADJUSTED. -/
theorem test_write_crossing :
    (after (exec (.writeCrossing 3
      { enabled := 1, length := 27, standardSpeed := 120, extendedSpeed := 130, linkGroup := 255, propagate := 0,
        recallPermitted := 0, darkPermitted := 0, respondsA := 1, respondsB := 1, settle := 333 }) State.reset)).store.crossing 3 =
      { CrossingProfile.default with length := 30, extendedSpeed := 120, settle := 300 } := by decide

/-- R8: a double-press window of 100..199 ms goes to 200, one of 1..99 ms to 0. -/
theorem test_double_window : bringDoubleWindow 199 = 200 ∧ bringDoubleWindow 99 = 0 ∧ bringDoubleWindow 1599 = 1500 := by decide

/-- R9: corner 0 has stations 0 and 32; a fifth station is refused at crossing 1, where 2 and 3 stand, only when it would be its
fifth: station 9 may move there. -/
theorem test_write_station :
    (after (exec (.writeStation 9
      { enabled := 1, crossing := 1, corner := 9, walkCue := 0, walkMessage := 0, infoMessage := 255, wanted := 15, indicator := 5,
        invert := 0, blink := 1, noiseCode := 3, longThreshold := 1000, stuckLimit := 120, doubleWindow := 600, margin := 8,
        minLevel := 55, maxLevel := 89, nightCap := 70, walkBoost := 3 }) State.reset)).response.status = .ok := by decide

/-- R3, R12: the offset is clamped against the period of the same write. -/
theorem test_write_corner :
    (look (after (exec (.writeCorner 4 { period := 549, offset := 1000, gap := 20, nightLocator := 0 }) State.reset)).store.corners
      4).pending = some { period := 500, offset := 400, gap := 0, nightLocator := false } := by decide

/-- R15: a frame length of 0 is held as 1. -/
theorem test_write_street :
    (after (exec (.writeStreet 0 0 0 2 0) State.reset)).store.nextFrameLength = some 1 ∧
      (after (exec (.writeStreet 0 0 0 2 0) State.reset)).response.status = .adjusted := by decide

/-- R148: minimum 66, maximum 89 and night cap 60 give a NIGHT range of 60..60. -/
theorem test_night_range :
    effectiveMin { StationProfile.default 0 with minLevel := 66, nightCap := 60 } .night = 60 ∧
      effectiveMax { StationProfile.default 0 with minLevel := 66, nightCap := 60 } .night = 60 := by decide

/-- R149: 79 dB by day is 70 dB when NIGHT is taken. -/
theorem test_set_street_mode :
    (look (after (exec (.setStreetMode 1) (State.reset.onLevel 0 fun x => { x with output := some 79 }))).levels 0).output =
      some 70 := by decide

/-! ## Calls and service -/

/-- R83: 120 dm at 120 cm/s and at 80 cm/s; the largest is capped at 600, the smallest is 20. -/
theorem test_clearance :
    CrossingProfile.default.clearance .standard = 100 ∧ CrossingProfile.default.clearance .extended = 150 ∧
      CrossingProfile.default.extension .extended = 50 ∧
      ({ CrossingProfile.default with length := 400, extendedSpeed := 50 } : CrossingProfile).clearance .extended = 600 ∧
      ({ CrossingProfile.default with length := 30, standardSpeed := 150 } : CrossingProfile).clearance .standard = 20 := by decide

/-- R66, R67: a GRANT of 0 s over DONT_WALK is taken with a window of 1 s. -/
theorem test_grant :
    (look (after (exec (.grant 0 0) (showing .dontWalk (calling .waiting State.reset)))).table.records 0).map CallRecord.state =
      some (.granted 1000) ∧
      (after (exec (.grant 0 0) (showing .dontWalk (calling .waiting State.reset)))).response.status = .adjusted := by decide

/-- R61: a walk in progress is not cancelled. -/
theorem test_cancel_walk :
    (after (exec (.cancel 0 1) (showing .walk (calling (.walking 0) State.reset)))).response.status = .state := by decide

/-- R98. -/
theorem test_clear_fault :
    (after (exec (.clearFault 0) (showing .dontWalk (faulted State.reset)))).response.status = .ok ∧
      (after (exec (.clearFault 0) (faulted State.reset))).response.status = .state := by decide

/-- R54: the freed record goes to the memo of the full table. -/
theorem test_memo_allocation :
    ((look (after (exec .memoAllocation (memoed State.reset))).table.records 0).map CallRecord.crossing) = some 0 := by decide

/-- R62, R193: a WAITING call of station 0 registered 47 periods ago, 100 tenths, unseen. -/
theorem test_call_entry :
    callEntry 47 (call 0 .waiting) = [0, 0x04, 1, 0, 4, 0x06, 0x40, 0, 0, 0x03, 0xFF, 0xFF] := by decide

/-- The worked example of R193: crossing 10, WALKING for 7 s, 26 s old, EXTENDED, stations 20 and 21, 2 presses, advice 150 and 50. -/
theorem test_call_entry_worked :
    callEntry 260
      { crossing := 10, state := .walking 190, origin := .press, kind := .extended, stations := [20, 21], pressCount := 2,
        registeredAt := 0, clearance := 150, extension := 50, seen := false } =
      [10, 0x8C, 2, 0, 26, 0x09, 0x60, 0x32, 7, 0x51, 0x5F, 0xFF] := by decide

/-- R193, R191: W on, CLEARANCE; LAMPS_DARK; FAULT and further-fault; flag B, held; a memo of station 0, 12 s old. -/
theorem test_crossing_block :
    ((after (exec (.readCrossing 0)
      ((((memoed State.reset).onAspect 0 fun x =>
        { x with w := true, observed := .clearance, fault := some .lampsDark, further := true, notice := true }).onHolds fun h =>
          { h with flags := put h.flags 0 { HoldFlags.reset with b := true } }).onStore fun p =>
            { p with streetTime := 120 }))).response.fields.take 12) =
      [0, 0x83, 4, 0x88, 0x50, 0x80, 1, 0, 12, 0x03, 0xFF, 0xFF] := by decide

/-- R70: the GRANTED call is WAITING again, with its notice. -/
theorem test_window_expiry :
    (look (after (exec (.grantWindowExpiry 0) (showing .dontWalk (calling (.granted 0) State.reset)))).grants 0).expired = true := by
  decide

/-! ## Lamps -/

/-- R87, R93: W alone steady over the settle time from DONT_WALK without a grant is UNCOMMANDED_WALK. -/
theorem test_uncommanded_walk :
    (look (after (exec (.steadyTimeReached 0 .dontWalk .settle)
      ((showing .dontWalk State.reset).onAspect 0 fun x => { x with w := true, wSteady := 300 }))).aspects 0).fault =
      some .uncommandedWalk := by decide

/-- R86: a second D transition 200 ms after the first makes the run two or more; 199 ms after, it begins again. -/
theorem test_flash_run :
    (look (after (exec (.lampLineChange 0 false true)
        (State.reset.onAspect 0 fun x => { x with dSeen := true, run := .one, dSteady := 200, wSteady := 200 }))).aspects 0).run =
      .twoOrMore ∧
    (look (after (exec (.lampLineChange 0 false true)
        (State.reset.onAspect 0 fun x => { x with dSeen := true, run := .one, dSteady := 199, wSteady := 200 }))).aspects 0).run =
      .one := by decide

/-- R91: the limit raises UNDECODABLE once. -/
theorem test_undecodable :
    (look (after (exec (.undecodableLimit 0) State.reset)).aspects 0).fault = some .undecodable ∧
      (look (after (exec (.undecodableLimit 0) (after (exec (.undecodableLimit 0) State.reset)))).aspects 0).further = false := by
  decide

/-- R98: a CLEAR FAULT taken at the moment of the limit, before it, restarts the measure, which is then not at its limit. -/
theorem test_undecodable_lapsed :
    (look (after (exec (.undecodableLimit 0) (after (exec (.clearFault 0) ((showing .dontWalk (faulted State.reset)).onAspect 0
      fun x => { x with undecodable := some { time := 3000, acted := false } }))))).aspects 0).fault = none := by decide

/-- R5, R6: over DONT_WALK the pending copy becomes active. -/
theorem test_crossing_transfer :
    (after (exec (.crossingTransfer 0) (showing .dontWalk (pending0 (fun p => { p with length := 200 }) State.reset)))).store.crossing
      0 = { CrossingProfile.default with length := 200 } := by decide

/-! ## Holds -/

/-- R105, R106: line A LOW holds crossing 5; HIGH again releases it under LEVEL. -/
theorem test_hold_line :
    (look (after (exec (.holdLineChange .a .low) State.reset)).holds.flags 5).a = true ∧
      (look (after (exec (.holdLineChange .a .high) (after (exec (.holdLineChange .a .low) State.reset)))).holds.flags 5).a = false := by
  decide

/-- R108. -/
theorem test_cycle_wait :
    (look (after (exec (.cycleWaitComplete 0)
      (showing .dontWalk (held .high { HoldFlags.reset with a := true, waitA := true } State.reset)))).holds.flags 0).a = false := by
  decide

/-- R113: a time above 3600 s is clamped. -/
theorem test_set_hold :
    (after (exec (.setHold 9 3601) State.reset)).holds.timer = some 3600000 ∧
      (after (exec (.setHold 9 3601) State.reset)).holds.softwareSet = [0, 3] := by decide

/-- R114. -/
theorem test_software_expiry :
    (look (after (exec .softwareHoldExpiry (after (exec (.setHold 9 1) State.reset)))).holds.flags 3).s = false := by decide

/-- R114: a SET HOLD taken at the moment of the run-out, before it, starts a hold that does not run out at that moment. -/
theorem test_software_expiry_lapsed :
    (after (exec .softwareHoldExpiry (after (exec (.setHold 9 5) (State.reset.onHolds fun h =>
      { h with timer := some 0 }))))).holds.timer = some 5000 := by decide

/-- R109: with line B INACTIVE and no flag set, NONE. -/
theorem test_release_line_hold : (after (exec (.releaseLineHold 1) State.reset)).response.status = .none := by decide

/-! ## Station bus (R159 to R174, R194, R195) -/

/-- Slot 0 of the first frame carries number 0 and every mark, raised by the part reset. -/
theorem test_first_frame : (after (exec .frameStart State.reset)).bus.sent = [0, 255, 255, 255, 255, 4] := by decide

/-- JOIN_INVITE to station 0. -/
theorem test_join_invite :
    (after (exec (.stationSlot 0) (station0 .absent id State.reset))).bus.sent = [0, 7, 0, 0, 0, 0, 0, 0xF9] := by decide

/-- A locator command at 68 dB: period 20 and offset 10 units of 50 ms. -/
theorem test_command :
    (after (exec (.stationSlot 0) (((station0 .active id State.reset).onLink 0 fun l =>
      { l with features := { l.features with speaker := true } }).onLevel 0 fun x => { x with output := some 68 }))).bus.sent =
      [0, 1, 0, 68, 0, 20, 10, 0x9D] := by decide

/-- R168, R153: a join sets ambient 960 and level 68, and a button down is a press at the report's tick. -/
theorem test_join :
    (look (after (exec (.stationReport (closed [0x12, 0x34, 0x80, 0, 0, 0, 0, 0, 0, 0xF0, 4]))
      (inSlot0 .absent (station0 .absent id State.reset)))).levels 0).output = some 68 ∧
    (look (after (exec (.stationReport (closed [0x12, 0x34, 0x80, 0, 0, 0, 0, 0, 0, 0xF0, 4]))
      (inSlot0 .absent (station0 .absent id State.reset)))).press 0).stamp = some 0x1234 := by decide

/-- R163: a press stamp later than the tick by 1 ms lies 65,535 ms back and fails its check. -/
theorem test_report_stamp :
    validReport (closed [0, 100, 0xC0, 0, 0, 101, 0, 0, 0, 0, 0]) = none ∧
      (validReport (closed [0, 100, 0xC0, 0, 0, 100, 0, 0, 0, 0, 0])).isSome = true := by decide

/-- R165: the fourth miss makes the station SILENT. -/
theorem test_fourth_miss :
    (after (exec .missedSlot (inSlot0 .active ((station0 .active id State.reset).onLink 0 fun l => { l with misses := 3 })))).linkState
      0 = .silent := by decide

/-- R10, R11: an enabled station is ABSENT after its transfer. -/
theorem test_station_transfer :
    (after (exec (.stationTransfer 0) (State.reset.onStore fun p =>
      { p with stations := change p.stations 0 fun x =>
        { x with pending := some { x.active with enabled := true } } }))).linkState 0 = .absent := by decide

/-- R174. -/
theorem test_section_reset :
    (after (exec .restartStationBus (station0 .active id State.reset))).linkState 0 = .absent := by decide

/-- R139, R174: station 0's WALK_TONE keeps station 32's INFO waiting at corner 0; both leave together, the entry is dropped and the
channel stays IDLE. -/
theorem test_section_reset_idle_channel :
    (look (after (exec .restartStationBus ((speech0 .idle [entry 32 .info] ((station0 .active id State.reset).onLink 32 fun x =>
      { x with state := .active })).onCues fun g => g.onStation 0 fun x => { x with sound := .walkTone }))).cues.speech 0) =
      { channel := .idle, queue := [], limitLapsed := false } := by decide

/-- R170: the rows "Same; walk message 9" and "Same; count 0". -/
theorem test_resolution :
    (resolve { StationProfile.default 0 with walkCue := .speech, walkMessage := 9, infoMessage := some 5 }
      { speaker := true, tactile := true, microphone := true, messages := 8 }).cueDegraded = true ∧
    (resolve { StationProfile.default 0 with walkCue := .speech, walkMessage := 3, infoMessage := some 5 }
      { speaker := true, tactile := true, microphone := true, messages := 0 }).infoUsable = false := by decide

/-! ## Cues and levels -/

/-- R118, R152: an output of 62 with a target of 68 becomes 65 at the period start. -/
theorem test_period_start :
    (look (after (exec (.periodStart 0) ((station0 .active id State.reset).onLevel 0 fun x => { x with output := some 62 }))).levels
      0).output = some 65 := by decide

/-- R13. -/
theorem test_corner_transfer :
    (after (exec (.cornerTransfer 0) (State.reset.onStore fun p =>
      { p with corners := change p.corners 0 fun x => { x with pending := some { x.active with gap := 50 } } }))).store.corner 0 =
      { CornerProfile.default with gap := 50 } := by decide

/-- R144. -/
theorem test_sample_point : (look (after (exec (.samplePoint 0) State.reset)).levels 32).windowOpen = true := by decide

/-- R146: a difference of -564 gives -70, one of 7 gives 0. -/
theorem test_filter : filterAmbient 1764 75 = 1694 ∧ filterAmbient 1193 75 = 1193 := by decide

/-- R134. -/
theorem test_speech_start :
    (look (after (exec (.speechStart 0) (speech0 .idle [entry 0 .walk] State.reset))).cues.speech 0).channel =
      .playing (entry 0 .walk) 0 0 := by decide

/-- R135, R136. -/
theorem test_play_limit :
    (look (after (exec (.playLimit 0) (speech0 (.playing (entry 0 .info) 20000 0) [] State.reset))).cues.speech 0).channel = .gap 300 := by
  decide

/-- R135: the playback cut at 20,000 ms with no gap leaves the channel to the next one, which that play limit does not end. -/
theorem test_play_limit_lapsed :
    (look (after (exec (.playLimit 0) { gapless State.reset with
      cues := (speech0 (.playing (entry 0 .info) 20000 0) [] (gapless State.reset)).cues.enqueueWalk (gapless State.reset).store 0
        (entry 32 .walk) })).cues.speech 0).channel = .playing (entry 32 .walk) 0 0 := by decide

/-- R136. -/
theorem test_gap_end :
    (look (after (exec (.gapEnd 0) (speech0 (.gap 0) [entry 0 .info] State.reset))).cues.speech 0).queue = [] := by decide

/-- R18, R19, R23: a press stamped 1 s back reaches the noise width and the long threshold, in one report. -/
theorem test_long_press :
    (look (after (exec (.stationReport (closed [0x10, 0x00, 0xC0, 0, 0x0C, 0x18, 0, 0, 0, 0, 0]))
      (inSlot0 .active (station0 .active id State.reset)))).press 0).phase = .long ∧
    ((look (after (exec (.stationReport (closed [0x10, 0x00, 0xC0, 0, 0x0C, 0x18, 0, 0, 0, 0, 0]))
      (inSlot0 .active (station0 .active id State.reset)))).table.records 0).map CallRecord.kind) = some .extended := by decide

/-! ## What meets the hypotheses of the statements -/

/-- A GRANTED call over DONT_WALK, a WALKING one over WALK with its gate open, a CLEARING one over CLEARANCE. -/
def granted0 : State := showing .dontWalk (calling (.granted 1000) State.reset)
def walking0 : State := (showing .walk (calling (.walking 0) State.reset)).findGate 0
def clearing0 : State := showing .clearance (calling (.clearing 0) State.reset)
/-- A WAITING call over DONT_WALK; nothing over DONT_WALK; a full table without crossing 0, with and without its memo. -/
def waiting0 : State := showing .dontWalk (calling .waiting State.reset)
def empty0 : State := showing .dontWalk State.reset
def full0 : State := showing .dontWalk (full State.reset)
def fullMemo0 : State := memoed full0

theorem granted0_lawful : ServiceLaw granted0 ∧ GateLaw granted0 :=
  ⟨serviceLaw_of (by decide) (by decide) (.inl (by decide)), gateLaw_of (by decide)⟩
theorem walking0_lawful : ServiceLaw walking0 ∧ GateLaw walking0 :=
  ⟨serviceLaw_of (by decide) (by decide) (.inl (by decide)), gateLaw_of (by decide)⟩
theorem clearing0_lawful : ServiceLaw clearing0 ∧ GateLaw clearing0 :=
  ⟨serviceLaw_of (by decide) (by decide) (.inl (by decide)), gateLaw_of (by decide)⟩
theorem waiting0_lawful : ServiceLaw waiting0 ∧ GateLaw waiting0 :=
  ⟨serviceLaw_of (by decide) (by decide) (.inl (by decide)), gateLaw_of (by decide)⟩
theorem empty0_lawful : ServiceLaw empty0 ∧ GateLaw empty0 :=
  ⟨serviceLaw_of (by decide) (by decide) (.inl (by decide)), gateLaw_of (by decide)⟩
theorem full0_lawful : ServiceLaw full0 ∧ GateLaw full0 :=
  ⟨serviceLaw_of (by decide) (by decide) (.inl (by decide)), gateLaw_of (by decide)⟩
theorem fullMemo0_lawful : ServiceLaw fullMemo0 ∧ GateLaw fullMemo0 :=
  ⟨serviceLaw_of (by decide) (by decide) (.inr (by decide)), gateLaw_of (by decide)⟩

theorem test_witness_StepTakesFront :
    ({ State.reset with pending := [.identify, .noRequest] } : State).pending = .identify :: [.noRequest] := rfl

theorem test_witness_IdleStepAndStreetTimeTick :
    State.reset.pending = [] ∧ State.reset.bus.firstFrame = true ∧
      (after (exec .frameStart State.reset)).pending = [] ∧ (after (exec .frameStart State.reset)).bus.firstFrame = false ∧
      look granted0.table.records 0 = some (call 0 (.granted 1000)) ∧ look granted0.table.records 1 = none ∧
      (call 0 .waiting).state.isGranted = false ∧ (look State.reset.cues.speech 0).channel = .idle ∧
      (look (speech0 (.playing (entry 0 .info) 19999 0) [] State.reset).cues.speech 0).channel = .playing (entry 0 .info) 19999 0 ∧
      (look (speech0 (.gap 1) [] State.reset).cues.speech 0).channel = .gap 1 := by
  decide

theorem test_witness_SelectsAndRefusedFrames :
    4 < 5 ∧ ([0x07] : List Byte).length < 2 ∧ 19 ≤ (19 : Byte).toNat ∧
      (fieldLength (7 : Byte).toNat = some 2 ∧ (3 : Byte).toNat ≠ 2) ∧ (fieldLength (7 : Byte).toNat = some 2 ∧ ([5] : List Byte).length < 2) ∧
      (18 : Byte).toNat < 19 ∧ (([5, 20] : List Byte).length = (2 : Byte).toNat ∧ fieldLength (7 : Byte).toNat = some (2 : Byte).toNat) ∧
      decodeFrame [0, 0] = .ok .noRequest := ⟨by decide, by decide, by decide, by decide, by decide, by decide, by decide, rfl⟩

theorem test_witness_ReadSummaryAndAttention : TimerLaw (after (exec (.setHold 1 3600) State.reset)).holds := by
  intro t h
  have : (after (exec (.setHold 1 3600) State.reset)).holds.timer = some 3600000 := by decide
  rw [this] at h
  injection h with h
  omega

theorem test_witness_ReadCalls :
    ((255 : Byte) = 255 ∧ (none : Option Crossing) = none) ∧ (23 : Byte).toNat = (23 : Crossing).val ∧
      look waiting0.table.records 0 = some (call 0 .waiting) ∧ look waiting0.table.records 31 = none := by decide

theorem test_witness_Read_blocks :
    ((look (memoed State.reset).table.memos 0).map Memo.origin = some .press ∧ look State.reset.table.memos 0 = none) ∧
      ((look State.reset.bus.stations 0).misses < 8 ∧
        (look ((State.reset).onLink 0 fun l => { l with offered := some ⟨true, true, true, 8⟩, lastTick := some 7 }).bus.stations 0).offered =
          some ⟨true, true, true, 8⟩) ∧
      ((some (⟨7, some 9, .held⟩ : CaptureEntry)).bind CaptureEntry.release = some 9) ∧
      ((look (speech0 (.gap 7) [] State.reset).cues.speech 0).channel = .gap 7 ∧
        (look State.reset.cues.speech 0).channel = .idle) := by decide

theorem test_witness_ReadCrossing_ReadStationAndCorner :
    (0 : Byte).toNat = (0 : Crossing).val ∧ (23 : Byte).toNat = (23 : Crossing).val ∧ (47 : Byte).toNat = (47 : Station).val ∧
      (31 : Byte).toNat = (31 : Corner).val := by decide

/-- A crossing write, a station write and a corner write whose codes are all defined, at the ends of their ranges. -/
def goodCrossing : CrossingFields :=
  { enabled := 1, length := 0, standardSpeed := 255, extendedSpeed := 255, linkGroup := 7, propagate := 1, recallPermitted := 1,
    darkPermitted := 1, respondsA := 1, respondsB := 1, settle := 65535 }
def goodStation : StationFields :=
  { enabled := 1, crossing := 23, corner := 31, walkCue := 1, walkMessage := 15, infoMessage := 15, wanted := 15, indicator := 6,
    invert := 1, blink := 1, noiseCode := 8, longThreshold := 0, stuckLimit := 29, doubleWindow := 100, margin := 16, minLevel := 0,
    maxLevel := 255, nightCap := 0, walkBoost := 7 }
def goodCorner : CornerFields := { period := 0, offset := 65535, gap := 1001, nightLocator := 1 }

theorem test_witness_RangeRefusals :
    (24 ≤ (24 : Byte).toNat ∧ (24 : Byte) ≠ 255) ∧ (24 ≤ (254 : Byte).toNat ∧ (254 : Byte) ≠ 255) ∧ 48 ≤ (48 : Byte).toNat ∧
      32 ≤ (32 : Byte).toNat ∧ 2 ≤ (2 : Byte).toNat ∧ (24 ≤ 24 ∧ (0x1000000 : BitVec 32).getLsbD 24 = true) ∧
      (24 ≤ 31 ∧ (0x80000000 : BitVec 32).getLsbD 31 = true) ∧
      (8 ≤ ({ goodCrossing with linkGroup := 8 } : CrossingFields).linkGroup.toNat ∧
        ({ goodCrossing with linkGroup := 8 } : CrossingFields).linkGroup ≠ 255) ∧
      24 ≤ ({ goodStation with crossing := 24 } : StationFields).crossing.toNat ∧
      7 ≤ ({ goodStation with indicator := 7 } : StationFields).indicator.toNat ∧
      2 ≤ ({ goodCorner with nightLocator := 2 } : CornerFields).nightLocator.toNat ∧ 3 ≤ (3 : Byte).toNat := by decide

theorem test_witness_ClearanceAdvice :
    30 ≤ CrossingProfile.default.length ∧ CrossingProfile.default.length ≤ 400 ∧ 80 ≤ CrossingProfile.default.standardSpeed ∧
      CrossingProfile.default.standardSpeed ≤ 150 ∧ 50 ≤ CrossingProfile.default.extendedSpeed ∧
      CrossingProfile.default.extendedSpeed ≤ CrossingProfile.default.standardSpeed := by decide

theorem test_witness_Grant_disabled_faulted :
    (0 : Byte).toNat = (0 : Crossing).val ∧
      ((crossing0 (fun p => { p with enabled := false }) State.reset).store.crossing 0).enabled = false ∧
      (ServiceLaw (faulted State.reset) ∧ GateLaw (faulted State.reset)) ∧
      ((faulted State.reset).store.crossing 0).enabled = true ∧ (look (faulted State.reset).aspects 0).fault.isSome = true :=
  ⟨rfl, by decide, ⟨serviceLaw_of (by decide) (by decide) (.inl (by decide)), gateLaw_of (by decide)⟩, by decide, by decide⟩

theorem test_witness_Grant_busy_and_aspect :
    (look walking0.aspects 0).fault = none ∧ HasRecord walking0.table 0 CallState.isServing ∧
      (ServiceLaw State.reset ∧ GateLaw State.reset) ∧ ¬ HasRecord State.reset.table 0 CallState.isServing ∧
      (look State.reset.aspects 0).observed ≠ .dontWalk :=
  ⟨by decide, hasRecord_of (by decide), ⟨serviceLaw_of (by decide) (by decide) (.inl (by decide)), gateLaw_of (by decide)⟩,
    noRecord_of (by decide), by decide⟩

theorem test_witness_Grant_taken :
    (waiting0.store.crossing 0).enabled = true ∧ ¬ HasRecord waiting0.table 0 CallState.isServing ∧
      (look waiting0.aspects 0).observed = .dontWalk ∧ RecordAt waiting0.table 0 0 (call 0 .waiting) ∧
      (¬ HasRecord full0.table 0 CallState.isWaiting ∧ ¬ HasRecord full0.table 0 CallState.isServing ∧ ¬ HasFree full0.table ∧
        (look full0.aspects 0).observed = .dontWalk ∧ (look full0.aspects 0).fault = none) ∧
      (¬ HasRecord empty0.table 0 CallState.isWaiting ∧ HasFree empty0.table ∧ (look empty0.aspects 0).observed = .dontWalk) :=
  ⟨by decide, noRecord_of (by decide), by decide, ⟨by decide, rfl⟩,
    ⟨noRecord_of (by decide), noRecord_of (by decide), noFree_of (by decide), by decide, by decide⟩,
    noRecord_of (by decide), hasFree_of (by decide), by decide⟩

theorem test_witness_Cancel :
    (look waiting0.store.crossings 0).pending = none ∧ RecordAt waiting0.table 0 0 (call 0 .waiting) ∧
      (¬ HasRecord fullMemo0.table 0 CallState.isWaiting ∧ (look fullMemo0.table.memos 0).isSome = true) ∧
      (¬ HasRecord empty0.table 0 CallState.isWaiting ∧ look empty0.table.memos 0 = none) ∧
      RecordAt granted0.table 0 0 (call 0 (.granted 1000)) ∧ RecordAt walking0.table 0 0 (call 0 (.walking 0)) ∧
      ¬ HasRecord empty0.table 0 CallState.isServing :=
  ⟨by decide, ⟨by decide, rfl⟩, ⟨noRecord_of (by decide), by decide⟩, ⟨noRecord_of (by decide), by decide⟩, ⟨by decide, rfl⟩,
    ⟨by decide, rfl⟩, noRecord_of (by decide)⟩

/-- CANCEL where the crossing has a pending copy. -/
theorem test_witness_Cancel_pending :
    (ServiceLaw (pending0 id waiting0) ∧ GateLaw (pending0 id waiting0)) ∧
      ((look (pending0 id waiting0).store.crossings 0).pending.isSome = true ∧
        RecordAt (pending0 id waiting0).table 0 0 (call 0 .waiting)) ∧
      ((look (pending0 id granted0).store.crossings 0).pending.isSome = true ∧
        RecordAt (pending0 id granted0).table 0 0 (call 0 (.granted 1000))) :=
  ⟨⟨serviceLaw_of (by decide) (by decide) (.inl (by decide)), gateLaw_of (by decide)⟩, ⟨by decide, by decide, rfl⟩,
    by decide, by decide, rfl⟩

theorem test_witness_ClearFault :
    ((look (showing .dontWalk (faulted State.reset)).aspects 0).fault.isSome = true ∧
        (look (showing .dontWalk (faulted State.reset)).aspects 0).observed = .dontWalk) ∧
      (look (faulted State.reset).aspects 0).observed ≠ .dontWalk ∧ (look State.reset.aspects 0).fault = none := by decide

/-- The GRANTED call with a pending copy. -/
theorem test_witness_GrantWindowExpiry :
    (look granted0.store.crossings 0).pending = none ∧ RecordAt granted0.table 0 0 (call 0 (.granted 1000)) ∧
      (ServiceLaw (pending0 id granted0) ∧ GateLaw (pending0 id granted0)) ∧
      (look (pending0 id granted0).store.crossings 0).pending = some CrossingProfile.default ∧
      ¬ HasRecord waiting0.table 0 CallState.isGranted :=
  ⟨by decide, ⟨by decide, rfl⟩, ⟨serviceLaw_of (by decide) (by decide) (.inl (by decide)), gateLaw_of (by decide)⟩, by decide,
    noRecord_of (by decide)⟩

theorem oldest_of {now : StreetTime} {t : CallTable} {c : Crossing} {m : Memo} (h : look t.memos c = some m)
    (hn : ∀ d, d ≠ c → look t.memos d = none) : OldestMemo now t c m := by
  refine ⟨h, fun d m' h' => ?_⟩
  by_cases hd : d = c
  · subst hd; rw [h] at h'; injection h' with h'; subst h'; exact .inr ⟨rfl, le_refl _⟩
  · rw [hn d hd] at h'; cases h'

theorem test_witness_MemoAllocation :
    ¬ HasFree full0.table ∧ (∀ c, look full0.table.memos c = none) ∧ HasFree (memoed State.reset).table ∧
      ∃ m, OldestMemo (memoed State.reset).store.streetTime (memoed State.reset).table 0 m :=
  ⟨noFree_of (by decide), by decide, hasFree_of (by decide), _, oldest_of rfl (by decide)⟩

theorem test_witness_RecordAndMemoRemoval :
    look waiting0.table.records 0 = some (call 0 .waiting) ∧ (∀ c, look waiting0.table.memos c = none) ∧
      (∀ j, (look fullMemo0.table.records j).isSome = true) ∧ look fullMemo0.table.records 31 = some (call 8 (.clearing 0)) ∧
      ∃ m, OldestMemo fullMemo0.store.streetTime fullMemo0.table 0 m :=
  ⟨by decide, by decide, by decide, by decide, _, oldest_of rfl (by decide)⟩

theorem test_witness_PressPlaced_LinkedDemandPlaced :
    OnlyRecord waiting0.table 0 CallState.isWaiting 0 (call 0 .waiting) ∧
      (¬ HasRecord walking0.table 0 CallState.isWaiting ∧ OnlyRecord walking0.table 0 CallState.isJoinable 0 (call 0 (.walking 0))) ∧
      (¬ HasRecord clearing0.table 0 CallState.isWaiting ∧ ¬ HasRecord clearing0.table 0 CallState.isJoinable ∧
        HasFree clearing0.table) ∧
      (¬ HasRecord full0.table 0 CallState.isWaiting ∧ ¬ HasRecord full0.table 0 CallState.isJoinable ∧ ¬ HasFree full0.table) ∧
      look full0.table.memos 0 = none ∧ (look fullMemo0.table.memos 0).isSome = true ∧ ¬ HasFree fullMemo0.table :=
  ⟨onlyRecord_of (by decide) rfl rfl (by decide), ⟨noRecord_of (by decide), onlyRecord_of (by decide) rfl rfl (by decide)⟩,
    ⟨noRecord_of (by decide), noRecord_of (by decide), hasFree_of (by decide)⟩,
    ⟨noRecord_of (by decide), noRecord_of (by decide), noFree_of (by decide)⟩, by decide, by decide, noFree_of (by decide)⟩

/-- A profile in group 2 that propagates. -/
def inGroup2 (x : Copies CrossingProfile) : Copies CrossingProfile :=
  { x with active := { x.active with linkGroup := some 2, propagate := true } }

/-- Crossings 0 and 3 in group 2, propagating. -/
def linked : ProfileStore :=
  { ProfileStore.reset with
    crossings := mapAll (fun c x => if c.val = 0 ∨ c.val = 3 then inGroup2 x else x) ProfileStore.reset.crossings }

theorem test_witness_RegistrationAndUpgrade :
    ((crossing0 (fun p => { p with enabled := false }) State.reset).store.crossing 0).enabled = false ∧
      (linked.crossing 0).enabled = true ∧ carriedTo linked 0 = [3] ∧
      (look waiting0.table.records 0 = some (call 0 .waiting) ∧ (waiting0.table.placePress linked 0 0).2 = .record 0) ∧
      look (waiting0.table.aim 0 .none).targets 0 = .none ∧ look (waiting0.table.aim 0 (.record 0)).targets 0 = .record 0 ∧
      (look (fullMemo0.table.aim 0 (.memo 0)).targets 0 = .memo 0 ∧ (look fullMemo0.table.memos 0).isSome = true) := by decide

theorem test_witness_DeclarationsMoveRecords :
    OnlyRecord granted0.table 0 CallState.isGranted 0 (call 0 (.granted 1000)) ∧
      (¬ HasRecord waiting0.table 0 CallState.isGranted ∧ OnlyRecord waiting0.table 0 CallState.isWaiting 0 (call 0 .waiting)) ∧
      (¬ HasRecord empty0.table 0 CallState.isGranted ∧ ¬ HasRecord empty0.table 0 CallState.isWaiting ∧ HasFree empty0.table) ∧
      (¬ HasRecord full0.table 0 CallState.isGranted ∧ ¬ HasRecord full0.table 0 CallState.isWaiting ∧ ¬ HasFree full0.table) ∧
      OnlyRecord walking0.table 0 CallState.isWalking 0 (call 0 (.walking 0)) ∧ ¬ HasRecord empty0.table 0 CallState.isWalking ∧
      OnlyRecord clearing0.table 0 CallState.isServing 0 (call 0 (.clearing 0)) ∧ ¬ HasRecord empty0.table 0 CallState.isServing :=
  ⟨onlyRecord_of (by decide) rfl rfl (by decide), ⟨noRecord_of (by decide), onlyRecord_of (by decide) rfl rfl (by decide)⟩,
    ⟨noRecord_of (by decide), noRecord_of (by decide), hasFree_of (by decide)⟩,
    ⟨noRecord_of (by decide), noRecord_of (by decide), noFree_of (by decide)⟩, onlyRecord_of (by decide) rfl rfl (by decide),
    noRecord_of (by decide), onlyRecord_of (by decide) rfl rfl (by decide), noRecord_of (by decide)⟩

/-- The GRANTED call with W on and D off, D steady for exactly the settle time. -/
def lit0 : State := granted0.onAspect 0 fun x => { x with w := true, dSteady := 300 }

theorem test_witness_GrantedWalk :
    ServiceLaw lit0 ∧ GateLaw lit0 ∧ RecordAt lit0.table 0 0 (call 0 (.granted 1000)) ∧
      (look lit0.aspects 0).observed = .dontWalk ∧ (look lit0.aspects 0).w = true ∧ (look lit0.aspects 0).d = false ∧
      (lit0.store.crossing 0).settle ≤ (look lit0.aspects 0).dSteady :=
  ⟨serviceLaw_of (by decide) (by decide) (.inl (by decide)), gateLaw_of (by decide), ⟨by decide, rfl⟩, by decide, by decide, by decide,
    by decide⟩

/-- Crossing 0's lamps with W on and D off from DONT_WALK, D steady for the settle time; with both dark for 1500 ms. -/
def litNow (x : AspectState) : AspectState := { x with w := true, wSteady := 299, dSteady := 300 }
def darkNow (x : AspectState) : AspectState := { x with w := false, d := false, wSteady := 1500, dSteady := 1499 }

/-- The steady time ends what was running; each decoding; each branch of a declaration: not enabled, FAULTED, a fault of the
sequence, an accepted one. -/
theorem test_witness_LampEventDeclares :
    (GateLaw lit0 ∧ (look lit0.store.crossings 0).pending = none ∧
        (∃ w d, Instr.lampLineChange 0 true false = .lampLineChange 0 w d) ∧
        Instr.steadyTimeReached 0 .walk .settle = .steadyTimeReached 0 .walk .settle) ∧
      { look State.reset.aspects 0 with wSteady := 1500 }.qualifying 300 = none ∧
      { (darkNow (look State.reset.aspects 0)) with dSteady := 1500, observed := .dark }.qualifying 300 = some .dark ∧
      ({ (litNow (look lit0.aspects 0)) with wSteady := 300 }.qualifying 300 = some .walk ∧ Aspect.walk ≠ (look lit0.aspects 0).observed ∧
        (lit0.store.crossing 0).enabled = true ∧ (look lit0.aspects 0).fault = none ∧
        HasRecord lit0.table 0 CallState.isGranted ∧ sequenceFault .dontWalk .walk true false false = none) ∧
      (¬ HasRecord waiting0.table 0 CallState.isGranted ∧ sequenceFault .dontWalk .walk false false false = some .uncommandedWalk ∧
        ¬ HasRecord waiting0.table 0 CallState.isServing) ∧
      (OnlyRecord granted0.table 0 CallState.isServing 0 (call 0 (.granted 1000)) ∧
        sequenceFault .dontWalk .dark true false false = some .lampsDark) ∧
      ((look (faulted lit0).aspects 0).fault = some .lampsDark ∧
        ((crossing0 (fun p => { p with enabled := false }) lit0).store.crossing 0).enabled = false) ∧
      (OnlyRecord walking0.table 0 CallState.isWalking 0 (call 0 (.walking 0)) ∧
        sequenceFault .walk .clearance false false false = none ∧
        { look State.reset.aspects 0 with run := .twoOrMore, dSteady := 1499 }.qualifying 300 = some .clearance) ∧
      (OnlyRecord clearing0.table 0 CallState.isServing 0 (call 0 (.clearing 0)) ∧
        sequenceFault .clearance .dontWalk false false false = none ∧
        { look State.reset.aspects 0 with d := true, dSteady := 1500 }.qualifying 300 = some .dontWalk) :=
  ⟨⟨gateLaw_of (by decide), by decide, ⟨_, _, rfl⟩, rfl⟩, by decide, by decide,
    ⟨by decide, by decide, by decide, by decide, hasRecord_of (by decide), by decide⟩,
    ⟨noRecord_of (by decide), by decide, noRecord_of (by decide)⟩,
    ⟨onlyRecord_of (by decide) rfl rfl (by decide), by decide⟩, by decide,
    ⟨onlyRecord_of (by decide) rfl rfl (by decide), by decide, by decide⟩,
    onlyRecord_of (by decide) rfl rfl (by decide), by decide, by decide⟩

/-- Crossing 0 with recall permitted. -/
def recall0 (s : State) : State := crossing0 (fun p => { p with recallPermitted := true }) s

/-- An accepted WALK without a GRANTED record: a WAITING record taken up, a RECALL record, an unserved walk. -/
theorem test_witness_LampEventDeclares_recall :
    (GateLaw (recall0 waiting0) ∧ (look (recall0 waiting0).store.crossings 0).pending = none ∧
        sequenceFault .dontWalk .walk false ((recall0 waiting0).store.crossing 0).recallPermitted false = none) ∧
      (¬ HasRecord (recall0 waiting0).table 0 CallState.isGranted ∧
        OnlyRecord ((recall0 waiting0).walkDeclared 0).table 0 CallState.isWalking 0 { call 0 .waiting with state := .walking 0 }) ∧
      (¬ HasRecord (recall0 empty0).table 0 CallState.isGranted ∧
        HasRecord ((recall0 empty0).walkDeclared 0).table 0 CallState.isWalking) ∧
      (¬ HasRecord (recall0 full0).table 0 CallState.isGranted ∧
        (look ((recall0 full0).walkDeclared 0).grants 0).unserved = true) :=
  ⟨⟨gateLaw_of (by decide), by decide, by decide⟩,
    ⟨noRecord_of (by decide), onlyRecord_of (by decide) rfl rfl (by decide)⟩,
    ⟨noRecord_of (by decide), hasRecord_of (by decide)⟩, noRecord_of (by decide), by decide⟩

theorem test_witness_LampLineChange :
    (true ≠ (look State.reset.aspects 0).d) ∧ (false = (look State.reset.aspects 0).d ∧ false = (look State.reset.aspects 0).w) ∧
      (false = (look lit0.aspects 0).d ∧ (look lit0.aspects 0).dSteady ≠ 0) := by decide

theorem test_witness_UndecodableLimit :
    (look lit0.aspects 1).limitLapsed = false ∧
      (look (lit0.onAspect 1 fun x => { x with limitLapsed := true }).aspects 1).limitLapsed = true ∧
      (look lit0.aspects 1).undecodable = some { time := 0, acted := false } ∧ (look lit0.store.crossings 1).pending = none ∧
      (look (walking0.onAspect 0 fun x => { x with undecodable := none }).aspects 0).undecodable = none ∧
      ((look (after (exec (.undecodableLimit 0) State.reset)).aspects 0).undecodable = some { time := 3000, acted := true }) ∧
      ((walking0.store.crossing 0).enabled = true ∧ (look walking0.aspects 0).fault = none ∧
        OnlyRecord walking0.table 0 CallState.isServing 0 (call 0 (.walking 0))) ∧
      ¬ HasRecord State.reset.table 0 CallState.isServing ∧ (look (faulted State.reset).aspects 0).fault = some .lampsDark ∧
      ((crossing0 (fun p => { p with enabled := false }) State.reset).store.crossing 0).enabled = false :=
  ⟨by decide, by decide, by decide, by decide, by decide, by decide, ⟨by decide, by decide, onlyRecord_of (by decide) rfl rfl (by decide)⟩,
    noRecord_of (by decide), by decide, by decide⟩

theorem test_witness_CrossingTransfer :
    GateLaw empty0 ∧ (look empty0.store.crossings 0).pending = none ∧
      ((granted0.store.crossing 0).enabled = true ∧ HasRecord granted0.table 0 CallState.isServing) ∧
      (GateLaw (pending0 (fun p => { p with enabled := false }) waiting0) ∧
        (∃ new, (look (pending0 (fun p => { p with enabled := false }) waiting0).store.crossings 0).pending = some new ∧
          new.enabled = false) ∧
        AtTransferPoint (pending0 (fun p => { p with enabled := false }) waiting0) 0 ∧
        ServiceLaw (pending0 (fun p => { p with enabled := false }) waiting0)) ∧
      (linked.crossing 0).enabled = true ∧ OnlyRecord waiting0.table 0 CallState.isWaiting 0 (call 0 .waiting) :=
  ⟨empty0_lawful.2, by decide, ⟨by decide, hasRecord_of (by decide)⟩,
    ⟨gateLaw_of (by decide), ⟨_, rfl, rfl⟩, .inr ⟨noRecord_of (by decide), .inl (by decide)⟩,
      serviceLaw_of (by decide) (by decide) (.inl (by decide))⟩,
    by decide, onlyRecord_of (by decide) rfl rfl (by decide)⟩

/-- Crossing 0, disabled and showing an aspect, with a pending copy that enables it. -/
def rising (a : Aspect) : State :=
  pending0 (fun p => { p with enabled := true }) (crossing0 (fun p => { p with enabled := false }) (showing a State.reset))

/-- An enabling transfer: its check from UNKNOWN with a fault and without one, the limit after it, a steady time reached. -/
theorem test_witness_CrossingTransfer_enabling :
    (AtTransferPoint (rising .walk) 0 ∧ ((rising .walk).store.crossing 0).enabled = false ∧
        (look (rising .walk).store.crossings 0).pending.map CrossingProfile.enabled = some true) ∧
      ((look (rising .walk).aspects 0).fault = none ∧ Aspect.walk ≠ .unknown ∧
        ¬ HasRecord (rising .walk).table 0 CallState.isGranted ∧
        sequenceFault .unknown .walk false false false = some .uncommandedWalk ∧
        sequenceFault .unknown .walk false true false = none ∧ sequenceFault .unknown .dark false false true = none) ∧
      (look (rising .unknown).aspects 0).observed = .unknown ∧
      ((look ((rising .unknown).onAspect 0 fun x => { x with undecodable := some { time := 3000, acted := true } }).aspects
          0).qualifying 300 = none) ∧
      { look (rising .unknown).aspects 0 with d := true, dSteady := 1500 }.qualifying 300 = some .dontWalk :=
  ⟨⟨.inl (by decide), by decide, by decide⟩, ⟨by decide, by decide, noRecord_of (by decide), by decide, by decide, by decide⟩,
    by decide, by decide, by decide⟩

/-- A transfer that leaves the enabling as it is, with and without a WAITING record, and one that disables over a memo. -/
theorem test_witness_CrossingTransfer_readvised :
    (AtTransferPoint (pending0 (fun p => { p with length := 200 }) waiting0) 0 ∧
        OnlyRecord (pending0 (fun p => { p with length := 200 }) waiting0).table 0 CallState.isWaiting 0 (call 0 .waiting)) ∧
      (AtTransferPoint (pending0 id empty0) 0 ∧ ¬ HasRecord (pending0 id empty0).table 0 CallState.isWaiting) ∧
      (AtTransferPoint (pending0 (fun p => { p with enabled := false }) fullMemo0) 0 ∧
        ¬ HasRecord (pending0 (fun p => { p with enabled := false }) fullMemo0).table 0 CallState.isWaiting) ∧
      AtTransferPoint (pending0 id (crossing0 (fun p => { p with enabled := false }) State.reset)) 0 ∧
      (look waiting0.aspects 0).qualifying 300 = none :=
  ⟨⟨.inr ⟨noRecord_of (by decide), .inl (by decide)⟩, onlyRecord_of (by decide) rfl rfl (by decide)⟩,
    ⟨.inr ⟨noRecord_of (by decide), .inl (by decide)⟩, noRecord_of (by decide)⟩,
    ⟨.inr ⟨noRecord_of (by decide), .inl (by decide)⟩, noRecord_of (by decide)⟩, .inl (by decide), by decide⟩

/-- R101: an enabling transfer over WALK without a grant raises UNCOMMANDED_WALK. R83, R6: 200 dm at 120 cm/s is 16.7 s. -/
theorem test_crossing_transfer_enabling_and_advice :
    (look (after (exec (.crossingTransfer 0) (rising .walk))).aspects 0).fault = some .uncommandedWalk ∧
      ((look (after (exec (.crossingTransfer 0)
        (pending0 (fun p => { p with length := 200, standardSpeed := 120 }) waiting0))).table.records 0).map CallRecord.clearance =
        some 167) := by decide

/-- Events at crossing 0 with a pending copy. -/
theorem test_witness_LampEventDeclares_UndecodableLimit_pending :
    (look (pending0 id lit0).store.crossings 0).pending.isSome = true ∧
      (∃ t, exec (.lampLineChange 0 true false) lit0 = .next t) ∧
      ((look (pending0 id (lit0.onAspect 0 fun x => { x with undecodable := some { time := 3000, acted := false } })).aspects
          0).limitLapsed = false ∧
        (look (pending0 id (lit0.onAspect 0 fun x => { x with undecodable := some { time := 3000, acted := false } })).aspects
          0).undecodable = some { time := 3000, acted := false }) ∧
      ∃ t, exec (.undecodableLimit 0) (lit0.onAspect 0 fun x => { x with undecodable := some { time := 3000, acted := false } }) =
        .next t :=
  ⟨by decide, ⟨_, rfl⟩, by decide, _, rfl⟩

theorem test_witness_CrossingEventsStayThere :
    (∃ w d, Instr.lampLineChange 0 true false = .lampLineChange 0 w d) ∧
      (∃ l m, Instr.steadyTimeReached 0 .walk .settle = .steadyTimeReached 0 l m) ∧
      (look full0.table.records 5 = some (call 5 .waiting) ∧ (call 5 .waiting).crossing ≠ 0) ∧
      ∀ d, look full0.table.memos d = none := ⟨⟨_, _, rfl⟩, ⟨_, _, rfl⟩, by decide, by decide⟩

/-! ### Holds, profiles and settings -/

theorem test_witness_HoldLineChange_ReleaseLineHold :
    (lineActive State.reset.store State.reset.holds .a = false ∧
        lineActive State.reset.store (after (exec (.holdLineChange .a .low) State.reset)).holds .a = true) ∧
      (lineActive State.reset.store (held .low HoldFlags.reset State.reset).holds .a = true ∧
        lineActive State.reset.store (after (exec (.holdLineChange .a .high) (held .low HoldFlags.reset State.reset))).holds .a =
          false) ∧
      (State.reset.store.line .b).releaseMode = .latch ∧ 2 ≤ (2 : Byte).toNat ∧
      (∀ c, (look State.reset.holds.flags c).flag .a = false) ∧
      (look (held .high { HoldFlags.reset with a := true } State.reset).holds.flags 23).flag .a = true := by decide

theorem test_witness_HoldReleases :
    GateLaw empty0 ∧ (look empty0.aspects 0).observed = .dontWalk ∧ (look State.reset.aspects 0).observed ≠ .dontWalk ∧
      (State.reset.holds.expiryLapsed = false ∧ State.reset.holds.timer = none) ∧
      ((after (exec (.setHold 1 1) State.reset)).holds.expiryLapsed = false ∧
        (after (exec (.setHold 1 1) State.reset)).holds.timer.isSome = true) ∧
      (after (exec (.setHold 1 1) (State.reset.onHolds fun h => { h with timer := some 0 }))).holds.expiryLapsed = true :=
  ⟨empty0_lawful.2, by decide, by decide, by decide, by decide, by decide⟩

theorem test_witness_SetHold :
    (24 ≤ 24 ∧ (0x1000000 : BitVec 32).getLsbD 24 = true) ∧ (1 : Word16) ≠ 0 ∧ (3601 : Word16) ≠ 0 ∧
      ∀ n, 24 ≤ n → (0xFFFFFF : BitVec 32).getLsbD n = false := by
  refine ⟨by decide, by decide, by decide, fun n hn => ?_⟩
  rw [BitVec.getLsbD, Nat.testBit_lt_two_pow]
  exact lt_of_lt_of_le (by decide : (0xFFFFFF : BitVec 32).toNat < 2 ^ 24) (Nat.pow_le_pow_right (by decide) hn)

theorem test_witness_SetStreetMode :
    State.reset.store.mode = .day ∧ State.reset.store.mode ≠ .night := by decide

theorem test_witness_WrittenFields :
    goodCrossing.enabled.toNat < 2 ∧ goodCrossing.linkGroup.toNat < 8 ∧ goodCrossing.respondsB.toNat < 2 ∧
      goodStation.crossing.toNat < 24 ∧ goodStation.corner.toNat < 32 ∧ goodStation.walkCue.toNat < 2 ∧
      goodStation.walkMessage.toNat < 16 ∧ goodStation.infoMessage.toNat < 16 ∧ goodStation.indicator.toNat < 7 ∧
      goodStation.invert.toNat < 2 ∧ goodStation.blink.toNat < 2 ∧ goodCorner.nightLocator.toNat < 2 := by decide

theorem test_witness_WriteCrossing :
    GateLaw empty0 ∧ (0 : Byte).toNat = (0 : Crossing).val ∧ (crossingProfileOf goodCrossing).isSome = true ∧
      AtTransferPoint empty0 0 ∧ GateLaw walking0 ∧ ¬ AtTransferPoint walking0 0 := by
  refine ⟨empty0_lawful.2, rfl, by decide, .inr ⟨noRecord_of (by decide), .inl (by decide)⟩, walking0_lawful.2, ?_⟩
  rintro (h | ⟨-, h⟩)
  · exact absurd h (by decide)
  · exact absurd h (by decide)

/-- A fourth and a sixth other station counted at crossing 0 and corner 0. -/
def crowded (n : Nat) : State := State.reset.onStore fun p =>
  { p with stations := mapAll (fun i x =>
      if i.val < n then { x with pending := some { x.active with crossing := 0, corner := 0 } } else x) p.stations }

theorem test_witness_WriteStationAndCorner :
    (47 : Byte).toNat = (47 : Station).val ∧ (stationProfileOf goodStation).isSome = true ∧
      4 ≤ countWhere (fun j : Station => j != 47 && (look (crowded 4).store.stations j).counted.crossing == 0) ∧
      6 ≤ countWhere (fun j : Station => j != 47 && (look (crowded 6).store.stations j).counted.corner == 0) ∧
      countWhere (fun j : Station => j != 47 && (look (crowded 3).store.stations j).counted.crossing == 0) ≤ 3 ∧
      countWhere (fun j : Station => j != 47 && (look (crowded 3).store.stations j).counted.corner == 0) ≤ 5 ∧
      (31 : Byte).toNat = (31 : Corner).val ∧ (cornerProfileOf goodCorner).isSome = true := by decide

/-- Line A LOW is INACTIVE once its active level is HIGH, and line B HIGH is ACTIVE; a change of mode alone keeps line B INACTIVE. -/
theorem test_witness_WriteStreet :
    (lineActive (held .low HoldFlags.reset State.reset).store (held .low HoldFlags.reset State.reset).holds .a = true ∧
        lineActive (after (exec (.writeStreet 1 1 1 0 48) (held .low HoldFlags.reset State.reset))).store
          (held .low HoldFlags.reset State.reset).holds .a = false) ∧
      (lineActive State.reset.store State.reset.holds .b = false ∧
        lineActive (after (exec (.writeStreet 1 1 1 0 48) State.reset)).store State.reset.holds .b = true) ∧
      (lineActive (after (exec (.writeStreet 0 0 0 1 48) State.reset)).store State.reset.holds .b = false ∧
        ((after (exec (.writeStreet 0 0 0 1 48) State.reset)).store.line .b).releaseMode ≠
          (State.reset.store.line .b).releaseMode) := by decide

/-! ### The station bus -/

theorem test_witness_FrameStart :
    (∀ i, (look State.reset.store.stations i).pending = none) ∧
      (after (exec (.writeStreet 0 0 0 2 5) State.reset)).store.nextFrameLength = some 5 ∧ 5 ≠ State.reset.bus.frameLength ∧
      State.reset.store.nextFrameLength.getD State.reset.bus.frameLength = State.reset.bus.frameLength := by decide

/-- Station 0's INFO playback at corner 0, with its WALK request behind it. -/
def speaking : State := speech0 (.playing (entry 0 .info) 5 3) [entry 0 .walk] (station0 .active id State.reset)

theorem test_witness_SectionReset :
    speaking.linkState 0 = .active ∧ (∀ i, (look State.reset.store.stations i).pending = none) ∧
      (∀ e ∈ (look speaking.cues.speech 0).queue, (speaking.store.station e.station).corner = 0 ∧
        speaking.linkState e.station = .active) ∧
      (look speaking.cues.speech (speaking.store.station 0).corner).channel = .playing (entry 0 .info) 5 3 ∧
      ((look (speech0 (.gap 9) [entry 0 .walk] speaking).cues.speech 0).channel = .gap 9 ∧
        ∃ e ∈ (look (speech0 (.gap 9) [entry 0 .walk] speaking).cues.speech 0).queue, e.station = 0) ∧
      (look State.reset.cues.speech 0).channel = .idle := by decide

/-- Station 0, enabled in a link state, with a pending copy. -/
def moving (l : LinkState) (f : StationProfile → StationProfile) : State :=
  (station0 l id (calling .waiting State.reset)).onStore fun p =>
    { p with stations := change p.stations 0 fun x => { x with pending := some (f x.active) } }

theorem atRest_of {s : State} {i : Station}
    (h1 : anyWhere (fun k => recordIs (s.store.station i).crossing CallState.isServing (look s.table.records k)) = false)
    (h2 : (look s.cues.speech (s.store.station i).corner).channel.playingFor i = false) (h3 : (look s.press i).phase = .idle) :
    StationAtRest s i := by
  refine ⟨noRecord_of h1, fun e since n h hi => ?_, h3⟩
  rw [h] at h2
  simp [Channel.playingFor, hi] at h2

/-- A new frame length of 1 that leaves out the ACTIVE station 47, beside a pending station profile. -/
def shortened : State :=
  ((moving .active id).onLink 47 fun l => { l with state := .active }).onStore fun p => { p with nextFrameLength := some 1 }

theorem test_witness_FrameStart_new_length :
    (shortened.store.nextFrameLength = some 1 ∧ 1 ≠ shortened.bus.frameLength) ∧
      ([47] : List Station).Pairwise (fun i j => i < j) ∧
      (∀ i, i ∈ ([47] : List Station) ↔ 1 ≤ i.val ∧ shortened.linkState i = .active) ∧
      (look shortened.store.stations 0).pending.isSome = true := by decide

/-- FRAME_START over a pending station profile. -/
theorem test_witness_FrameStart_pending :
    StationAtRest (moving .active fun p => { p with walkBoost := 6 }) 0 ∧
      (look (moving .active fun p => { p with walkBoost := 6 }).store.stations 0).pending.isSome = true ∧
      (∀ e ∈ (look (moving .active id).cues.speech ((moving .active id).store.station 0).corner).queue, e.station ≠ 0) ∧
      ¬ StationAtRest (press0 (fun x => { x with phase := .down }) (moving .active id)) 0 :=
  ⟨atRest_of (by decide) (by decide) (by decide), by decide, by decide, fun h => absurd h.2.2 (by decide)⟩

/-- No new frame length, over a profile that moves station 0 to crossing 1: the call of crossing 0 loses the station (R59). -/
theorem test_witness_FrameStart_transfers :
    (moving .active fun p => { p with crossing := 1 }).store.nextFrameLength.getD
        (moving .active fun p => { p with crossing := 1 }).bus.frameLength =
      (moving .active fun p => { p with crossing := 1 }).bus.frameLength ∧
    ((look (after (exec .frameStart (moving .active fun p => { p with crossing := 1 }))).table.records 0).map CallRecord.stations) =
      some [] := by decide

/-- Every entry and every playback of an ACTIVE station at its own corner, beside a station that is not ACTIVE. -/
theorem test_witness_SectionReset_entries :
    (∀ k, ∀ e ∈ (look speaking.cues.speech k).queue,
      (speaking.store.station e.station).corner = k ∧ speaking.linkState e.station = .active) ∧
    (∀ k e since n, (look speaking.cues.speech k).channel = .playing e since n →
      (speaking.store.station e.station).corner = k ∧ speaking.linkState e.station = .active) ∧
    speaking.linkState 1 ≠ .active := by
  refine ⟨by decide, fun k e since n h => ?_, by decide⟩
  by_cases hk : k = 0
  · subst hk
    obtain ⟨rfl, -, -⟩ : e = entry 0 .info ∧ since = 5 ∧ n = 3 := by
      have h0 : (look speaking.cues.speech 0).channel = .playing (entry 0 .info) 5 3 := by decide
      rw [h0] at h
      cases h
      exact ⟨rfl, rfl, rfl⟩
    decide
  · have hs : ∀ k : Corner, k ≠ 0 → (look speaking.cues.speech k).channel = .idle := by decide
    rw [hs k hk] at h
    cases h

/-- R174: slot 0 of frame 0 with every mark but corner 9's; a playback begun 20,000 ms ago is cut and its limit lapses (log 30); what the station
offered and its last tick stand. -/
theorem test_section_reset_leaves :
    (after (exec .restartStationBus (State.reset.onCues fun g =>
      { g with corners := change g.corners 9 fun x => { x with mark := false } }))).bus.sent = [0, 255, 255, 253, 255, 6] ∧
    look (after (exec .restartStationBus (speech0 (.playing (entry 0 .info) 20000 3) [] speaking))).cues.speech 0 =
      { channel := .gap 300, queue := [], limitLapsed := true } ∧
    (look (after (exec .restartStationBus (speaking.onLink 0 fun l =>
      { l with offered := some ⟨true, true, true, 8⟩, lastTick := some 77, misses := 2 }))).bus.stations 0) =
      { look (speaking.onLink 0 fun l => { l with offered := some ⟨true, true, true, 8⟩, lastTick := some 77 }).bus.stations 0 with
        state := .absent } := by decide

theorem test_witness_StationTransfer :
    (look State.reset.store.stations 0).pending = none ∧
      ¬ StationAtRest (press0 (fun x => { x with phase := .down }) (moving .active id)) 0 ∧
      StationAtRest (moving .active fun p => { p with enabled := false, crossing := 1, corner := 1 }) 0 ∧
      ((moving .active fun p => { p with enabled := false }).store.station 0).enabled = true ∧
      OnlyRecord (moving .active id).table 0 CallState.isWaiting 0 (call 0 .waiting) ∧
      ((look (memoed (moving .active id)).table.memos 0).map Memo.stations = some [0] ∧
        ¬ HasRecord (memoed (moving .active id)).table 1 CallState.isWaiting ∧ look (moving .active id).table.memos 0 = none) ∧
      (State.reset.store.station 0).enabled = false ∧
      (look ((moving .active id).onLink 0 fun l => { l with offered := some ⟨true, true, true, 8⟩ }).bus.stations 0).offered =
        some ⟨true, true, true, 8⟩ :=
  ⟨by decide, fun h => absurd h.2.2 (by decide), atRest_of (by decide) (by decide) (by decide), by decide,
    onlyRecord_of (by decide) rfl rfl (by decide), ⟨by decide, noRecord_of (by decide), by decide⟩, by decide, by decide⟩

/-- What a transfer does at the Cue Generator: an ACTIVE station disabled, a change of corner with both kinds of entries and a covering wait
acknowledgement, an INFO entry that loses its message. -/
theorem test_witness_StationTransfer_cues :
    ((moving .active fun p => { p with enabled := false }).linkState 0 = .active ∧
        StationAtRest (moving .active fun p => { p with enabled := false }) 0) ∧
      (StationAtRest (speech0 .idle [entry 0 .walk, entry 0 .info] (moving .active fun p => { p with corner := 1 })) 0 ∧
        ((moving .active fun p => { p with corner := 1 }).store.station 0).corner ≠ 1 ∧
        ∃ e ∈ (look (speech0 .idle [entry 0 .walk, entry 0 .info] (moving .active fun p => { p with corner := 1 })).cues.speech
          0).queue, e.station = 0) ∧
      (StationAtRest (speech0 .idle [entry 0 .info] (moving .active fun p => { p with infoMessage := none })) 0 ∧
        (none : Option (Fin 16)) ≠ some (entry 0 .info).message ∧ (entry 0 .info).kind = .info ∧
        ((moving .active id).store.station 0).enabled = true) ∧
      (moving .silent id).linkState 0 ≠ .active :=
  ⟨⟨by decide, atRest_of (by decide) (by decide) (by decide)⟩, ⟨atRest_of (by decide) (by decide) (by decide), by decide, by decide⟩,
    ⟨atRest_of (by decide) (by decide) (by decide), by decide, by decide, by decide⟩, by decide⟩

/-- R125: a change of corner makes a covering wait acknowledgement armed again. R171: the INFO entry without its message is dropped. -/
theorem test_station_transfer_cues :
    (look (after (exec (.stationTransfer 0) ((moving .active fun p => { p with corner := 1 }).onCues fun g =>
        g.onStation 0 fun x => { x with covering := true }))).cues.stations 0).armed = true ∧
      (look (after (exec (.stationTransfer 0) ((speech0 .idle [entry 0 .walk, entry 0 .info]
        (moving .active fun p => { p with infoMessage := none })).onLink 0 fun l =>
          { l with offered := some ⟨true, true, true, 8⟩ }))).cues.speech 0).queue = [entry 0 .walk] := by decide

theorem test_witness_StationSlot :
    (State.reset.onBus fun b => { b with frameLength := 47 }).bus.frameLength ≤ (47 : Station).val ∧
      (47 : Station).val < State.reset.bus.frameLength ∧ (station0 .active id State.reset).linkState 0 = .active ∧
      (look (speech0 (.playing (entry 0 .walk) 5 3) [] State.reset).cues.speech (State.reset.store.station 0).corner).channel =
        .playing (entry 0 .walk) 5 3 ∧
      (look (speech0 .idle [entry 0 .info] State.reset).cues.speech (State.reset.store.station 0).corner).channel = .idle ∧
      (entry 32 .walk).station ≠ 0 ∧ (station0 .silent id State.reset).linkState 0 = .silent ∧
      ((station0 .absent id State.reset).linkState 0 = .absent ∧ (look (station0 .absent id State.reset).bus.stations 0).beyond = false) ∧
      State.reset.linkState 0 = .disabled := by decide

/-- Station 0 with each indicator source. -/
theorem test_witness_CommandChosen :
    (look (speech0 (.playing (entry 0 .walk) 5 3) [] State.reset).cues.speech 0).channel = .playing (entry 0 .walk) 5 3 ∧
      (look State.reset.cues.speech 0).channel = .idle ∧
      (look (State.reset.onLevel 0 fun x => { x with output := some 88 }).levels 0).output = some 88 ∧
      ((station0 .active (fun p => { p with indicator := .serving }) granted0).store.station 0).indicator = .serving ∧
      HasRecord granted0.table 0 CallState.isServing ∧ HasRecord walking0.table 0 CallState.isWalking ∧
      HasRecord waiting0.table 0 CallState.isWaiting ∧ ¬ HasRecord clearing0.table 0 CallState.isWaiting ∧
      ¬ HasRecord clearing0.table 0 CallState.isGranted ∧ ¬ HasRecord clearing0.table 0 CallState.isWalking ∧
      look clearing0.table.memos 0 = none ∧ ¬ HasRecord empty0.table 0 CallState.isServing :=
  ⟨by decide, by decide, by decide, by decide, hasRecord_of (by decide), hasRecord_of (by decide), hasRecord_of (by decide),
    noRecord_of (by decide), noRecord_of (by decide), noRecord_of (by decide), by decide, noRecord_of (by decide)⟩

/-- A report with a sample and no capability part, and one with a capability part; a damaged one. -/
def plainReport : List Byte := closed [0x10, 0x00, 0x18, 0, 0, 0, 0, 0, 75, 0, 0]
def doneReport : List Byte := closed [0x10, 0x00, 0x04, 0, 0, 0, 0, 0, 0, 0, 0]
def joinReport : List Byte := closed [0x12, 0x34, 0x80, 0, 0, 0, 0, 0, 0, 0xF0, 4]

theorem test_witness_ReportTaken :
    InSlot (inSlot0 .active State.reset) 0 .active none ∧ InSlot (inSlot0 .silent State.reset) 0 .silent none ∧
      ([0] : List Byte).length < 12 ∧ 12 ≤ plainReport.length ∧
      (validReport (plainReport.take 12)).map Report.offer = some none ∧
      (validReport (plainReport.take 12)).map Report.sample = some (some 75) ∧
      (look (State.reset.onLevel 0 fun x => { x with windowOpen := true }).levels 0).windowOpen = true :=
  ⟨rfl, rfl, by decide, by decide, by decide, by decide, by decide⟩

/-- R163, R20, R195: a stamp 32,767 ms back passes and one 32,768 ms back does not; a stamp that is not present is not checked; 255
messages are taken as 16; a report whose bytes do not sum to 0 is missed. -/
theorem test_reports_valid :
    (validReport (closed [0x80, 0x00, 0x40, 0, 0x00, 0x01, 0, 0, 0, 0, 0])).map Report.press = some (some 1) ∧
      validReport (closed [0x80, 0x00, 0x40, 0, 0x00, 0x00, 0, 0, 0, 0, 0]) = none ∧
      (validReport (closed [0x80, 0x00, 0x20, 0, 0x00, 0x00, 0x7F, 0xFF, 0, 0x7F, 9])).map (fun r => (r.press, r.release, r.offer)) =
        some (none, some 0x7FFF, none) ∧
      (validReport (closed [0, 0, 0, 0xC0, 0, 0, 0, 0, 0, 0xA0, 0xFF])).map Report.offer = some (some ⟨false, true, false, 16⟩) ∧
      validReport (plainReport.set 11 1) = none := by decide

theorem test_witness_ReportTaken_read :
    plainReport.length = 12 ∧ (validReport plainReport).isSome = true ∧ ((plainReport.getD 2 0).getLsbD 6 = false) ∧
      (doneReport.getD 9 0).getLsbD 7 = false ∧ (joinReport.getD 9 0).getLsbD 7 = true := by decide

/-- A report whose press stamp lies 1 s back: its button part registers a call of station 0 and upgrades it. -/
def pressReport : List Byte := closed [0x10, 0x00, 0xC0, 0, 0x0C, 0x18, 0, 0, 0, 0, 0]

theorem test_witness_ReportTaken_button :
    InSlot (inSlot0 .active (station0 .active id State.reset)) 0 .active none ∧ 12 ≤ pressReport.length ∧
      (validReport (pressReport.take 12)).map Report.offer = some none ∧
      (validReport (pressReport.take 12)).map (fun r =>
        (look ((inSlot0 .active (station0 .active id State.reset)).takeButton 0 r).table.records 0).map CallRecord.kind) =
        some (some .extended) :=
  ⟨rfl, by decide, by decide, by decide⟩

/-- A "message done" in the slot whose command carried the playback of serial 3, and in one that carried none. -/
theorem test_witness_ReportTaken_message_done :
    (look speaking.cues.speech (speaking.store.station 0).corner).channel = .playing (entry 0 .info) 5 3 ∧
      InSlot (speaking.onBus fun b =>
        { b with slot := some { station := 0, linkAtStart := .active, playback := some 3, settled := false } }) 0 .active (some 3) ∧
      (validReport (doneReport.take 12)).map (fun r => (r.messageDone, r.offer)) = some (true, none) ∧
      0 < (speaking.store.corner (speaking.store.station 0).corner).gap ∧ (none : Option Nat) ≠ some 3 :=
  ⟨by decide, rfl, by decide, by decide, by decide⟩

theorem test_witness_StationJoins :
    InSlot (inSlot0 .absent State.reset) 0 .absent none ∧ LinkState.absent ≠ .disabled ∧ 12 ≤ joinReport.length ∧
      (validReport (joinReport.take 12)).map Report.offer = some (some ⟨true, true, true, 4⟩) :=
  ⟨rfl, by decide, by decide, by decide⟩

/-- A rejoin of a station whose INFO message is playing and whose WALK request is queued; what leaving ACTIVE does there, in a gap, on an
IDLE channel and with no gap. -/
theorem test_witness_LeavesCues :
    InSlot (inSlot0 .active speaking) 0 .active none ∧
      (look speaking.cues.speech 0).channel = .playing (entry 0 .info) 5 3 ∧ (speaking.store.station 0).corner = 0 ∧
      0 < (speaking.store.corner 0).gap ∧ ((gapless speaking).store.corner 0).gap = 0 ∧
      (look (speech0 (.gap 9) [entry 0 .walk, entry 32 .info] speaking).cues.speech 0).channel = .gap 9 ∧
      (look (speech0 .idle [entry 0 .walk, entry 32 .info] speaking).cues.speech 0).channel = .idle ∧
      (∀ e since n, (look speaking.cues.speech 0).channel = .playing e since n → n ≠ 9) ∧
      ({ PressState.reset with lastEntry := some { press := 0, release := none, ending := .opened } } : PressState).lastEntry.map
        CaptureEntry.ending = some .opened :=
  ⟨rfl, by decide, by decide, by decide, by decide, by decide, by decide, fun _ _ _ h => by cases h; decide, by decide⟩

theorem test_witness_MissedSlot :
    InSlot (inSlot0 .active State.reset) 0 .active none ∧ 12 ≤ (plainReport.set 11 0).length ∧
      validReport ((plainReport.set 11 0).take 12) = none ∧ (look State.reset.bus.stations 0).misses + 1 < 4 ∧
      4 ≤ (look (State.reset.onLink 0 fun l => { l with misses := 3 }).bus.stations 0).misses + 1 ∧
      State.reset.bus.slot = none ∧
      (inSlot0 .active State.reset).settleSlot.bus.slot =
        some { station := 0, linkAtStart := .active, playback := none, settled := true } :=
  ⟨rfl, by decide, by decide, by decide, by decide, by decide, by decide⟩

/-! ### Presses, cues, speech -/

/-- A press in a phase with a held time, and a first press of a pair. -/
def pressed (x : PressPhase) (n : Nat) : PressState :=
  { PressState.reset with
    phase := x, stamp := some 700, heldTime := n, outcome := some .taken, releaseAge := 32767
    lastEntry := some { press := 10, release := some 100, ending := .held } }

theorem test_witness_PressPhases :
    ((pressed .down 31).phase = .down ∧ (pressed .down 31).heldTime < 4 * 2 ^ (StationProfile.default 0).noiseCode) ∧
      (4 * 2 ^ (StationProfile.default 0).noiseCode ≤ (pressed .down 32).heldTime ∧
        (pressed .down 999).heldTime < (StationProfile.default 0).longThreshold ∧
        (StationProfile.default 0).longThreshold ≤ (StationProfile.default 0).stuckLimit * 1000) ∧
      ((StationProfile.default 0).longThreshold ≤ (pressed .held 1000).heldTime ∧
        (pressed .held 119999).heldTime < (StationProfile.default 0).stuckLimit * 1000) ∧
      (StationProfile.default 0).stuckLimit * 1000 ≤ (pressed .long 120000).heldTime ∧
      (pressed .down 32).stamp = some 700 ∧
      (pressed .down 32).lastEntry = some { press := 10, release := some 100, ending := .held } ∧
      (pressed .stuck 120000).phase = .stuck ∧ PressState.reset.phase = .idle ∧
      ((pressed .held 900).phase = .held ∧ ({ pressed .held 900 with doublePending := true } : PressState).doublePending = true ∧
        (StationProfile.default 0).infoMessage = none) ∧
      ((0x1000 : Tick) - 0x0FFF).toNat < ((0x1000 : Tick) - 0x0FF0).toNat := by decide

/-- Several thresholds in one advance; and each phase with none reached. -/
theorem test_witness_PressPhases_several :
    (4 * 2 ^ (StationProfile.default 0).noiseCode ≤ (pressed .down 300000).heldTime ∧
        (StationProfile.default 0).stuckLimit * 1000 ≤ (pressed .down 300000).heldTime) ∧
      ((StationProfile.default 0).longThreshold ≤ (pressed .held 120000).heldTime ∧
        (StationProfile.default 0).stuckLimit * 1000 ≤ (pressed .held 120000).heldTime) ∧
      ((pressed .held 999).heldTime < (StationProfile.default 0).longThreshold ∧
        (pressed .long 119999).heldTime < (StationProfile.default 0).stuckLimit * 1000) := by decide

/-- R23: a press down for the stuck limit qualifies, turns long and is stuck, in that order, in one advance. -/
theorem test_thresholds_all :
    (look ((press0 (fun _ => { pressed .down 120000 with outcome := none }) (station0 .active id State.reset)).thresholds 0).press
        0).phase = .stuck ∧
      ((look ((press0 (fun _ => { pressed .down 120000 with outcome := none }) (station0 .active id State.reset)).thresholds
        0).table.records 0).map CallRecord.kind) = some .extended := by decide

theorem test_witness_PeriodStart :
    (State.reset.store.station 0).corner = 0 ∧ (station0 .active id State.reset).linkState 0 = .active ∧
      (State.reset.store.station 1).corner ≠ 0 ∧
      CornerProfile.default = (look State.reset.store.corners 0).pending.getD (State.reset.store.corner 0) := by decide

theorem test_witness_SamplePointAndFilter :
    (look (after (exec (.samplePoint 0) State.reset)).cues.corners 0).samplePassed = true ∧
      (look State.reset.cues.corners 0).samplePassed = false ∧ (480 ≤ 16 * 110 ∧ 16 * 30 ≤ 1760) := by decide

theorem test_witness_SpeechChannel :
    ((look (speech0 .idle [entry 0 .walk] State.reset).cues.speech 0).queue = [entry 0 .walk] ∧ (entry 0 .walk).kind = .walk) ∧
      ((entry 0 .info).kind = .info ∧ (∀ i, (look State.reset.cues.stations i).sound ≠ .walkTone ∧
        (look State.reset.cues.stations i).sound ≠ .speech .walk)) ∧
      ((State.reset.store.station 32).corner = 0 ∧
        (look (State.reset.onCues fun g => g.onStation 32 fun x => { x with sound := .walkTone }).cues.stations 32).sound = .walkTone) ∧
      0 < (State.reset.store.corner 0).gap ∧
      ((gapless State.reset).store.corner 0).gap = 0 ∧
      (look (speech0 (.playing (entry 0 .info) 20000 0) [] State.reset).cues.speech 0).channel = .playing (entry 0 .info) 20000 0 ∧
      (look (speech0 (.gap 0) [entry 0 .walk] State.reset).cues.speech 0).channel = .gap 0 ∧
      ((look State.reset.cues.speech 0).limitLapsed = false ∧ (look State.reset.cues.speech 0).queue = []) ∧
      (look (after (exec (.playLimit 0) State.reset)).cues.speech 0).channel = .idle ∧
      (look ((speech0 (.playing (entry 0 .info) 20000 0) [] State.reset).cues.enqueueWalk State.reset.store 0 (entry 32 .walk)).speech
        0).limitLapsed = true := by decide

theorem test_witness_SpeechRequests :
    (look (speech0 (.gap 7) ([entry 0 .walk] ++ [entry 1 .info]) State.reset).cues.speech 0).queue =
        [entry 0 .walk] ++ [entry 1 .info] ∧
      (∀ x ∈ [entry 0 .walk], x.kind = .walk) ∧ (∀ x ∈ [entry 1 .info], x.kind = .info) ∧
      (∃ x ∈ [entry 0 .walk], x.station = (entry 0 .walk).station) ∧
      (∀ x ∈ [entry 0 .walk, entry 1 .walk, entry 2 .walk, entry 3 .walk], x.station ≠ (entry 32 .walk).station) ∧
      [entry 0 .walk].length + [entry 1 .info, entry 2 .info].length ≤ 3 ∧
      [entry 0 .walk].length + ([entry 1 .info, entry 2 .info] ++ [entry 3 .info]).length = 4 ∧
      ((entry 0 .info).kind = .info ∧ (look speaking.cues.speech 0).channel = .playing (entry 0 .info) 5 3) ∧
      (∀ x ∈ [entry 0 .walk, entry 1 .info], ¬ (x.station = (entry 0 .info).station ∧ x.kind = .info)) ∧
      4 ≤ [entry 1 .info, entry 2 .info, entry 3 .info, entry 4 .info].length ∧
      [] ++ [entry 0 .info] = entry 0 .info :: [] := by decide

/-- A WALK request at a full queue of four INFO entries: over an INFO playback with and without a gap, and on an IDLE channel. -/
theorem test_witness_SpeechRequests_full :
    (look (speech0 (.playing (entry 4 .info) 20000 3) ([] ++ [entry 1 .info, entry 2 .info, entry 3 .info, entry 0 .info])
        State.reset).cues.speech 0).queue = [] ++ [entry 1 .info, entry 2 .info, entry 3 .info, entry 0 .info] ∧
      ([] : List SpeechEntry).length + [entry 1 .info, entry 2 .info, entry 3 .info, entry 0 .info].length = 4 ∧
      [entry 1 .info, entry 2 .info, entry 3 .info, entry 0 .info] = [entry 1 .info, entry 2 .info, entry 3 .info] ++ [entry 0 .info] ∧
      (0 < (State.reset.store.corner 0).gap ∧ ((gapless State.reset).store.corner 0).gap = 0) ∧
      (look (speech0 .idle [entry 1 .info] State.reset).cues.speech 0).channel = .idle := by decide

/-- R133, R136, R137: a WALK request drops the youngest INFO entry of a full queue, cuts the INFO playback, and with no gap starts. -/
theorem test_walk_request_full :
    (look ((speech0 (.playing (entry 4 .info) 5 3) [entry 1 .info, entry 2 .info, entry 3 .info, entry 0 .info]
        State.reset).cues.enqueueWalk (gapless State.reset).store 0 (entry 32 .walk)).speech 0) =
      { channel := .playing (entry 32 .walk) 0 0, queue := [entry 1 .info, entry 2 .info, entry 3 .info], limitLapsed := false } ∧
    (look ((speech0 (.playing (entry 4 .info) 5 3) [entry 1 .info, entry 2 .info, entry 3 .info, entry 0 .info]
        State.reset).cues.enqueueWalk State.reset.store 0 (entry 32 .walk)).stations 0).result = .dropped := by decide

/-- A gate to be opened, over an ACTIVE station; a gate to be closed over a WALK playback and both kinds of entries of corner 0. -/
def opening : State := station0 .active id (showing .walk (calling (.walking 0) State.reset))
def closing : State :=
  speech0 (.playing (entry 0 .walk) 5 3) [entry 0 .walk, entry 0 .info] (station0 .active id (showing .clearance walking0))

/-- The entries that a closing gate of crossing 0 takes out. -/
def outOf0 (s : State) (e : SpeechEntry) : Bool := decide (e.kind = .walk ∧ (s.store.station e.station).crossing = 0)

theorem test_witness_GateSpeech :
    (∀ e, outOf0 closing e = true ↔ e.kind = .walk ∧ (closing.store.station e.station).crossing = 0) ∧
      (look walking0.cues.gates 0 = walking0.gateCondition 0) ∧
      (look opening.cues.gates 0 = false ∧ opening.gateCondition 0 = true) ∧
      (look closing.cues.gates 0 = true ∧ closing.gateCondition 0 = false) ∧
      (∀ k, ∀ e ∈ (look closing.cues.speech k).queue, outOf0 closing e = true → (closing.store.station e.station).corner = k) ∧
      (look closing.cues.speech 0).channel = .playing (entry 0 .walk) 5 3 ∧
      ((closing.store.station 0).corner = 0 ∧ 0 < (closing.store.corner 0).gap) ∧
      ((gapless closing).store.corner 0).gap = 0 :=
  ⟨fun e => by simp [outOf0], by decide, by decide, by decide, by decide, by decide, by decide, by decide⟩

/-! ### The laws -/

/-- Four stations at crossing 0, one press each; WALK entries before INFO entries; a level at the end of its range; a stuck button. -/
def busy : State :=
  press0 (fun _ => { pressed .stuck 300000 with buttonFault := true })
    (speech0 (.gap 7) [entry 0 .walk, entry 32 .walk, entry 0 .info, entry 32 .info]
      (walking0.onLevel 0 fun x => { x with ambient := 1760, output := some 89 }))

theorem test_witness_StepKeepsGates : GateLaw walking0 ∧ look walking0.cues.gates 0 = true ∧ step walking0 = .next walking0.idle :=
  ⟨walking0_lawful.2, by decide, rfl⟩

theorem test_witness_StepKeepsCalls :
    ServiceLaw fullMemo0 ∧ RequestLaw fullMemo0 ∧ step fullMemo0 = .next fullMemo0.idle :=
  ⟨fullMemo0_lawful.1, requestLaw_of (by decide) (by decide), rfl⟩

theorem test_witness_StepKeepsQueues : QueueLaw busy.cues ∧ step busy = .next busy.idle := by
  refine ⟨?_, rfl⟩
  unfold QueueLaw
  decide

theorem test_witness_StepKeepsStations : LevelLaw busy ∧ PressLaw busy ∧ step busy = .next busy.idle := by
  refine ⟨fun i => ?_, fun i => ?_, rfl⟩
  · by_cases h : i = 0
    · subst h
      refine ⟨by decide, by decide, fun o ho => ?_⟩
      have : (look busy.levels 0).output = some 89 := by decide
      rw [this] at ho
      injection ho with ho
      subst ho
      decide
    · have : look busy.levels i = LevelState.reset := by revert h; revert i; decide
      rw [this]
      exact ⟨by decide, by decide, fun o ho => by cases ho⟩
  · by_cases h : i = 0
    · subst h; refine ⟨?_, ?_, ?_, ?_, ?_⟩ <;> decide
    · have : look busy.press i = PressState.reset := by revert h; revert i; decide
      rw [this]
      refine ⟨?_, ?_, ?_, ?_, ?_⟩ <;> decide

/-- Line B is INACTIVE with a flag waiting; the software timer is at its longest. -/
theorem test_witness_StepKeepsHolds :
    TimerLaw (after (exec (.setHold 1 3600) (held .high { HoldFlags.reset with b := true, waitB := true } State.reset))).holds ∧
      WaitLaw (after (exec (.setHold 1 3600) (held .high { HoldFlags.reset with b := true, waitB := true } State.reset))) := by
  refine ⟨fun t h => ?_, ?_⟩
  · have : (after (exec (.setHold 1 3600) (held .high { HoldFlags.reset with b := true, waitB := true } State.reset))).holds.timer =
        some 3600000 := by decide
    rw [this] at h
    injection h with h
    omega
  · intro c l
    cases l
    · revert c; decide
    · revert c; decide

theorem test_witness_StepKeepsAssignments : AssignmentLaw (crowded 0).store := by
  unfold AssignmentLaw
  decide

end Sys2Proof.Tests
end

/-! The clearance advice (R83): the quotient rounded up is the least whole number that covers the distance, and a slower
walk is never given less. -/

namespace Sys2Proof.Machine

/-! ## The quotient rounded up -/

theorem ceilDiv_le_iff {a b n : Nat} (hb : 0 < b) : ceilDiv a b ≤ n ↔ a ≤ n * b := by
  have library_form : ceilDiv a b = a ⌈/⌉ b := (Nat.ceilDiv_eq_add_pred_div a b).symm
  rw [library_form, ceilDiv_le_iff_le_mul hb, Nat.mul_comm]

theorem le_ceilDiv_mul {a b : Nat} (hb : 0 < b) : a ≤ ceilDiv a b * b :=
  (ceilDiv_le_iff hb).mp le_rfl

theorem ceilDiv_anti {a b c : Nat} (hb : 0 < b) (hbc : b ≤ c) : ceilDiv a c ≤ ceilDiv a b :=
  (ceilDiv_le_iff (hb.trans_le hbc)).mpr ((le_ceilDiv_mul hb).trans (Nat.mul_le_mul_left _ hbc))

/-! ## One clearance -/

theorem clearanceAt_eq_least {length speed : Nat} (hs : 0 < speed) :
    ∃ q, length * 100 ≤ q * speed ∧ (∀ n, length * 100 ≤ n * speed → q ≤ n) ∧ clearanceAt length speed = min q 600 :=
  ⟨ceilDiv (length * 100) speed, le_ceilDiv_mul hs, fun _ => (ceilDiv_le_iff hs).mpr, rfl⟩

theorem clearanceAt_le_cap (length speed : Nat) : clearanceAt length speed ≤ 600 :=
  Nat.min_le_right _ _

theorem clearanceAt_anti {length slow fast : Nat} (hs : 0 < slow) (hle : slow ≤ fast) :
    clearanceAt length fast ≤ clearanceAt length slow :=
  min_le_min_right _ (ceilDiv_anti hs hle)

/-- R83's smallest clearance: 30 dm at 150 cm/s. -/
theorem twenty_le_clearanceAt {length speed : Nat} (hl : 30 ≤ length) (h0 : 0 < speed) (hs : speed ≤ 150) :
    20 ≤ clearanceAt length speed := by
  have nineteen_too_few : ¬ ceilDiv (length * 100) speed ≤ 19 := by
    rw [ceilDiv_le_iff h0]
    omega
  exact le_min (Nat.lt_of_not_le nineteen_too_few) (by decide)

/-! ## The advice for a record -/

/-- Settles O13: the standard and the extended clearance are one computation at two speeds, and the extended speed is the slower. -/
theorem clearanceAdvice : Obligations.ClearanceAdvice := by
  intro p hlength _ hstandard hfast hextended hslower
  have standard_pos : 0 < p.standardSpeed := by omega
  have extended_pos : 0 < p.extendedSpeed := by omega
  have standard_le_extended : p.standardClearance ≤ p.extendedClearance := clearanceAt_anti extended_pos hslower
  exact ⟨clearanceAt_eq_least standard_pos, clearanceAt_eq_least extended_pos, rfl,
    Nat.add_sub_of_le standard_le_extended, twenty_le_clearanceAt hlength standard_pos hfast, clearanceAt_le_cap _ _⟩

end Sys2Proof.Machine

/-! NO REQUEST and IDENTIFY (R180): each is spelled by a frame of no fields, and answering is all that either does. -/

namespace Sys2Proof.Machine

/-! ## A frame that passes the checks of R177 -/

theorem decodeFrame_eq_ok {kind len : Byte} {rest : List Byte} {i : Instr} (hlen : fieldLength kind.toNat = some len.toNat)
    (hrest : len.toNat ≤ rest.length) (hfields : decodeFields kind.toNat (rest.take len.toNat) = some i) :
    decodeFrame (kind :: len :: rest) = .ok i := by
  have not_short : ¬ rest.length < len.toNat := Nat.not_lt.mpr hrest
  simp [decodeFrame, hlen, not_short, hfields]

/-! ## The two requests as answers -/

theorem exec_noRequest (s : State) : exec .noRequest s = .next (s.answer .none) := rfl

theorem exec_identify (s : State) : exec .identify s = .next (s.respond .ok identifyFields) := rfl

/-- The pending response is only the last one given (R176). -/
@[simp] theorem State.answer_answer (s : State) (x y : Status) : (s.answer x).answer y = s.answer y := rfl

/-- The part code 2448 in two bytes, then the revision 1 (R193). -/
theorem identifyFields_eq : identifyFields = [0x09, 0x90, 0x01] := by decide

/-- Settles O7: both requests only answer, and a second NONE replaces the first by itself. -/
theorem noRequestAndIdentify : Obligations.NoRequestAndIdentify := by
  intro s
  have second_none : exec .noRequest (s.answer .none) = .next (s.answer .none) := by
    rw [exec_noRequest, State.answer_answer]
  refine ⟨decodeFrame_eq_ok rfl (by decide) rfl, decodeFrame_eq_ok rfl (by decide) rfl, exec_noRequest s, second_none, ?_⟩
  rw [exec_identify, identifyFields_eq, State.respond]

end Sys2Proof.Machine

/-! Searching the Call Table: what a search finds, in the words of the statements (HasRecord, OnlyRecord, HasFree). -/

namespace Sys2Proof.Machine

section Searches

variable {t : CallTable} {c : Crossing} {q : CallState → Bool} {i : RecordSlot} {r : CallRecord}

theorem recordSearch_isSome :
    (firstWhere fun i => recordIs c q (look t.records i)).isSome = true ↔ HasRecord t c q := by
  simp only [firstWhere_isSome, recordIs_iff, HasRecord, RecordAt, and_assoc]

theorem recordSearch_none :
    (firstWhere fun i => recordIs c q (look t.records i)) = none ↔ ¬ HasRecord t c q := by
  rw [← recordSearch_isSome, Option.not_isSome_iff_eq_none]

theorem recordSearch_some (h : (firstWhere fun i => recordIs c q (look t.records i)) = some i) :
    ∃ r, RecordAt t c i r ∧ q r.state = true := by
  obtain ⟨r, hr, hc, hq⟩ := recordIs_iff.1 (firstWhere_some h)
  exact ⟨r, ⟨hr, hc⟩, hq⟩

/-- The one record of a kind is the one found. -/
theorem OnlyRecord.search (h : OnlyRecord t c q i r) :
    (firstWhere fun i => recordIs c q (look t.records i)) = some i := by
  obtain ⟨hr, hq, only⟩ := h
  have found : (firstWhere fun i => recordIs c q (look t.records i)).isSome = true :=
    recordSearch_isSome.2 ⟨i, r, hr, hq⟩
  obtain ⟨j, hj⟩ := Option.isSome_iff_exists.1 found
  obtain ⟨p, hp, hpq⟩ := recordSearch_some hj
  rw [hj, only j p hp hpq]

theorem OnlyRecord.hasRecord (h : OnlyRecord t c q i r) : HasRecord t c q := ⟨i, r, h.1, h.2.1⟩

theorem waitingSlot_isSome : (t.waitingSlot c).isSome = true ↔ HasRecord t c CallState.isWaiting := recordSearch_isSome
theorem servingSlot_isSome : (t.servingSlot c).isSome = true ↔ HasRecord t c CallState.isServing := recordSearch_isSome
theorem grantedSlot_isSome : (t.grantedSlot c).isSome = true ↔ HasRecord t c CallState.isGranted := recordSearch_isSome
theorem walkingSlot_isSome : (t.walkingSlot c).isSome = true ↔ HasRecord t c CallState.isWalking := recordSearch_isSome

theorem waitingSlot_eq_none : t.waitingSlot c = none ↔ ¬ HasRecord t c CallState.isWaiting := recordSearch_none
theorem servingSlot_eq_none : t.servingSlot c = none ↔ ¬ HasRecord t c CallState.isServing := recordSearch_none
theorem grantedSlot_eq_none : t.grantedSlot c = none ↔ ¬ HasRecord t c CallState.isGranted := recordSearch_none
theorem walkingSlot_eq_none : t.walkingSlot c = none ↔ ¬ HasRecord t c CallState.isWalking := recordSearch_none
theorem joinableSlot_eq_none : t.joinableSlot c = none ↔ ¬ HasRecord t c CallState.isJoinable := recordSearch_none

theorem OnlyRecord.waitingSlot (h : OnlyRecord t c CallState.isWaiting i r) : t.waitingSlot c = some i := h.search
theorem OnlyRecord.servingSlot (h : OnlyRecord t c CallState.isServing i r) : t.servingSlot c = some i := h.search
theorem OnlyRecord.grantedSlot (h : OnlyRecord t c CallState.isGranted i r) : t.grantedSlot c = some i := h.search
theorem OnlyRecord.walkingSlot (h : OnlyRecord t c CallState.isWalking i r) : t.walkingSlot c = some i := h.search
theorem OnlyRecord.joinableSlot (h : OnlyRecord t c CallState.isJoinable i r) : t.joinableSlot c = some i := h.search

theorem freeSlot_isSome : t.freeSlot.isSome = true ↔ HasFree t := by
  simp [CallTable.freeSlot, firstWhere_isSome, HasFree]

theorem freeSlot_eq_none : t.freeSlot = none ↔ ¬ HasFree t := by
  rw [← freeSlot_isSome, Option.not_isSome_iff_eq_none]

/-- A GRANTED, WALKING or CLEARING state serves (R36). -/
theorem CallState.isServing_of_isGranted {x : CallState} (h : x.isGranted = true) : x.isServing = true := by
  cases x <;> simp_all [CallState.isGranted, CallState.isServing, CallState.isWaiting]

theorem CallState.isServing_of_isWalking {x : CallState} (h : x.isWalking = true) : x.isServing = true := by
  cases x <;> simp_all [CallState.isWalking, CallState.isServing, CallState.isWaiting]

theorem CallState.isWaiting_iff {x : CallState} : x.isWaiting = true ↔ x = .waiting := by
  cases x <;> simp [CallState.isWaiting]

theorem CallState.isServing_eq_false {x : CallState} : x.isServing = false ↔ x = .waiting := by
  simp [CallState.isServing, CallState.isWaiting_iff]

theorem HasRecord.mono {q' : CallState → Bool} (hq : ∀ x, q x = true → q' x = true) (h : HasRecord t c q) :
    HasRecord t c q' := by
  obtain ⟨i, r, hr, hs⟩ := h
  exact ⟨i, r, hr, hq _ hs⟩

/-- The one serving record, where it is GRANTED or WALKING, is the one such record. -/
theorem OnlyRecord.narrow {q' : CallState → Bool} (hq : ∀ x, q' x = true → q x = true) (h : OnlyRecord t c q i r)
    (hr : q' r.state = true) : OnlyRecord t c q' i r :=
  ⟨h.1, hr, fun j p hp hs => h.2.2 j p hp (hq _ hs)⟩

theorem OnlyRecord.no_other {q' : CallState → Bool} (hq : ∀ x, q' x = true → q x = true) (h : OnlyRecord t c q i r)
    (hr : q' r.state = false) : ¬ HasRecord t c q' := by
  rintro ⟨j, p, hp, hs⟩
  have hj := h.2.2 j p hp (hq _ hs)
  subst hj
  have hpr : p = r := Option.some.inj (hp.1.symm.trans h.1.1)
  rw [hpr, hr] at hs
  cases hs

end Searches

section Lawful

variable {s : State} {c : Crossing} {i : RecordSlot} {r : CallRecord}

/-- In a lawful table a crossing's WAITING record is the only one (R36). -/
theorem ServiceLaw.onlyWaiting (h : ServiceLaw s) (hr : RecordAt s.table c i r) (hw : r.state = .waiting) :
    OnlyRecord s.table c CallState.isWaiting i r := by
  have waiting : r.state.isWaiting = true := CallState.isWaiting_iff.2 hw
  exact ⟨hr, waiting, fun j q hq hqw =>
    h.oneOfGroup j i q r hq.1 hr.1 (hq.2.trans hr.2.symm) (hqw.trans waiting.symm)⟩

/-- In a lawful table a crossing's serving record is the only one (R36). -/
theorem ServiceLaw.onlyServing (h : ServiceLaw s) (hr : RecordAt s.table c i r) (hs : r.state.isServing = true) :
    OnlyRecord s.table c CallState.isServing i r := by
  refine ⟨hr, hs, fun j q hq hqs => h.oneOfGroup j i q r hq.1 hr.1 (hq.2.trans hr.2.symm) ?_⟩
  simp only [CallState.isServing, Bool.not_eq_true'] at hs hqs
  rw [hs, hqs]

theorem ServiceLaw.onlyGranted (h : ServiceLaw s) (hr : RecordAt s.table c i r) (hg : r.state.isGranted = true) :
    OnlyRecord s.table c CallState.isGranted i r :=
  (h.onlyServing hr (CallState.isServing_of_isGranted hg)).narrow (fun _ => CallState.isServing_of_isGranted) hg

end Lawful

/-! ## Tables read back -/

section Tables

variable {α : Type} {n : Nat} {v w : Vector α n} {i : Fin n}

theorem Beside.refl (v : Vector α n) (i : Fin n) : Beside v v i := fun _ _ => rfl

theorem Beside.trans {u : Vector α n} (h : Beside v w i) (k : Beside w u i) : Beside v u i :=
  fun j hj => (k j hj).trans (h j hj)

theorem Beside.of_eq (h : w = v) : Beside v w i := fun j _ => by rw [h]

@[simp] theorem beside_put (v : Vector α n) (i : Fin n) (a : α) : Beside v (put v i a) i := fun _ hj => look_put_ne v hj a

@[simp] theorem beside_change (v : Vector α n) (i : Fin n) (f : α → α) : Beside v (change v i f) i :=
  fun _ hj => look_change_ne v hj f

@[simp] theorem put_look_self (v : Vector α n) (i : Fin n) : put v i (look v i) = v := by
  apply table_ext
  intro j
  rw [look_put]
  split <;> simp_all

theorem change_eq_put (v : Vector α n) (i : Fin n) (f : α → α) : change v i f = put v i (f (look v i)) := rfl

@[simp] theorem put_put (v : Vector α n) (i : Fin n) (a b : α) : put (put v i a) i b = put v i b := by
  apply table_ext
  intro j
  simp only [look_put]
  split <;> rfl

theorem Beside.put_eq (h : Beside v w i) : w = put v i (look w i) := by
  apply table_ext
  intro j
  rw [look_put]
  split
  case isTrue hj => rw [hj]
  case isFalse hj => exact h j hj

end Tables

end Sys2Proof.Machine

/-! What an event at a crossing can touch, said once: another crossing keeps its profile, lamps, grants, flags, gate and records, and
gains at most the WAITING record made of its own memo. -/

namespace Sys2Proof.Machine

/-- From t to u, only records of crossing c change, but that a present memo may become its crossing's WAITING record. -/
structure CallTable.OnlyAt (c : Crossing) (t u : CallTable) : Prop where
  keeps : ∀ k r, look t.records k = some r → r.crossing ≠ c → look u.records k = some r
  gains : ∀ k r, look u.records k = some r → r.crossing ≠ c →
    look t.records k = some r ∨ r.state = .waiting ∧ (look t.memos r.crossing).isSome = true
  memos : ∀ d, (look u.memos d).isSome = true → (look t.memos d).isSome = true

namespace CallTable.OnlyAt

variable {c : Crossing} {t u v : CallTable}

theorem of_records (hr : u.records = t.records) (hm : ∀ d, (look u.memos d).isSome = true → (look t.memos d).isSome = true) :
    OnlyAt c t u where
  keeps k r h _ := by rwa [hr]
  gains k r h _ := by rw [hr] at h; exact .inl h
  memos := hm

theorem refl (c : Crossing) (t : CallTable) : OnlyAt c t t := of_records rfl fun _ => id

theorem trans (h : OnlyAt c t u) (k : OnlyAt c u v) : OnlyAt c t v where
  keeps i r hr hc := k.keeps i r (h.keeps i r hr hc) hc
  gains i r hr hc := by
    rcases k.gains i r hr hc with old | ⟨hw, hm⟩
    · exact h.gains i r old hc
    · exact .inr ⟨hw, h.memos _ hm⟩
  memos d hd := h.memos d (k.memos d hd)

/-- A change of a record of c that stays a record of c. -/
theorem edit {k : RecordSlot} {r : CallRecord} (hr : RecordAt t c k r) (f : CallRecord → CallRecord)
    (hf : ∀ r, (f r).crossing = r.crossing) : OnlyAt c t (t.edit k f) := by
  refine ⟨fun i q hq hc => ?_, fun i q hq hc => ?_, fun _ => id⟩
  · rw [CallTable.edit_look]
    split
    case isFalse => exact hq
    case isTrue hi =>
      subst hi
      rw [hr.1] at hq
      exact absurd hr.2 (Option.some.inj hq ▸ hc)
  · rw [CallTable.edit_look] at hq
    split at hq
    case isFalse => exact .inl hq
    case isTrue hi =>
      subst hi
      rw [hr.1] at hq
      exact absurd hr.2 (by rw [← hf r]; exact Option.some.inj hq ▸ hc)

theorem fill {k : RecordSlot} {r : CallRecord} (hk : look t.records k = none) (hr : r.crossing = c) :
    OnlyAt c t (t.fill k r) := by
  refine ⟨fun i q hq hc => ?_, fun i q hq hc => ?_, fun _ => id⟩
  · rw [CallTable.fill_look]
    split
    case isFalse => exact hq
    case isTrue hi =>
      subst hi
      rw [hk] at hq
      cases hq
  · rw [CallTable.fill_look] at hq
    split at hq
    case isFalse => exact .inl hq
    case isTrue => exact absurd hr (Option.some.inj hq ▸ hc)

theorem clearMemo (c d : Crossing) (t : CallTable) : OnlyAt c t (t.clearMemo d) := by
  refine of_records (by simp) fun e he => ?_
  rw [CallTable.clearMemo_memos, look_put] at he
  split at he
  case isTrue => cases he
  case isFalse => exact he

/-- An allocation touches the crossing of the memo alone, by making its WAITING record (R54). -/
theorem allocate (p : ProfileStore) (c : Crossing) (t : CallTable) : OnlyAt c t (t.allocate p) := by
  rcases allocate_cases t p with ⟨-, same⟩ | ⟨i, d, m, hi, -, hm, made⟩
  · rw [same]; exact refl c t
  · have free := freeSlot_some hi
    rw [made]
    refine ⟨fun k r hr _ => ?_, fun k r hr _ => ?_, fun e he => ?_⟩
    · have hk : k ≠ i := by
        rintro rfl
        rw [free] at hr
        cases hr
      simpa [hk] using hr
    · by_cases hk : k = i
      · simp only [CallTable.retarget_records, CallTable.fill_look, hk, if_true, Option.some.injEq] at hr
        subst hr
        exact .inr ⟨rfl, by simp [newRecord, hm]⟩
      · exact .inl (by simpa [hk] using hr)
    · simp only [CallTable.retarget_memos, look_put] at he
      split at he
      case isTrue => cases he
      case isFalse => exact he

/-- Freeing a record of c, and clearing the targets naming it. -/
theorem free {k : RecordSlot} {r : CallRecord} (hr : RecordAt t c k r) (x y : Target) :
    OnlyAt c t ({ t with records := put t.records k none }.retarget x y) := by
  refine ⟨fun i q hq hc => ?_, fun i q hq hc => ?_, fun _ => by simp⟩
  · have hi : i ≠ k := by
      rintro rfl
      rw [hr.1] at hq
      exact hc (Option.some.inj hq ▸ hr.2)
    simpa [look_put_ne _ hi] using hq
  · simp only [CallTable.retarget_records, look_put] at hq
    split at hq
    case isTrue => cases hq
    case isFalse => exact .inl hq

theorem remove {k : RecordSlot} {r : CallRecord} (p : ProfileStore) (hr : RecordAt t c k r) : OnlyAt c t (t.remove p k) :=
  (free hr _ _).trans (allocate p c _)

theorem transfer (p : ProfileStore) (was : Bool) (t : CallTable) : OnlyAt c t (t.transfer p c was) := by
  unfold CallTable.transfer
  split
  case isTrue =>
    split
    next k hk =>
      obtain ⟨r, hr, hc, -⟩ := waitingSlot_some hk
      exact edit ⟨hr, hc⟩ _ (by simp)
    next => exact refl c t
  case isFalse =>
    split
    case isTrue =>
      dsimp only
      split
      next k hk =>
        obtain ⟨r, hr, hc, -⟩ := waitingSlot_some hk
        exact (clearMemo c c t).trans (remove p ⟨hr, hc⟩)
      next => exact clearMemo c c t
    case isFalse => exact refl c t

/-- A search for WALKING records at another crossing answers as before. -/
theorem walking (h : OnlyAt c t u) {d : Crossing} (hd : d ≠ c) :
    HasRecord u d CallState.isWalking ↔ HasRecord t d CallState.isWalking := by
  constructor
  · rintro ⟨k, r, hr, hw⟩
    rcases h.gains k r hr.1 (hr.2 ▸ hd) with old | ⟨waiting, -⟩
    · exact ⟨k, r, ⟨old, hr.2⟩, hw⟩
    · rw [waiting] at hw
      cases hw
  · rintro ⟨k, r, hr, hw⟩
    exact ⟨k, r, ⟨h.keeps k r hr.1 (hr.2 ▸ hd), hr.2⟩, hw⟩

end CallTable.OnlyAt

/-- The state s with what an event at a crossing can change taken from t. -/
def State.withCrossings (s t : State) : State :=
  { s with
    store := { s.store with crossings := t.store.crossings }
    table := t.table, grants := t.grants, aspects := t.aspects
    holds := { s.holds with flags := t.holds.flags }
    cues := t.cues }

/-- From s to t, nothing changes but at crossing c, memos of other crossings that become records aside. -/
structure OnlyAt (c : Crossing) (s t : State) : Prop where
  frame : t = s.withCrossings t
  profiles : Beside s.store.crossings t.store.crossings c
  lamps : Beside s.aspects t.aspects c
  grants : Beside s.grants t.grants c
  flags : Beside s.holds.flags t.holds.flags c
  gates : Beside s.cues.gates t.cues.gates c
  corners : t.cues.corners = s.cues.corners
  table : s.table.OnlyAt c t.table

namespace OnlyAt

variable {c : Crossing} {s t u : State}

theorem refl (c : Crossing) (s : State) : OnlyAt c s s :=
  ⟨rfl, .refl _ _, .refl _ _, .refl _ _, .refl _ _, .refl _ _, rfl, .refl _ _⟩

theorem trans (h : OnlyAt c s t) (k : OnlyAt c t u) : OnlyAt c s u where
  frame := k.frame.trans (congrArg (fun x => x.withCrossings u) h.frame)
  profiles := h.profiles.trans k.profiles
  lamps := h.lamps.trans k.lamps
  grants := h.grants.trans k.grants
  flags := h.flags.trans k.flags
  gates := h.gates.trans k.gates
  corners := k.corners.trans h.corners
  table := h.table.trans k.table

theorem onTable {f : CallTable → CallTable} (h : s.table.OnlyAt c (f s.table)) : OnlyAt c s (s.onTable f) :=
  { refl c s with frame := rfl, table := h }

theorem onGrant (f : GrantState → GrantState) : OnlyAt c s (s.onGrant c f) :=
  { refl c s with frame := rfl, grants := beside_change _ _ _ }

theorem onAspect (f : AspectState → AspectState) : OnlyAt c s (s.onAspect c f) :=
  { refl c s with frame := rfl, lamps := beside_change _ _ _ }

theorem completeWaits (s : State) : OnlyAt c s (s.completeWaits c) :=
  { refl c s with frame := rfl, flags := beside_change _ _ _ }

/-- A new entry in the crossing's own place of the Profile Store. -/
theorem putProfile (x : Copies CrossingProfile) :
    OnlyAt c s (s.onStore fun p => { p with crossings := put p.crossings c x }) :=
  { refl c s with frame := rfl, profiles := beside_put _ _ _ }

theorem removeRecord {i : RecordSlot} {r : CallRecord} (hr : RecordAt s.table c i r) : OnlyAt c s (s.removeRecord i) :=
  onTable (.remove _ hr)

/-- A record found at c and moved to another state. -/
theorem moveRecord {i : RecordSlot} {r : CallRecord} (hr : RecordAt s.table c i r) (x : CallState) :
    OnlyAt c s (s.onTable fun t => t.edit i (moveTo x)) :=
  onTable (.edit hr _ (fun _ => rfl))

theorem dropService (s : State) : OnlyAt c s (s.dropService c) := by
  unfold State.dropService
  split
  next => exact refl c s
  next i hi =>
    split
    next k hk =>
      obtain ⟨r, hr, hc, -⟩ := grantedSlot_some hk
      exact moveRecord ⟨hr, hc⟩ _
    next =>
      obtain ⟨r, hr, hc, -⟩ := servingSlot_some hi
      exact removeRecord ⟨hr, hc⟩

theorem raiseFault (kind : FaultKind) (s : State) : OnlyAt c s (s.raiseFault c kind) :=
  ((onAspect _).trans (dropService _)).trans (onGrant _)

theorem furtherFault (s : State) : OnlyAt c s (s.furtherFault c) := onAspect _

theorem walkDeclared (s : State) : OnlyAt c s (s.walkDeclared c) := by
  unfold State.walkDeclared
  split
  next i hi =>
    obtain ⟨r, hr, hc, -⟩ := grantedSlot_some hi
    exact moveRecord ⟨hr, hc⟩ _
  next =>
    split
    next i hi =>
      obtain ⟨r, hr, hc, -⟩ := waitingSlot_some hi
      exact moveRecord ⟨hr, hc⟩ _
    next =>
      unfold CallTable.makeRecall
      split
      next t ht =>
        split at ht
        next k hk =>
          obtain rfl := Option.some.inj ht
          exact { refl c s with frame := rfl, table := .fill (freeSlot_some hk) rfl }
        next => cases ht
      next => exact onGrant _

theorem clearanceDeclared (s : State) : OnlyAt c s (s.clearanceDeclared c) := by
  unfold State.clearanceDeclared
  split
  next i hi =>
    obtain ⟨r, hr, hc, -⟩ := walkingSlot_some hi
    exact onTable (.edit ⟨hr, hc⟩ _ (by simp))
  next =>
    split
    · exact onGrant _
    · exact refl c s
    · exact refl c s

theorem dontWalkDeclared (s : State) : OnlyAt c s (s.dontWalkDeclared c) := by
  unfold State.dontWalkDeclared
  split
  next i hi =>
    obtain ⟨r, hr, hc, -⟩ := servingSlot_some hi
    split
    next k _ hk =>
      obtain ⟨q, hq, hqc, -⟩ := walkingSlot_some hk
      exact (removeRecord ⟨hq, hqc⟩).trans (onGrant _)
    next => exact refl c s
    next => exact removeRecord ⟨hr, hc⟩
  next =>
    split
    · exact refl c s
    · exact onGrant _
    · exact onGrant _

theorem handDeclaration (a : Aspect) (s : State) : OnlyAt c s (s.handDeclaration c a) := by
  cases a
  case dontWalk => exact dontWalkDeclared s
  case walk => exact walkDeclared s
  case clearance => exact clearanceDeclared s
  case unknown => exact refl c s
  case dark => exact refl c s
  case conflict => exact refl c s

/-- The sequence check of an enabled crossing that is not FAULTED: a fault, or the aspect handed on. -/
theorem checked (k : Option FaultKind) (a : Aspect) (s : State) :
    OnlyAt c s (match k with
      | none => s.handDeclaration c a
      | some kind => s.raiseFault c kind) := by
  cases k
  case none => exact handDeclaration a s
  case some kind => exact raiseFault kind s

theorem declare (a : Aspect) (s : State) : OnlyAt c s (s.declare c a) := by
  have observed : OnlyAt c s (s.onAspect c fun x => { x with observed := a }) := onAspect _
  have judged : OnlyAt c s
      (if (s.store.crossing c).enabled then
        match (look s.aspects c).fault with
        | none =>
          match (s.onAspect c fun x => { x with observed := a }).checkSequence c (look s.aspects c).observed a with
          | none => (s.onAspect c fun x => { x with observed := a }).handDeclaration c a
          | some kind => (s.onAspect c fun x => { x with observed := a }).raiseFault c kind
        | some _ =>
          match sequenceFault (look s.aspects c).observed a false (s.store.crossing c).recallPermitted
            (s.store.crossing c).darkPermitted with
          | none => s.onAspect c fun x => { x with observed := a }
          | some _ => (s.onAspect c fun x => { x with observed := a }).furtherFault c
      else s.onAspect c fun x => { x with observed := a }) := by
    split
    case isTrue =>
      split
      next => exact observed.trans (checked _ a _)
      next =>
        split
        · exact observed
        · exact observed.trans (furtherFault _)
    case isFalse => exact observed
  unfold State.declare
  dsimp only
  split
  case isTrue => exact judged.trans (completeWaits _)
  case isFalse => exact judged

theorem retest (s : State) : OnlyAt c s (s.retest c) := by
  unfold State.retest
  split
  next => exact onAspect _
  next =>
    dsimp only
    split
    · exact onAspect _
    · exact (onAspect _).trans (declare _ _)

theorem enablingCheck (s : State) : OnlyAt c s (s.enablingCheck c) := by
  unfold State.enablingCheck
  split
  next => exact refl c s
  next =>
    split
    next => exact refl c s
    next =>
      split
      · exact handDeclaration _ s
      · exact raiseFault _ s

theorem enablingLimit (s : State) : OnlyAt c s (s.enablingLimit c) := by
  unfold State.enablingLimit
  split
  next =>
    split
    · exact (onAspect _).trans (raiseFault _ _)
    · exact refl c s
  next => exact refl c s

theorem transferCrossing (new : CrossingProfile) (s : State) : OnlyAt c s (s.transferCrossing c new) := by
  have stored := putProfile (c := c) (s := s) { active := new, pending := none }
  have called : OnlyAt c s _ := stored.trans
    (onTable (f := fun t => t.transfer (s.onStore fun p => { p with crossings := put p.crossings c { active := new, pending := none } }).store
      c (s.store.crossing c).enabled) (.transfer _ _ _))
  have ended : OnlyAt c s
      (if new.enabled then
        (s.onStore fun p => { p with crossings := put p.crossings c { active := new, pending := none } }).onTable
          fun t => t.transfer (s.onStore fun p => { p with crossings := put p.crossings c { active := new, pending := none } }).store
            c (s.store.crossing c).enabled
      else
        ((s.onStore fun p => { p with crossings := put p.crossings c { active := new, pending := none } }).onTable
          fun t => t.transfer (s.onStore fun p => { p with crossings := put p.crossings c { active := new, pending := none } }).store
            c (s.store.crossing c).enabled).onGrant c fun g => { g with unrecorded := .none }) := by
    split
    · exact called
    · exact called.trans (onGrant _)
  unfold State.transferCrossing
  dsimp only
  split
  · exact ((ended.trans (enablingCheck _)).trans (retest _)).trans (enablingLimit _)
  · exact ended.trans (retest _)

theorem testTransfer (s : State) : OnlyAt c s (s.testTransfer c) := by
  unfold State.testTransfer
  split
  next => exact refl c s
  next =>
    split
    · exact transferCrossing _ s
    · exact refl c s

theorem findGate (s : State) : OnlyAt c s (s.findGate c) where
  frame := by
    unfold State.findGate
    (repeat' split) <;> rfl
  profiles := .of_eq (by simp)
  lamps := .of_eq (by simp)
  grants := .of_eq (by simp)
  flags := .of_eq (by simp)
  gates _ hd := State.findGate_look_ne s hd
  corners := by
    unfold State.findGate
    (repeat' split) <;> simp
  table := by
    rw [State.findGate_table]
    exact .refl _ _

theorem settleCrossing (s : State) : OnlyAt c s (s.settleCrossing c) := (testTransfer s).trans (findGate _)

theorem limitReached (s : State) : OnlyAt c s (s.limitReached c) := by
  unfold State.limitReached
  split
  case isTrue =>
    split
    · exact raiseFault _ s
    · exact furtherFault s
  case isFalse => exact refl c s

theorem takeLimit (s : State) : OnlyAt c s (s.takeLimit c) := by
  unfold State.takeLimit
  split
  next => exact refl c s
  next =>
    split
    · exact refl c s
    · exact ((onAspect _).trans (limitReached _)).trans (settleCrossing _)

/-- The gate's condition of another crossing is as it was (R121). -/
theorem gateCondition (h : OnlyAt c s t) {d : Crossing} (hd : d ≠ c) : t.gateCondition d = s.gateCondition d := by
  have walking : (t.table.walkingSlot d).isSome = (s.table.walkingSlot d).isSome := by
    rw [Bool.eq_iff_iff, walkingSlot_isSome, walkingSlot_isSome]
    exact h.table.walking hd
  simp only [State.gateCondition, ProfileStore.crossing, walking, h.lamps d hd, h.flags d hd, h.profiles d hd]

end OnlyAt

/-! ## The events at a crossing -/

/-- The commands that are an event at crossing c. -/
def Instr.IsAt (c : Crossing) (i : Instr) : Prop :=
  (∃ w d, i = .lampLineChange c w d) ∨ (∃ l m, i = .steadyTimeReached c l m) ∨ i = .undecodableLimit c ∨
    i = .grantWindowExpiry c ∨ i = .crossingTransfer c ∨ i = .cycleWaitComplete c

theorem exec_lampLineChange (c : Crossing) (w d : Bool) (s : State) : exec (.lampLineChange c w d) s =
    .next (((s.onAspect c (AspectState.changeLines w d)).retest c).settleCrossing c) := rfl

theorem exec_steadyTimeReached (c : Crossing) (l : LampLine) (m : SteadyMark) (s : State) :
    exec (.steadyTimeReached c l m) s =
      .next (((s.onAspect c (AspectState.reach l (markTime m (s.store.crossing c).settle))).retest c).settleCrossing c) := rfl

theorem exec_crossingTransfer (c : Crossing) (s : State) : exec (.crossingTransfer c) s = .next (s.settleCrossing c) := rfl

theorem exec_undecodableLimit (c : Crossing) (s : State) : exec (.undecodableLimit c) s =
    .next (if (look s.aspects c).limitLapsed then s.onAspect c fun x => { x with limitLapsed := false } else s.takeLimit c) := by
  simp only [exec, execUndecodableLimit]
  split <;> rfl

theorem exec_cycleWaitComplete (c : Crossing) (s : State) : exec (.cycleWaitComplete c) s =
    .next (if (look s.aspects c).observed = .dontWalk then (s.completeWaits c).findGate c else s) := by
  simp only [exec, execCycleWaitComplete]
  split <;> rfl

theorem exec_grantWindowExpiry_some {c : Crossing} {s : State} {i : RecordSlot} (h : s.table.grantedSlot c = some i) :
    exec (.grantWindowExpiry c) s = .next
      (((s.onTable fun t => t.edit i (moveTo .waiting)).onGrant c fun g => { g with expired := true }).settleCrossing c) := by
  simp [exec, execGrantWindowExpiry, h]

theorem exec_grantWindowExpiry_none {c : Crossing} {s : State} (h : s.table.grantedSlot c = none) :
    exec (.grantWindowExpiry c) s = .next s := by
  simp [exec, execGrantWindowExpiry, h]

theorem exec_onlyAt {c : Crossing} {i : Instr} (hi : Instr.IsAt c i) (s : State) :
    ∃ t, exec i s = .next t ∧ OnlyAt c s t := by
  rcases hi with ⟨w, d, rfl⟩ | ⟨l, m, rfl⟩ | rfl | rfl | rfl | rfl
  · exact ⟨_, exec_lampLineChange c w d s, ((OnlyAt.onAspect _).trans (.retest _)).trans (.settleCrossing _)⟩
  · exact ⟨_, exec_steadyTimeReached c l m s, ((OnlyAt.onAspect _).trans (.retest _)).trans (.settleCrossing _)⟩
  · refine ⟨_, exec_undecodableLimit c s, ?_⟩
    split
    · exact .onAspect _
    · exact .takeLimit s
  · cases hg : s.table.grantedSlot c
    case none => exact ⟨s, exec_grantWindowExpiry_none hg, .refl c s⟩
    case some i =>
      obtain ⟨r, hr, hc, -⟩ := grantedSlot_some hg
      exact ⟨_, exec_grantWindowExpiry_some hg, ((OnlyAt.moveRecord ⟨hr, hc⟩ _).trans (.onGrant _)).trans (.settleCrossing _)⟩
  · exact ⟨_, exec_crossingTransfer c s, .settleCrossing s⟩
  · refine ⟨_, exec_cycleWaitComplete c s, ?_⟩
    split
    · exact (OnlyAt.completeWaits s).trans (.findGate _)
    · exact .refl c s

/-- Settles O30: each event at c is made of operations that change nothing elsewhere, and no event makes a memo. -/
theorem crossingEventsStayThere : Obligations.CrossingEventsStayThere := by
  intro s c i hi
  obtain ⟨t, ht, only⟩ := exec_onlyAt hi s
  refine ⟨t, ht, only.frame, only.profiles, only.lamps, only.grants, only.flags, only.gates, only.corners, only.table.keeps,
    fun noMemo => ⟨fun k r hr hc => ?_, fun d => ?_⟩⟩
  · rcases only.table.gains k r hr hc with old | ⟨-, memo⟩
    · exact old
    · rw [noMemo] at memo
      cases memo
  · rw [← Option.not_isSome_iff_eq_none]
    intro memo
    have before := only.table.memos d memo
    rw [noMemo] at before
    cases before

end Sys2Proof.Machine

/-! The law of the speech queues (R130, R133), operation by operation at the Cue Generator. -/

namespace Sys2Proof.Machine

/-- What QueueLaw says of one queue. -/
def LawfulQueue (q : List SpeechEntry) : Prop :=
  q.length ≤ 4 ∧ q.Pairwise (fun x y => ¬ (x.station = y.station ∧ x.kind = y.kind)) ∧
    q.Pairwise (fun x y => x.kind = .info → y.kind = .info)

theorem queueLaw_iff {g : CueGenerator} : QueueLaw g ↔ ∀ k, LawfulQueue (look g.speech k).queue := Iff.rfl

namespace LawfulQueue

variable {q : List SpeechEntry} {e : SpeechEntry}

theorem sublist {l : List SpeechEntry} (h : LawfulQueue q) (hl : l.Sublist q) : LawfulQueue l :=
  ⟨hl.length_le.trans h.1, h.2.1.sublist hl, h.2.2.sublist hl⟩

/-- A queue in order is its WALK entries, then its INFO entries. -/
theorem dropWhile_info (h : LawfulQueue q) : ∀ x ∈ q.dropWhile (fun x => x.kind == .walk), x.kind = .info := by
  obtain ⟨-, -, order⟩ := h
  induction q with
  | nil => simp
  | cons y q ih =>
    rw [List.pairwise_cons] at order
    cases hy : y.kind
    case walk => simpa [hy] using ih order.2
    case info =>
      intro x hx
      rcases List.mem_cons.1 (by simpa [hy] using hx) with rfl | hx
      · exact hy
      · exact order.1 x hx hy

/-- A WALK entry of a station with none in the queue, put in its place (R133). -/
theorem insertWalk (h : LawfulQueue q) (he : e.kind = .walk) (room : q.length < 4) (new : queueHas e.station .walk q = false) :
    LawfulQueue (insertWalk e q) := by
  have infos := h.dropWhile_info
  obtain ⟨-, distinct, order⟩ := h
  have walks : ∀ x ∈ q.takeWhile (fun x => x.kind == .walk), x.kind = .walk := fun x hx => by
    simpa using List.mem_takeWhile_imp hx
  have whole : q.takeWhile (fun x => x.kind == .walk) ++ q.dropWhile (fun x => x.kind == .walk) = q :=
    List.takeWhile_append_dropWhile
  have apart : ∀ x ∈ q.takeWhile (fun x => x.kind == .walk), x.station ≠ e.station := fun x hx same => by
    have hxq : x ∈ q := whole ▸ List.mem_append_left _ hx
    have := List.any_eq_false.1 new x hxq
    simp [same, walks x hx] at this
  rw [← whole, List.pairwise_append] at distinct order
  unfold Machine.insertWalk
  refine ⟨?_, ?_, ?_⟩
  · have := congrArg List.length whole
    simp only [List.length_append] at this
    simp only [List.length_append, List.length_cons]
    omega
  · rw [List.pairwise_append, List.pairwise_cons]
    refine ⟨distinct.1, ⟨fun y hy same => ?_, distinct.2.1⟩, fun x hx y hy => ?_⟩
    · have := infos y hy
      rw [← same.2, he] at this
      cases this
    · rcases List.mem_cons.1 hy with rfl | hy
      · exact fun same => apart x hx same.1
      · exact distinct.2.2 x hx y hy
  · rw [List.pairwise_append, List.pairwise_cons]
    refine ⟨order.1, ⟨fun y hy _ => infos y hy, order.2.1⟩, fun x hx y _ info => ?_⟩
    rw [walks x hx] at info
    cases info

/-- An INFO entry of a station with none in the queue, put at the end (R133). -/
theorem append_info (h : LawfulQueue q) (he : e.kind = .info) (room : q.length < 4) (new : queueHas e.station .info q = false) :
    LawfulQueue (q ++ [e]) := by
  obtain ⟨-, distinct, order⟩ := h
  refine ⟨by simp; omega, ?_, ?_⟩
  · rw [List.pairwise_append]
    refine ⟨distinct, List.pairwise_singleton _ _, fun x hx y hy same => ?_⟩
    obtain rfl := List.mem_singleton.1 hy
    have := List.any_eq_false.1 new x hx
    simp [same.1, same.2, he] at this
  · rw [List.pairwise_append]
    refine ⟨order, List.pairwise_singleton _ _, fun x _ y hy _ => ?_⟩
    obtain rfl := List.mem_singleton.1 hy
    exact he

end LawfulQueue

theorem queueHas_dropLast {i : Station} {k : SpeechKind} {q : List SpeechEntry} (h : queueHas i k q = false) :
    queueHas i k q.dropLast = false := by
  unfold queueHas at h ⊢
  rw [List.any_eq_false] at h ⊢
  exact fun x hx => h x (List.mem_of_mem_dropLast hx)

theorem youngestInfo_some {q : List SpeechEntry} {x : SpeechEntry} (h : youngestInfo q = some x) :
    q.getLast? = some x ∧ x.kind = .info := by
  unfold youngestInfo at h
  split at h
  next y hy =>
    split at h
    case isTrue hk =>
      obtain rfl := Option.some.inj h
      exact ⟨hy, hk⟩
    case isFalse => cases h
  next => cases h

namespace QueueLaw

variable {g : CueGenerator}

theorem of_speech {h : CueGenerator} (hg : QueueLaw g) (hs : h.speech = g.speech) : QueueLaw h := by
  intro k
  rw [hs]
  exact hg k

/-- A change of one corner's speech that leaves its queue lawful. -/
theorem onSpeech (h : QueueLaw g) (k : Corner) (f : CornerSpeech → CornerSpeech)
    (hf : LawfulQueue (f (look g.speech k)).queue) : QueueLaw (g.onSpeech k f) := by
  intro j
  rw [CueGenerator.onSpeech_speech, look_change]
  split
  case isTrue hj => subst hj; exact hf
  case isFalse => exact h j

theorem setQueue (h : QueueLaw g) (k : Corner) {q : List SpeechEntry} (hq : LawfulQueue q) : QueueLaw (g.setQueue k q) :=
  h.onSpeech k _ hq

theorem setChannel (h : QueueLaw g) (k : Corner) (x : Channel) : QueueLaw (g.setChannel k x) := h.onSpeech k _ (h k)

theorem result (h : QueueLaw g) (i : Station) (r : SpeechResult) : QueueLaw (g.result i r) := h.of_speech (by simp)

theorem lapseLimit (h : QueueLaw g) (k : Corner) (n : Nat) (r : SpeechResult) : QueueLaw (g.lapseLimit k n r) :=
  h.onSpeech k _ (h k)

theorem startTest (h : QueueLaw g) (p : ProfileStore) (k : Corner) : QueueLaw (g.startTest p k) := by
  unfold CueGenerator.startTest
  split
  next e rest _ hq =>
    split
    case isTrue =>
      intro j
      rw [look_put]
      split
      case isTrue =>
        exact LawfulQueue.sublist (h k) (hq ▸ List.sublist_cons_self e rest)
      case isFalse => exact h j
    case isFalse => exact h
  next => exact h

theorem enterGap (h : QueueLaw g) (p : ProfileStore) (k : Corner) : QueueLaw (g.enterGap p k) := by
  unfold CueGenerator.enterGap
  split
  · exact (h.setChannel k _).startTest p k
  · exact h.setChannel k _

theorem endPlayback (h : QueueLaw g) (p : ProfileStore) (k : Corner) (r : SpeechResult) : QueueLaw (g.endPlayback p k r) := by
  unfold CueGenerator.endPlayback
  split
  · exact h
  · exact ((h.result _ r).lapseLimit k _ r).enterGap p k
  · exact h

theorem afterWalk (h : QueueLaw g) (p : ProfileStore) (k : Corner) : QueueLaw (g.afterWalk p k) := by
  unfold CueGenerator.afterWalk
  split
  · exact h.startTest p k
  · split
    · exact (h.endPlayback p k _).startTest p k
    · exact h.startTest p k
  · exact h.startTest p k

theorem enqueueWalk (h : QueueLaw g) (p : ProfileStore) (k : Corner) {e : SpeechEntry} (he : e.kind = .walk) :
    QueueLaw (g.enqueueWalk p k e) := by
  unfold CueGenerator.enqueueWalk
  dsimp only
  split
  case isTrue => exact h
  case isFalse new =>
    have new : queueHas e.station .walk (look g.speech k).queue = false := by simpa using new
    split
    case isTrue room => exact (h.setQueue k (LawfulQueue.insertWalk (h k) he room new)).afterWalk p k
    case isFalse =>
      split
      next x hx =>
        obtain ⟨last, -⟩ := youngestInfo_some hx
        have shorter : LawfulQueue (look g.speech k).queue.dropLast := LawfulQueue.sublist (h k) (List.dropLast_sublist _)
        have nonempty : (look g.speech k).queue ≠ [] := by
          intro hnil
          rw [hnil] at last
          cases last
        have room : (look g.speech k).queue.dropLast.length < 4 := by
          have := (h k).1
          have := List.length_pos_of_ne_nil nonempty
          rw [List.length_dropLast]
          omega
        exact ((h.result _ _).setQueue k (shorter.insertWalk he room (queueHas_dropLast new))).afterWalk p k
      next => exact h.result _ _

theorem enqueueInfo (h : QueueLaw g) (p : ProfileStore) (k : Corner) {e : SpeechEntry} (he : e.kind = .info) :
    QueueLaw (g.enqueueInfo p k e) := by
  unfold CueGenerator.enqueueInfo
  refine iteInduction (fun _ => h) fun there => ?_
  have new : queueHas e.station .info (look g.speech k).queue = false := by
    rw [Bool.or_eq_true, not_or] at there
    simpa using there.1
  split
  case isTrue room => exact (h.setQueue k (LawfulQueue.append_info (h k) he room new)).startTest p k
  case isFalse => exact h.result _ _

theorem dropEntries (h : QueueLaw g) (k : Corner) (i : Station) (out : SpeechEntry → Bool) :
    QueueLaw (g.dropEntries k i out) := by
  unfold CueGenerator.dropEntries
  dsimp only
  split
  · exact (h.result _ _).setQueue k (LawfulQueue.sublist (h k) List.filter_sublist)
  · exact h

theorem cutEntry (h : QueueLaw g) (p : ProfileStore) (k : Corner) (i : Station) (out : SpeechEntry → Bool) :
    QueueLaw (g.cutEntry p k i out) := by
  unfold CueGenerator.cutEntry
  split
  · exact h
  · split
    · exact h.endPlayback p k _
    · exact h
  · exact h

/-- What every turn of a fold keeps. -/
theorem foldl {α : Type} (f : CueGenerator → α → CueGenerator) (hf : ∀ g a, QueueLaw g → QueueLaw (f g a)) (l : List α)
    (h : QueueLaw g) : QueueLaw (l.foldl f g) := by
  induction l generalizing g with
  | nil => exact h
  | cons a l ih => exact ih (hf g a h)

theorem openGate (h : QueueLaw g) (p : ProfileStore) (b : BusController) (c : Crossing) : QueueLaw (g.openGate p b c) :=
  foldl _ (fun _ _ hg => hg.enqueueWalk p _ rfl) _ (h.of_speech rfl)

theorem closeGate (h : QueueLaw g) (p : ProfileStore) (c : Crossing) : QueueLaw (g.closeGate p c) :=
  foldl _ (fun _ _ hg => hg.cutEntry p _ _ _) _ (foldl _ (fun _ _ hg => hg.dropEntries _ _ _) _ (h.of_speech rfl))

theorem silenceStation (h : QueueLaw g) (i : Station) : QueueLaw (g.silenceStation i) := h.of_speech (by simp)

theorem leave (h : QueueLaw g) (p : ProfileStore) (i : Station) : QueueLaw (g.leave p i) :=
  (((h.dropEntries _ _ _).cutEntry p _ _ _).silenceStation i).startTest p _

theorem leaveAll (h : QueueLaw g) (p : ProfileStore) (l : List Station) : QueueLaw (g.leaveAll p l) :=
  foldl _ (fun _ _ hg => hg.startTest p _) _ (foldl _ (fun _ _ hg => hg.silenceStation _) _
    (foldl _ (fun _ _ hg => hg.cutEntry p _ _ _) _ (foldl _ (fun _ _ hg => hg.dropEntries _ _ _) _ h)))

theorem endGap (h : QueueLaw g) (p : ProfileStore) (k : Corner) : QueueLaw (g.endGap p k) := by
  unfold CueGenerator.endGap
  split
  · exact h
  · exact h
  · exact (h.setChannel k _).startTest p k

theorem limitPlayback (h : QueueLaw g) (p : ProfileStore) (k : Corner) : QueueLaw (g.limitPlayback p k) := by
  unfold CueGenerator.limitPlayback
  split
  · exact h.onSpeech k _ (h k)
  · exact h.endPlayback p k _

theorem messageDone (h : QueueLaw g) (p : ProfileStore) (k : Corner) (n : Nat) : QueueLaw (g.messageDone p k n) := by
  unfold CueGenerator.messageDone
  split
  · exact h
  · split
    · exact h.endPlayback p k _
    · exact h
  · exact h

theorem sent (h : QueueLaw g) (p : ProfileStore) (i : Station) (x : Sound) (y : Bool) (z : Indicator) :
    QueueLaw (g.sent p i x y z) :=
  QueueLaw.startTest (g := (g.onStation i fun v => { v with sound := x, tactile := y, indicator := z }).onCorner
    (p.station i).corner fun v => if x.spoils then { v with openClean := false } else v) (h.of_speech (by simp)) p _

theorem findGate {s : State} (h : QueueLaw s.cues) (c : Crossing) : QueueLaw (s.findGate c).cues := by
  unfold State.findGate
  split
  · split
    · exact h
    · exact h.closeGate _ c
  · split
    · exact h.openGate _ _ c
    · exact h

theorem findGates {s : State} (h : QueueLaw s.cues) : QueueLaw s.findGates.cues := by
  unfold State.findGates
  generalize List.finRange 24 = l
  induction l generalizing s with
  | nil => exact h
  | cons c l ih => exact ih (h.findGate c)

theorem passTime (h : QueueLaw g) : QueueLaw g.passTime := by
  intro k
  simp only [CueGenerator.passTime, look_mapAll]
  exact h k

end QueueLaw

end Sys2Proof.Machine

/-! The laws of one level state and of one press state, operation by operation. -/

namespace Sys2Proof.Machine

/-! ## Numbers brought into a range -/

theorem clamp_eq {lo hi v : Nat} (h : lo ≤ hi) : clamp lo hi v = max lo (min hi v) := by
  unfold clamp
  split
  · omega
  · split <;> omega

theorem le_clamp {lo hi v : Nat} (h : lo ≤ hi) : lo ≤ clamp lo hi v := by rw [clamp_eq h]; omega

theorem clamp_le {lo hi v : Nat} (h : lo ≤ hi) : clamp lo hi v ≤ hi := by rw [clamp_eq h]; omega

/-- A level moved toward a target stays between two bounds that hold both (R152). -/
theorem slewTo_mem {lo hi target o : Nat} (ht : lo ≤ target ∧ target ≤ hi) (ho : lo ≤ o ∧ o ≤ hi) :
    lo ≤ slewTo target o ∧ slewTo target o ≤ hi := by
  unfold slewTo Config.slewLimit
  split
  · omega
  · split <;> omega

theorem effectiveMin_le_max (p : StationProfile) (m : StreetMode) : effectiveMin p m ≤ effectiveMax p m := Nat.min_le_right _ _

/-- The filter raises a value by an eighth of what is missing, rounded down. -/
theorem filterAmbient_up {f v : Nat} (h : f ≤ 16 * v) : filterAmbient f v = f + (16 * v - f) / 8 := by
  unfold filterAmbient
  rw [Int.tdiv_eq_ediv_of_nonneg (by omega)]
  omega

/-- The filter lowers a value by an eighth of the excess, rounded down. -/
theorem filterAmbient_down {f v : Nat} (h : 16 * v ≤ f) : filterAmbient f v = f - (f - 16 * v) / 8 := by
  unfold filterAmbient
  have excess : (16 * (v : Int) - f) = -((f : Int) - 16 * v) := by omega
  rw [excess, Int.neg_tdiv, Int.tdiv_eq_ediv_of_nonneg (by omega)]
  omega

/-- The filtered ambient stays within 480..1760 (R146). -/
theorem filterAmbient_mem {f v : Nat} (hf : 480 ≤ f ∧ f ≤ 1760) (hv : 30 ≤ v ∧ v ≤ 110) :
    480 ≤ filterAmbient f v ∧ filterAmbient f v ≤ 1760 := by
  rcases Nat.le_total f (16 * v) with h | h
  · rw [filterAmbient_up h]; omega
  · rw [filterAmbient_down h]; omega

namespace LevelState.Lawful

variable {x : LevelState}

theorem setRange (h : x.Lawful) (p : StationProfile) (m : StreetMode) : (x.setRange p m).Lawful := by
  refine ⟨h.1, effectiveMin_le_max p m, fun o ho => ?_⟩
  obtain ⟨o, -, rfl⟩ := Option.map_eq_some_iff.1 ho
  exact ⟨le_clamp (effectiveMin_le_max p m), clamp_le (effectiveMin_le_max p m)⟩

theorem withWindow (h : x.Lawful) (b : Bool) : ({ x with windowOpen := b } : LevelState).Lawful := h

theorem target_mem (h : x.minimum ≤ x.maximum) (p : StationProfile) : x.minimum ≤ x.target p ∧ x.target p ≤ x.maximum :=
  ⟨le_clamp h, clamp_le h⟩

theorem slew (h : x.Lawful) (p : StationProfile) : (x.slew p).Lawful := by
  obtain ⟨ambient, range, output⟩ := h
  refine ⟨ambient, range, fun o ho => ?_⟩
  obtain ⟨o, present, rfl⟩ := Option.map_eq_some_iff.1 ho
  exact slewTo_mem (target_mem range p) (output o present)

theorem join (h : x.Lawful) (p : StationProfile) : (x.join p).Lawful := by
  refine ⟨⟨show 480 ≤ 960 by decide, show 960 ≤ 1760 by decide⟩, h.2.1, fun o ho => ?_⟩
  obtain rfl := Option.some.inj ho
  exact target_mem (x := { x with ambient := Config.joinAmbient }) h.2.1 p

theorem leave (h : x.Lawful) : x.leave.Lawful := ⟨h.1, h.2.1, fun _ ho => nomatch ho⟩

theorem takeSample (h : x.Lawful) (mic quiet clean : Bool) (v : Nat) : (x.takeSample mic quiet clean v).Lawful := by
  obtain ⟨ambient, rest⟩ := h
  unfold LevelState.takeSample
  dsimp only
  split
  case isFalse => exact ⟨ambient, rest⟩
  case isTrue =>
    split
    · exact ⟨ambient, rest⟩
    · split
      · exact ⟨ambient, rest⟩
      · split
        · exact ⟨ambient, rest⟩
        · exact ⟨filterAmbient_mem ambient ⟨le_clamp (by decide), clamp_le (by decide)⟩, rest⟩

end LevelState.Lawful

namespace PressState.Lawful

variable {x : PressState}

theorem no_fault (h : x.Lawful) (hp : x.phase ≠ .stuck) : x.buttonFault = false := by
  obtain ⟨-, -, fault, -⟩ := h
  rw [← Bool.not_eq_true, fault]
  exact hp

theorem advanceTo (h : x.Lawful) (tick moment : Tick) : (x.advanceTo tick moment).Lawful := by
  obtain ⟨idle, stamped, fault, held, age⟩ := h
  unfold PressState.advanceTo
  split
  case isFalse => exact ⟨idle, stamped, fault, held, age⟩
  case isTrue =>
    refine ⟨fun hp => ?_, stamped, fault, ?_, Nat.min_le_right _ _⟩
    · have hp : x.phase = .idle := hp
      obtain ⟨h1, h2, h3, h4⟩ := idle hp
      exact ⟨h1, by simp [PressState.advance, hp, h2], h3, h4⟩
    · simp only [PressState.advance]
      split
      · exact held
      · exact Nat.min_le_right _ _

/-- A press in progress moves on to HELD or LONG. -/
theorem moveOn (h : x.Lawful) (hp : x.phase ≠ .idle) (hs : x.phase ≠ .stuck) {y : PressState} (y1 : y.phase ≠ .idle)
    (y2 : y.phase ≠ .stuck) (stamp : y.stamp = x.stamp) (held : y.heldTime = x.heldTime) (age : y.releaseAge = x.releaseAge)
    (fault : y.buttonFault = x.buttonFault) : y.Lawful := by
  have noFault := h.no_fault hs
  obtain ⟨-, stamped, -, hheld, hage⟩ := h
  refine ⟨fun e => absurd e y1, fun _ => stamp ▸ stamped hp, ?_, held ▸ hheld, age ▸ hage⟩
  rw [fault, noFault]
  exact ⟨fun e => (nomatch e), fun e => absurd e y2⟩

theorem stuck (h : x.Lawful) (hp : x.phase ≠ .idle) :
    ({ x with phase := .stuck, doublePending := false, buttonFault := true, stuckNotice := true } : PressState).Lawful := by
  obtain ⟨-, stamped, -, held, age⟩ := h
  exact ⟨fun e => (nomatch e), fun _ => stamped hp, ⟨fun _ => rfl, fun _ => rfl⟩, held, age⟩

/-- The end of a press: IDLE with nothing left of it. -/
theorem ended {y : PressState} (hy : y.phase = .idle ∧ y.stamp = none ∧ y.heldTime = 0 ∧ y.outcome = none ∧ y.doublePending = false)
    (fault : y.buttonFault = false) (age : y.releaseAge ≤ 32768) : y.Lawful := by
  obtain ⟨idle, stamp, held, outcome, double⟩ := hy
  refine ⟨fun _ => ⟨stamp, held, outcome, double⟩, fun h => absurd idle h, ?_, by omega, age⟩
  rw [fault, idle]
  exact ⟨fun e => (nomatch e), fun e => (nomatch e)⟩

theorem complete_age (ending : CaptureEnding) (q : Option Tick) : (x.complete ending q).clear.releaseAge ≤ 32768 := by
  cases q <;> simp [PressState.complete, PressState.clear, Config.releaseAgeMax]

theorem abandon (x : PressState) : x.abandon.Lawful := ended ⟨rfl, rfl, rfl, rfl, rfl⟩ rfl (Nat.le_refl _)

/-- A press begins from IDLE. -/
theorem begin (h : x.Lawful) (hp : x.phase = .idle) (stamp : Tick) :
    ({ x with phase := .down, stamp := some stamp, heldTime := 0, outcome := none, doublePending := false } : PressState).Lawful := by
  have noFault := h.no_fault (by rw [hp]; decide)
  obtain ⟨-, -, -, -, age⟩ := h
  refine ⟨fun e => (nomatch e), fun _ => rfl, ?_, Nat.zero_le _, age⟩
  show x.buttonFault = true ↔ _
  rw [noFault]
  exact ⟨fun e => (nomatch e), fun e => (nomatch e)⟩

end PressState.Lawful

end Sys2Proof.Machine

/-! What the station bus and the Press Qualifier can do, said once: every event of theirs is a run of elementary acts, so that a law of
the part is kept by them all where each act keeps it. -/

namespace Sys2Proof.Machine

/-- One elementary act of the station bus family. -/
inductive StationAct : State → State → Prop where
  | bus (s : State) (f : BusController → BusController) : StationAct s (s.onBus f)
  | press (s : State) (i : Station) (f : PressState → PressState) (lawful : (look s.press i).Lawful → (f (look s.press i)).Lawful) :
      StationAct s (s.onPress i f)
  | level (s : State) (i : Station) (f : LevelState → LevelState) (lawful : (look s.levels i).Lawful → (f (look s.levels i)).Lawful) :
      StationAct s (s.onLevel i f)
  | aim (s : State) (i : Station) (x : Target) : StationAct s (s.onTable fun t => t.aim i x)
  | register (s : State) (i : Station) :
      StationAct s { s with table := (s.table.register s.store i (s.store.station i).crossing).1 }
  | upgrade (s : State) (i : Station) : StationAct s (s.onTable fun t => t.upgrade s.store i)
  | cues (s : State) (f : CueGenerator → CueGenerator) (gates : (f s.cues).gates = s.cues.gates)
      (queues : QueueLaw s.cues → QueueLaw (f s.cues)) : StationAct s (s.onCues f)
  | frameLength (s : State) (n : Option Nat) : StationAct s (s.onStore fun p => { p with nextFrameLength := n })
  /-- The pending copy of a station becomes active; a reassigned station leaves its old crossing's calls (R11, R59). -/
  | move (s : State) (i : Station) (new : StationProfile) (pending : (look s.store.stations i).pending = some new)
      (unserved : s.table.servingSlot (s.store.station i).crossing = none) :
      StationAct s
        ((s.onStore fun p => { p with stations := put p.stations i { active := new, pending := none } }).onTable fun t =>
          if new.crossing = (s.store.station i).crossing then t else t.reassign i (s.store.station i).crossing)

/-- A run of such acts. -/
def StationRun : State → State → Prop := Relation.ReflTransGen StationAct

/-- A law that each act keeps, a run keeps. -/
theorem StationRun.keeps {P : State → Prop} (act : ∀ s t, StationAct s t → P s → P t) {s t : State} (h : StationRun s t) (hs : P s) :
    P t := by
  induction h with
  | refl => exact hs
  | tail _ last ih => exact act _ _ last ih

/-- The state s with what the station bus family can change taken from t. -/
def State.withStations (s t : State) : State :=
  { s with
    store := { s.store with stations := t.store.stations, nextFrameLength := t.store.nextFrameLength }
    bus := t.bus, press := t.press, table := t.table, cues := t.cues, levels := t.levels }

/-- What such acts leave as it stands: of the store all but stations and frame length, the gates, grants, aspects, holds, the response
and the queue of commands; to the records they only bring demand. -/
structure StationSide (s t : State) : Prop where
  frame : t = s.withStations t
  gates : t.cues.gates = s.cues.gates
  calls : DemandOnly s.table t.table

namespace StationSide

variable {s t u : State}

theorem refl (s : State) : StationSide s s := ⟨rfl, rfl, .refl _⟩

theorem trans (h : StationSide s t) (k : StationSide t u) : StationSide s u where
  frame := k.frame.trans (congrArg (fun x => x.withStations u) h.frame)
  gates := k.gates.trans h.gates
  calls := h.calls.trans k.calls

theorem of_act (h : StationAct s t) : StationSide s t := by
  cases h with
  | bus f => exact ⟨rfl, rfl, .refl _⟩
  | press i f _ => exact ⟨rfl, rfl, .refl _⟩
  | level i f _ => exact ⟨rfl, rfl, .refl _⟩
  | aim i x => exact ⟨rfl, rfl, DemandOnly.of_records rfl⟩
  | register i => exact ⟨rfl, rfl, register_demand _ _ _ _⟩
  | upgrade i => exact ⟨rfl, rfl, upgrade_demand _ _ _⟩
  | cues f gates _ => exact ⟨rfl, gates, .refl _⟩
  | frameLength n => exact ⟨rfl, rfl, .refl _⟩
  | move i new _ _ =>
    refine ⟨rfl, rfl, ?_⟩
    simp only [State.onTable_table, State.onStore_table]
    split
    · exact .refl _
    · exact reassign_demand _ _ _

theorem of_run (h : StationRun s t) : StationSide s t :=
  h.keeps (P := StationSide s) (fun _ _ act side => side.trans (of_act act)) (refl s)

end StationSide

/-! ## What some of their operations leave -/

/-- After a release, of whatever phase, the press is IDLE (R25). -/
theorem State.takeRelease_phase (i : Station) (q : Option Tick) (s : State) :
    (look (s.takeRelease i q).press i).phase = .idle := by
  unfold State.takeRelease
  split
  case h_1 hp => exact hp
  all_goals simp [PressState.clear]

/-- Leaving ACTIVE changes of the Call Table the station's target alone (R32, R38). -/
@[simp] theorem State.leaveActive_table (i : Station) (s : State) :
    (s.leaveActive i).table = s.table.aim i .none := by
  simp [State.leaveActive, State.abandonPress]

theorem State.transferLink_records (i : Station) (new : StationProfile) (s : State) :
    (s.transferLink i new).table.records = s.table.records := by
  unfold State.transferLink
  dsimp only
  (repeat' split) <;> simp

namespace StationRun

variable {s t u : State}

theorem refl (s : State) : StationRun s s := Relation.ReflTransGen.refl

theorem act (h : StationAct s t) : StationRun s t := Relation.ReflTransGen.single h

theorem trans (h : StationRun s t) (k : StationRun t u) : StationRun s u := Relation.ReflTransGen.trans h k

theorem onBus (s : State) (f : BusController → BusController) : StationRun s (s.onBus f) := act (.bus s f)

theorem onLink (s : State) (i : Station) (f : StationLink → StationLink) : StationRun s (s.onLink i f) :=
  act (.bus s fun b => { b with stations := change b.stations i f })

theorem onCues {f : CueGenerator → CueGenerator} (gates : (f s.cues).gates = s.cues.gates)
    (queues : QueueLaw s.cues → QueueLaw (f s.cues)) : StationRun s (s.onCues f) := act (.cues s f gates queues)

theorem onPress {i : Station} {f : PressState → PressState} (lawful : (look s.press i).Lawful → (f (look s.press i)).Lawful) :
    StationRun s (s.onPress i f) := act (.press s i f lawful)

theorem onLevel {i : Station} {f : LevelState → LevelState} (lawful : (look s.levels i).Lawful → (f (look s.levels i)).Lawful) :
    StationRun s (s.onLevel i f) := act (.level s i f lawful)

theorem ite {b : Prop} [Decidable b] {t u : State} (h : StationRun s t) (k : StationRun s u) : StationRun s (if b then t else u) := by
  split
  · exact h
  · exact k

theorem onlyIf {b : Prop} [Decidable b] {t : State} (h : b → StationRun s t) : StationRun s (if b then t else s) := by
  split
  case isTrue hb => exact h hb
  case isFalse => exact refl s

theorem foldl {α : Type} (f : State → α → State) (hf : ∀ s a, StationRun s (f s a)) (l : List α) (s : State) :
    StationRun s (l.foldl f s) := by
  induction l generalizing s with
  | nil => exact refl s
  | cons a l ih => exact (hf s a).trans (ih _)

/-! ## The Press Qualifier -/

theorem qualify {i : Station} (s : State) (down : (look s.press i).phase = .down) : StationRun s (s.qualify i) := by
  have held : StationRun s (s.onPress i fun x =>
      { x.capture with phase := .held, doublePending := x.doubleTest (s.store.station i) }) := onPress fun h => by
    refine h.moveOn (by rw [down]; decide) (by rw [down]; decide) (by simp) (by simp) ?_ ?_ ?_ ?_ <;>
      (simp only [PressState.capture]; split <;> rfl)
  have called := held.trans (act (.register _ i))
  have outcome : ∀ (a : Registration) (t : State), look t.press i = { look s.press i with
      previousEntry := (look s.press i).capture.previousEntry, lastEntry := (look s.press i).capture.lastEntry
      phase := .held, doublePending := (look s.press i).doubleTest (s.store.station i) } →
      StationRun t (t.onPress i fun x => { x with outcome := some a }) := fun a t ht => onPress fun h => by
    have phase : (look t.press i).phase = .held := by rw [ht]
    exact h.moveOn (by rw [phase]; decide) (by rw [phase]; decide) (by simp [phase]) (by simp [phase]) rfl rfl rfl rfl
  unfold State.qualify
  dsimp only
  have answered := fun a => called.trans (outcome a _ (by
    simp only [State.onPress_press, look_change_self, PressState.capture]
    split <;> rfl))
  split
  · exact (answered _).trans (onCues (by simp) fun h => h.of_speech (by simp))
  · exact answered _

theorem reachLong {i : Station} (s : State) (held : (look s.press i).phase = .held) : StationRun s (s.reachLong i) := by
  have long : StationRun s (s.onPress i fun x => { x with phase := .long, doublePending := false }) := onPress fun h =>
    h.moveOn (by rw [held]; decide) (by rw [held]; decide) (by simp) (by simp) rfl rfl rfl rfl
  unfold State.reachLong
  dsimp only
  split
  · exact long.trans (act (.upgrade _ i))
  · exact long
  · exact long

theorem reachStuck {i : Station} (s : State) (on : (look s.press i).phase ≠ .idle) : StationRun s (s.reachStuck i) :=
  onPress fun h => h.stuck on

theorem thresholds (i : Station) (s : State) : StationRun s (s.thresholds i) := by
  unfold State.thresholds
  dsimp only
  refine StationRun.trans ?_ (onlyIf fun h => reachStuck _ (by rcases h.1 with h | h <;> rw [h] <;> decide))
  refine StationRun.trans ?_ (onlyIf fun h => reachLong _ h.1)
  exact onlyIf fun h => qualify s h.1

theorem askInfo (i : Station) (s : State) : StationRun s (s.askInfo i) := by
  unfold State.askInfo
  split
  · split
    · exact onCues (by simp) fun h => h.enqueueInfo _ _ rfl
    · exact refl s
  · exact refl s

theorem takeRelease (i : Station) (q : Option Tick) (s : State) : StationRun s (s.takeRelease i q) := by
  unfold State.takeRelease
  split
  case h_1 => exact refl s
  case h_2 hp => exact onPress fun h => .ended ⟨rfl, rfl, rfl, rfl, rfl⟩ (h.no_fault (by rw [hp]; decide)) h.2.2.2.2
  case h_3 hp =>
    refine (ite (askInfo i s) (refl s)).trans (onPress fun h => ?_)
    have same : look (if (look s.press i).doublePending then s.askInfo i else s).press i = look s.press i := by split <;> simp
    rw [same] at h ⊢
    exact .ended ⟨rfl, rfl, rfl, rfl, rfl⟩ (h.no_fault (by rw [hp]; decide)) (PressState.Lawful.complete_age _ _)
  case h_4 hp =>
    exact onPress fun h => .ended ⟨rfl, rfl, rfl, rfl, rfl⟩ (h.no_fault (by rw [hp]; decide)) (PressState.Lawful.complete_age _ _)
  case h_5 => exact onPress fun _ => .ended ⟨rfl, rfl, rfl, rfl, rfl⟩ rfl (PressState.Lawful.complete_age (x := look s.press i) .stuck q)

theorem takePress (i : Station) (stamp : Tick) (s : State) : StationRun s (s.takePress i stamp) :=
  (takeRelease i none s).trans (onPress fun h => h.begin (State.takeRelease_phase i none s) stamp)

theorem toMoment (i : Station) (tick moment : Tick) (s : State) : StationRun s (s.toMoment i tick moment) :=
  (onPress fun h => h.advanceTo tick moment).trans (thresholds i _)

theorem pressMoment (i : Station) (tick stamp : Tick) (s : State) : StationRun s (s.pressMoment i tick stamp) :=
  (toMoment i tick stamp s).trans (takePress i stamp _)

theorem releaseMoment (i : Station) (tick stamp : Tick) (s : State) : StationRun s (s.releaseMoment i tick stamp) :=
  (toMoment i tick stamp s).trans (takeRelease i _ _)

theorem takeEdges (i : Station) (r : Report) (s : State) : StationRun s (s.takeEdges i r) := by
  unfold State.takeEdges
  split
  · exact refl s
  · exact pressMoment i _ _ s
  · exact releaseMoment i _ _ s
  · split
    · exact (releaseMoment i _ _ s).trans (pressMoment i _ _ _)
    · exact (pressMoment i _ _ s).trans (releaseMoment i _ _ _)

theorem checkButton (i : Station) (r : Report) (s : State) : StationRun s (s.checkButton i r) := by
  unfold State.checkButton
  split
  · exact takePress i _ s
  · exact refl s
  · exact refl s
  · exact takeRelease i none s

theorem takeButton (i : Station) (r : Report) (s : State) : StationRun s (s.takeButton i r) :=
  ((takeEdges i r s).trans (toMoment i _ _ _)).trans (checkButton i r _)

theorem abandonPress (i : Station) (s : State) : StationRun s (s.abandonPress i) :=
  (onPress fun _ => .abandon _).trans (act (.aim _ i .none))

/-! ## The bus controller -/

theorem leaveActive (i : Station) (s : State) : StationRun s (s.leaveActive i) :=
  (((abandonPress i s).trans (onCues (by simp) fun h => h.leave _ i)).trans (onLevel fun h => h.leave)).trans (onLink _ i _)

theorem takeAmbient (i : Station) (r : Report) (s : State) : StationRun s (s.takeAmbient i r) := by
  unfold State.takeAmbient
  split
  · exact onLevel fun h => h.takeSample _ _ _ _
  · exact refl s

theorem takeMessageDone (i : Station) (r : Report) (playback : Option Nat) (s : State) :
    StationRun s (s.takeMessageDone i r playback) := by
  unfold State.takeMessageDone
  split
  · split
    · exact onCues (by simp) fun h => h.messageDone _ _ _
    · exact refl s
  · exact refl s

theorem takeParts (i : Station) (r : Report) (playback : Option Nat) (s : State) : StationRun s (s.takeParts i r playback) :=
  ((takeButton i r s).trans (takeAmbient i r _)).trans (takeMessageDone i r playback _)

theorem join (i : Station) (r : Report) (o : Offer) (s : State) : StationRun s (s.join i r o) := by
  unfold State.join
  dsimp only
  refine StationRun.trans ?_ (takeParts i r none _)
  refine StationRun.trans ?_ (onLink _ i _)
  refine StationRun.trans ?_ (onPress (f := fun x => { x with lastPoint := r.tick }) id)
  refine StationRun.trans ?_ (abandonPress i _)
  exact (onLink s i _).trans (onLevel fun h => h.join _)

theorem takeReport (i : Station) (r : Report) (playback : Option Nat) (s : State) : StationRun s (s.takeReport i r playback) := by
  unfold State.takeReport
  split
  · exact (leaveActive i s).trans (join i r _ _)
  · exact (onLink s i _).trans (takeParts i r playback _)

theorem missSlot (i : Station) (s : State) : StationRun s (s.missSlot i) := by
  unfold State.missSlot
  split
  · exact onLink s i _
  · exact (onLink s i _).trans (leaveActive i _)

theorem settleSlot (s : State) : StationRun s s.settleSlot := onBus s _

theorem dealReport (x : Slot) (r : Report) (s : State) : StationRun s (s.dealReport x r) := by
  unfold State.dealReport
  split
  · exact takeReport _ _ _ s
  · split
    · exact join _ _ _ s
    · exact refl s
  · split
    · exact join _ _ _ s
    · exact refl s
  · exact refl s

theorem dealMiss (x : Slot) (s : State) : StationRun s (s.dealMiss x) := by
  unfold State.dealMiss
  split
  · exact missSlot _ s
  · exact refl s
  · exact refl s
  · exact refl s

theorem receive (bytes : List Byte) (s : State) : StationRun s (s.receive bytes) := by
  unfold State.receive
  split
  · exact refl s
  · split
    · exact refl s
    · split
      · exact (settleSlot s).trans (dealReport _ _ _)
      · exact (settleSlot s).trans (dealMiss _ _)

theorem endSlot (s : State) : StationRun s s.endSlot := by
  unfold State.endSlot
  split
  · exact refl s
  · split
    · exact refl s
    · exact (settleSlot s).trans (dealMiss _ _)

theorem beginSlot (i : Station) (s : State) : StationRun s (s.beginSlot i) := by
  unfold State.beginSlot
  dsimp only
  split
  · exact refl s
  · split
    · refine (onBus s _).trans (onCues ?_ fun h => h.sent _ _ _ _ _)
      simp [CueGenerator.sent]
    · split
      · exact onBus s _
      · exact onBus s _

theorem transferLink (i : Station) (new : StationProfile) (s : State) : StationRun s (s.transferLink i new) := by
  unfold State.transferLink
  dsimp only
  split
  · exact (ite (leaveActive i s) (refl s)).trans (onLink _ i _)
  · split
    · exact onLink s i _
    · split
      · split
        · exact (onLink s i _).trans (onCues (by simp) fun h => h.dropEntries _ _ _)
        · exact refl s
      · exact refl s

theorem transferStation (i : Station) {new : StationProfile} (s : State) (pending : (look s.store.stations i).pending = some new)
    (unserved : s.table.servingSlot (s.store.station i).crossing = none) : StationRun s (s.transferStation i new) := by
  have linked := transferLink i new s
  have stored := State.transferLink_store s i new
  have moved : StationRun s _ := linked.trans (act (.move _ i new (by rw [stored]; exact pending) (by
    rw [stored]
    unfold CallTable.servingSlot
    rw [State.transferLink_records]
    exact unserved)))
  rw [stored] at moved
  have whole : StationRun s
      (if new.crossing = (s.store.station i).crossing then
        (s.transferLink i new).onStore fun p => { p with stations := put p.stations i { active := new, pending := none } }
      else ((s.transferLink i new).onStore fun p =>
        { p with stations := put p.stations i { active := new, pending := none } }).onTable fun t =>
          t.reassign i (s.store.station i).crossing) := by
    split
    case isTrue h =>
      simp only [h, if_true] at moved
      exact moved
    case isFalse h =>
      simp only [h, if_false] at moved
      exact moved
  unfold State.transferStation
  dsimp only
  refine StationRun.trans ?_ (onLevel fun h => (h.setRange new _).withWindow _)
  split
  · exact whole
  · exact (whole.trans (onCues (by simp) fun h => h.dropEntries _ _ _)).trans (onCues (by simp) fun h => h.of_speech (by simp))

theorem testStation (i : Station) (s : State) : StationRun s (s.testStation i) := by
  unfold State.testStation
  split
  · exact refl s
  next new pending =>
    split
    case isTrue point =>
      refine transferStation i s pending ?_
      simp only [State.stationTransferPoint, Bool.and_eq_true] at point
      simpa using point.1.1
    case isFalse => exact refl s

theorem fitStation (n : Nat) (i : Station) (s : State) : StationRun s (s.fitStation n i) := by
  unfold State.fitStation
  dsimp only
  split
  · exact refl s
  · split
    · exact (ite (leaveActive i s) (refl s)).trans (onLink _ i _)
    · exact ite (onLink s i _) (refl s)

theorem applyLength (s : State) : StationRun s s.applyLength := by
  unfold State.applyLength
  split
  · exact refl s
  · dsimp only
    split
    · exact act (.frameLength s none)
    · exact ((act (.frameLength s none)).trans (onBus _ _)).trans (foldl _ (fun s i => fitStation _ i s) _ _)

theorem sendSlotZero (s : State) : StationRun s s.sendSlotZero := by
  unfold State.sendSlotZero
  exact (onBus s _).trans (onCues rfl fun h => h.of_speech rfl)

theorem startFrame (s : State) : StationRun s s.startFrame :=
  ((applyLength s).trans (foldl _ (fun s i => testStation i s) _ _)).trans (sendSlotZero _)

theorem leaveAllCues (s : State) : StationRun s s.leaveAllCues := onCues (by simp) fun h => h.leaveAll _ _

theorem sectionStation (i : Station) (s : State) : StationRun s (s.sectionStation i) :=
  (ite ((abandonPress i s).trans (onLevel fun h => h.leave)) (abandonPress i s)).trans (onLink _ i _)

theorem sectionReset (s : State) : StationRun s s.sectionReset :=
  (((onBus s _).trans (leaveAllCues _)).trans (foldl _ (fun s i => sectionStation i s) _ _)).trans
    ((onBus _ _).trans (startFrame _))

end StationRun

/-! ## The events of the station bus -/

theorem exec_frameStart (s : State) : exec .frameStart s = .next s.startFrame := rfl
theorem exec_stationTransfer (i : Station) (s : State) : exec (.stationTransfer i) s = .next (s.testStation i) := rfl
theorem exec_stationSlot (i : Station) (s : State) : exec (.stationSlot i) s = .next (s.beginSlot i) := rfl
theorem exec_stationReport (b : List Byte) (s : State) : exec (.stationReport b) s = .next (s.receive b) := rfl
theorem exec_missedSlot (s : State) : exec .missedSlot s = .next s.endSlot := rfl
theorem exec_restartStationBus (s : State) : exec .restartStationBus s = .next (s.sectionReset.answer .ok) := rfl

end Sys2Proof.Machine

/-! Every step keeps the law of the cue gates (R121). -/

namespace Sys2Proof.Machine

/-- The gates are lawful exactly when each equals its condition. -/
theorem gateLaw_iff {s : State} : GateLaw s ↔ ∀ c, look s.cues.gates c = s.gateCondition c := by
  refine ⟨fun h c => ?_, gateLaw_of⟩
  have found : GateLaw s.findGates := gateLaw_of fun d => by
    rw [State.findGates_look]
    exact (State.gateCondition_congr d (by simp) (by simp) (by simp) (by simp)).symm
  have condition : s.gateCondition c = true ↔ look s.cues.gates c = true := by
    rw [h c, ← State.findGates_look, found c]
    simp
  exact Bool.eq_iff_iff.2 condition.symm

/-- A condition that reads the same WALKING records, lamps, flags and profiles. -/
theorem State.gateCondition_same {s t : State} (walking : ∀ c, t.table.walkingSlot c = s.table.walkingSlot c) (lamps : t.aspects = s.aspects)
    (holds : t.holds = s.holds) (profiles : t.store.crossings = s.store.crossings) (c : Crossing) :
    t.gateCondition c = s.gateCondition c := by
  simp only [State.gateCondition, ProfileStore.crossing, walking, lamps, holds, profiles]

namespace GateLaw

variable {s t : State} {c : Crossing}

theorem look_eq (h : GateLaw s) (c : Crossing) : look s.cues.gates c = s.gateCondition c := gateLaw_iff.1 h c

/-- Lawful gates are as found. -/
theorem findGate_eq (h : GateLaw s) (c : Crossing) : s.findGate c = s := by
  unfold State.findGate
  rw [h.look_eq c]
  split <;> simp_all

theorem of_same (h : GateLaw s) (gates : t.cues.gates = s.cues.gates) (condition : ∀ c, t.gateCondition c = s.gateCondition c) :
    GateLaw t := gateLaw_of fun c => by rw [gates, condition, h.look_eq]

theorem of_run (h : GateLaw s) (run : StationRun s t) : GateLaw t := by
  have side := StationSide.of_run run
  refine h.of_same side.gates (State.gateCondition_same (fun c => side.calls.walkingSlot c) ?_ ?_ ?_) <;> rw [side.frame] <;> rfl

/-- An event at c alone, after which the gate of c is found. -/
theorem findGate_of_onlyAt (h : GateLaw s) (only : OnlyAt c s t) : GateLaw (t.findGate c) := gateLaw_of fun d => by
  by_cases hd : d = c
  · rw [hd, State.findGate_look, State.findGate_gateCondition]
  · rw [State.findGate_look_ne t hd, State.findGate_gateCondition, only.gates d hd, only.gateCondition hd, h.look_eq]

theorem settle_of_onlyAt (h : GateLaw s) (only : OnlyAt c s t) : GateLaw (t.settleCrossing c) :=
  h.findGate_of_onlyAt (only.trans (.testTransfer t))

theorem findGates (s : State) : GateLaw s.findGates := gateLaw_of fun c => by
  rw [State.findGates_look]
  exact (State.gateCondition_congr c (by simp) (by simp) (by simp) (by simp)).symm

theorem answer (h : GateLaw s) (x : Status) : GateLaw (s.answer x) := h

/-- Where no walk shows and no gate stands open, what else changes does not matter. -/
theorem of_lamps (h : GateLaw s) (f : AspectState → AspectState)
    (same : ((f (look s.aspects c)).observed = .walk ∧ (f (look s.aspects c)).fault = none) ↔
      ((look s.aspects c).observed = .walk ∧ (look s.aspects c).fault = none)) : GateLaw (s.onAspect c f) := by
  intro d
  by_cases hd : d = c
  · subst hd
    rw [State.onAspect_cues, h d]
    simp only [State.onAspect_table, State.onAspect_holds, State.onAspect_store, State.onAspect_aspects, look_change_self]
    tauto
  · rw [State.onAspect_cues, h d]
    simp only [State.onAspect_table, State.onAspect_holds, State.onAspect_store, State.onAspect_aspects, look_change_ne _ hd]

theorem partReset (s : State) : GateLaw s.partReset := gateLaw_of fun c => by
  have table : s.partReset.table = CallTable.reset := State.senseLines_table _
  have cues : s.partReset.cues = CueGenerator.reset := State.senseLines_cues _
  have unwalked : CallTable.reset.walkingSlot c = none := walkingSlot_eq_none.2 fun ⟨i, r, hr, _⟩ => by
    have := hr.1
    simp [CallTable.reset] at this
  simp [State.gateCondition, table, cues, unwalked, CueGenerator.reset]

end GateLaw

/-! ## The commands -/

section Commands

variable {s t : State} (h : GateLaw s)
include h

theorem GateLaw.grant (c : Crossing) (w : Nat) : GateLaw (s.grant c w) := by
  unfold State.grant
  dsimp only
  split
  · exact h.answer _
  · split
    · exact h.answer _
    · split
      · exact h.answer _
      · split
        · exact h.answer _
        · split
          next i hi =>
            obtain ⟨r, hr, hc, -⟩ := waitingSlot_some hi
            exact (h.findGate_of_onlyAt (OnlyAt.moveRecord ⟨hr, hc⟩ _)).answer _
          next =>
            unfold CallTable.makeRecall
            split
            next u hu =>
              split at hu
              next k hk =>
                obtain rfl := Option.some.inj hu
                exact (h.findGate_of_onlyAt (OnlyAt.onTable (f := fun t => t.fill k _) (.fill (freeSlot_some hk) rfl))).answer _
              next => cases hu
            next => exact h.answer _

theorem GateLaw.cancelWaiting (c : Crossing) : GateLaw (s.cancelWaiting c) := by
  unfold State.cancelWaiting
  split
  next i hi =>
    obtain ⟨r, hr, hc, -⟩ := waitingSlot_some hi
    exact (h.settle_of_onlyAt (OnlyAt.removeRecord ⟨hr, hc⟩)).answer _
  next =>
    split
    · exact (h.of_same (t := s.onTable fun t => t.clearMemo c) rfl
        (State.gateCondition_same (fun _ => by simp [CallTable.walkingSlot]) rfl rfl rfl)).answer _
    · exact h.answer _

theorem GateLaw.cancelServing (c : Crossing) : GateLaw (s.cancelServing c) := by
  unfold State.cancelServing
  split
  next => exact h.answer _
  next =>
    split
    next i hi =>
      obtain ⟨r, hr, hc, -⟩ := grantedSlot_some hi
      exact (h.settle_of_onlyAt (OnlyAt.removeRecord ⟨hr, hc⟩)).answer _
    next => exact h.answer _

theorem GateLaw.passTime : GateLaw s.passTime := h.of_same (by simp only [State.passTime, CueGenerator.passTime]) fun c => by
  have walking : s.passTime.table.walkingSlot c = s.table.walkingSlot c := firstWhere_congr fun i => by
    simp only [State.passTime, look_mapAll]
    cases look s.table.records i with
    | none => rfl
    | some r => cases hr : r.state <;> simp [recordIs, hr, CallState.passTime, CallState.isWalking]
  simp only [State.gateCondition, walking]
  simp [State.passTime, AspectState.passTime, HoldUnit.passTime]

theorem GateLaw.exec_plain {i : Instr} (hi : exec i s = .next t) (plain : Plain i) : GateLaw t := by
  cases i
  case requestFrameRefused f => exact absurd rfl (plain f)
  case partReset =>
    obtain rfl := next_inj hi
    exact .partReset s
  case reset =>
    obtain rfl := next_inj hi
    exact .partReset _
  case streetTimeTick =>
    obtain rfl := next_inj hi
    exact h.of_same (by simp) (State.gateCondition_same (fun _ => by simp) (by simp) (by simp) (by simp))
  case noRequest =>
    obtain rfl := next_inj hi
    exact h
  case identify =>
    obtain rfl := next_inj hi
    exact h
  case readSummary =>
    obtain rfl := next_inj hi
    exact h
  case readCalls scope =>
    simp only [exec, execReadCalls] at hi
    split at hi <;> obtain rfl := next_inj hi
    · exact h.of_same (by simp) (State.gateCondition_same (fun c => (markSeen_demand _ _).walkingSlot c) (by simp) (by simp) (by simp))
    · exact h
  case readCrossing n =>
    simp only [exec, execReadCrossing] at hi
    split at hi <;> obtain rfl := next_inj hi
    · exact h.of_lamps (fun x => { x with notice := false }) Iff.rfl
    · exact h
  case readStation n =>
    simp only [exec, execReadStation] at hi
    split at hi <;> obtain rfl := next_inj hi
    · exact h.of_same (by simp) (State.gateCondition_same (fun _ => by simp) (by simp) (by simp) (by simp))
    · exact h
  case readCorner n =>
    simp only [exec, execReadCorner] at hi
    split at hi <;> obtain rfl := next_inj hi <;> exact h
  case grant n w =>
    simp only [exec, execGrant] at hi
    split at hi <;> obtain rfl := next_inj hi
    · exact h.grant _ _
    · exact h
  case cancel n x =>
    simp only [exec, execCancel] at hi
    split at hi <;> obtain rfl := next_inj hi
    · exact h.cancelWaiting _
    · exact h.cancelServing _
    · exact h
  case clearFault n =>
    simp only [exec, execClearFault] at hi
    split at hi
    · split at hi
      · split at hi <;> obtain rfl := next_inj hi
        next shown =>
          refine (h.of_lamps _ ?_).answer _
          simp [AspectState.clearFault, shown]
        next => exact h
      · obtain rfl := next_inj hi
        exact h
    · obtain rfl := next_inj hi
      exact h
  case setHold set time =>
    simp only [exec, execSetHold] at hi
    split at hi <;> obtain rfl := next_inj hi
    · unfold State.setHold
      split
      · split <;> exact (GateLaw.findGates _).answer _
      · exact (GateLaw.findGates _).answer _
    · exact h
  case releaseLineHold n =>
    simp only [exec, execReleaseLineHold] at hi
    split at hi <;> obtain rfl := next_inj hi
    · unfold State.releaseHold
      split
      · exact h
      · split
        · exact (GateLaw.findGates _).answer _
        · exact h
    · exact h
  case setStreetMode n =>
    simp only [exec, execSetStreetMode] at hi
    split at hi <;> obtain rfl := next_inj hi
    · unfold State.setMode
      split
      · exact h
      · exact h.of_same (by simp) (State.gateCondition_same (fun _ => by simp) (by simp) (by simp) (by simp))
    · exact h
  case writeCrossing n f =>
    simp only [exec, execWriteCrossing] at hi
    split at hi <;> obtain rfl := next_inj hi
    · exact (h.settle_of_onlyAt (OnlyAt.putProfile _)).answer _
    · exact h
  case writeStation n f =>
    simp only [exec, execWriteStation] at hi
    split at hi
    · split at hi <;> obtain rfl := next_inj hi
      · exact h
      · exact h.of_same (by simp) (State.gateCondition_same (fun _ => by simp) (by simp) (by simp) (by simp))
    · obtain rfl := next_inj hi
      exact h
  case writeCorner n f =>
    simp only [exec, execWriteCorner] at hi
    split at hi <;> obtain rfl := next_inj hi
    · exact h.of_same (by simp) (State.gateCondition_same (fun _ => by simp) (by simp) (by simp) (by simp))
    · exact h
  case writeStreet la ma lb mb n =>
    simp only [exec, execWriteStreet] at hi
    split at hi <;> obtain rfl := next_inj hi
    · exact (GateLaw.findGates _).answer _
    · exact h
  case restartStationBus =>
    obtain rfl := next_inj hi
    exact (h.of_run (.sectionReset s)).answer _
  case frameStart =>
    obtain rfl := next_inj hi
    exact h.of_run (.startFrame s)
  case stationTransfer j =>
    obtain rfl := next_inj hi
    exact h.of_run (.testStation j s)
  case stationSlot j =>
    obtain rfl := next_inj hi
    exact h.of_run (.beginSlot j s)
  case stationReport b =>
    obtain rfl := next_inj hi
    exact h.of_run (.receive b s)
  case missedSlot =>
    obtain rfl := next_inj hi
    exact h.of_run (.endSlot s)
  case lampLineChange c w d =>
    obtain rfl := next_inj hi
    exact h.settle_of_onlyAt ((OnlyAt.onAspect _).trans (.retest _))
  case steadyTimeReached c l m =>
    obtain rfl := next_inj hi
    exact h.settle_of_onlyAt ((OnlyAt.onAspect _).trans (.retest _))
  case undecodableLimit c =>
    simp only [exec, execUndecodableLimit] at hi
    split at hi <;> obtain rfl := next_inj hi
    · exact h.of_lamps _ Iff.rfl
    · unfold State.takeLimit
      split
      · exact h
      · split
        · exact h
        · exact h.settle_of_onlyAt ((OnlyAt.onAspect _).trans (.limitReached _))
  case memoAllocation =>
    obtain rfl := next_inj hi
    exact h.of_same (by simp) (State.gateCondition_same (fun c => (allocate_demand _ _).walkingSlot c) (by simp) (by simp) (by simp))
  case crossingTransfer c =>
    obtain rfl := next_inj hi
    exact h.settle_of_onlyAt (.refl c s)
  case grantWindowExpiry c =>
    cases hg : s.table.grantedSlot c
    case none => exact next_inj ((exec_grantWindowExpiry_none hg).symm.trans hi) ▸ h
    case some k =>
      obtain ⟨r, hr, hc, -⟩ := grantedSlot_some hg
      exact next_inj ((exec_grantWindowExpiry_some hg).symm.trans hi) ▸
        h.settle_of_onlyAt ((OnlyAt.moveRecord ⟨hr, hc⟩ _).trans (.onGrant _))
  case holdLineChange l x =>
    obtain rfl := next_inj hi
    exact .findGates _
  case cycleWaitComplete c =>
    obtain rfl := next_inj ((exec_cycleWaitComplete c s).symm.trans hi)
    split
    · exact h.findGate_of_onlyAt (.completeWaits s)
    · exact h
  case softwareHoldExpiry =>
    simp only [exec, execSoftwareHoldExpiry] at hi
    split at hi
    · obtain rfl := next_inj hi
      exact h.of_same rfl fun _ => rfl
    · split at hi <;> obtain rfl := next_inj hi
      · exact .findGates _
      · exact h
  case periodStart k =>
    obtain rfl := next_inj hi
    exact h.of_same (by simp [State.startPeriod]) (State.gateCondition_same (fun _ => by simp) (by simp) (by simp) rfl)
  case cornerTransfer k =>
    obtain rfl := next_inj hi
    exact h.of_same rfl (State.gateCondition_same (fun _ => by simp) rfl rfl rfl)
  case samplePoint k =>
    simp only [exec, execSamplePoint] at hi
    split at hi <;> obtain rfl := next_inj hi
    · exact h
    · exact h.of_same (by simp) (State.gateCondition_same (fun _ => by simp) (by simp) (by simp) (by simp))
  case speechStart k =>
    obtain rfl := next_inj hi
    exact h.of_run (.onCues (by simp) fun q => q.startTest _ k)
  case playLimit k =>
    obtain rfl := next_inj hi
    exact h.of_run (.onCues (by simp) fun q => q.limitPlayback _ k)
  case gapEnd k =>
    obtain rfl := next_inj hi
    exact h.of_run (.onCues (by simp) fun q => q.endGap _ k)

end Commands

/-- Settles O55: an event at one crossing finds that gate again, one of a hold line or of the timer finds all, and no other command
reaches what a gate depends on. -/
theorem stepKeepsGates : Obligations.StepKeepsGates := by
  intro s t hs step_next
  exact step_keeps (P := GateLaw) (fun _ _ h => h) (fun _ h => h.passTime) (fun _ x h => h.answer x)
    (fun _ _ _ plain h next => h.exec_plain next plain) s t hs step_next

end Sys2Proof.Machine

/-! What a command can do to cues, levels, presses, holds and assignments, said once: every command and the clock are a run of acts, and
the laws of those blocks are kept by each act. -/

namespace Sys2Proof.Machine

/-! ## The laws of holds and assignments, as the acts need them -/

/-- The laws of the Hold Unit (R103, R114). -/
def HoldLaw (s : State) : Prop := TimerLaw s.holds ∧ WaitLaw s

theorem WaitLaw.of_same {s t : State} (h : WaitLaw s) (holds : t.holds = s.holds) (lines : ∀ l, t.store.line l = s.store.line l) :
    WaitLaw t := by
  intro c l hw
  rw [holds] at hw ⊢
  simpa only [lineActive, lines] using h c l hw

theorem WaitLaw.completeWaits {s : State} (h : WaitLaw s) (c : Crossing) : WaitLaw (s.completeWaits c) := by
  intro d l hw
  have levels : lineActive (s.completeWaits c).store (s.completeWaits c).holds l = lineActive s.store s.holds l := by
    cases l <;> rfl
  rw [levels]
  by_cases hd : d = c
  · rw [State.completeWaits_look, if_pos hd] at hw
    cases l <;> exact absurd hw (by simp [HoldFlags.completeWaits, HoldFlags.wait])
  · rw [State.completeWaits_look, if_neg hd] at hw ⊢
    exact h d l hw

/-- One act of a command, for the blocks that no crossing's service reaches. -/
inductive PartAct (s : State) : State → Prop where
  | station {t : State} (act : StationAct s t) : PartAct s t
  /-- Lamps, calls, grants, crossing and corner profiles, the response: with the cycle waits that a DONT_WALK completes. -/
  | service (t : State) (cues : t.cues = s.cues) (levels : t.levels = s.levels) (press : t.press = s.press)
      (stations : t.store.stations = s.store.stations) (lines : ∀ l, t.store.line l = s.store.line l)
      (holds : t.holds = s.holds ∨ ∃ c, t.holds = (s.completeWaits c).holds) : PartAct s t
  | findGate (c : Crossing) : PartAct s (s.findGate c)
  | cues (f : CueGenerator → CueGenerator) (queues : QueueLaw s.cues → QueueLaw (f s.cues)) : PartAct s (s.onCues f)
  | levels (v : Vector LevelState 48) (lawful : LevelLaw s → ∀ i, (look v i).Lawful) : PartAct s { s with levels := v }
  | holds (store : ProfileStore) (holds : HoldUnit) (stations : store.stations = s.store.stations)
      (lawful : HoldLaw s → HoldLaw { s with store := store, holds := holds }) : PartAct s { s with store := store, holds := holds }
  /-- A WRITE STATION within the assignment limits (R9). -/
  | write (i : Station) (new : StationProfile) (fits : s.store.breaksLimits i new = false) :
      PartAct s (s.onStore fun p => { p with stations := change p.stations i fun x => { x with pending := some new } })
  | renew (t : State) (assigned : AssignmentLaw t.store) (held : HoldLaw t) (queues : QueueLaw t.cues) (levels : LevelLaw t)
      (presses : PressLaw t) : PartAct s t

/-- A run of such acts. -/
def PartRun : State → State → Prop := Relation.ReflTransGen PartAct

namespace PartRun

variable {s t u : State}

theorem keeps {P : State → Prop} (act : ∀ s t, PartAct s t → P s → P t) (h : PartRun s t) (hs : P s) : P t := by
  induction h with
  | refl => exact hs
  | tail _ last ih => exact act _ _ last ih

theorem refl (s : State) : PartRun s s := Relation.ReflTransGen.refl
theorem act (h : PartAct s t) : PartRun s t := Relation.ReflTransGen.single h
theorem trans (h : PartRun s t) (k : PartRun t u) : PartRun s u := Relation.ReflTransGen.trans h k

theorem of_station (h : StationRun s t) : PartRun s t :=
  h.keeps (P := PartRun s) (fun _ _ last run => run.trans (act (.station last))) (refl s)

theorem findGate (s : State) (c : Crossing) : PartRun s (s.findGate c) := act (.findGate c)

theorem findGates (s : State) : PartRun s s.findGates := by
  unfold State.findGates
  generalize List.finRange 24 = l
  induction l generalizing s with
  | nil => exact refl s
  | cons c l ih => exact (findGate s c).trans (ih _)

theorem answer (h : PartRun s t) (x : Status) : PartRun s (t.answer x) :=
  h.trans (act (.service _ rfl rfl rfl rfl (fun _ => rfl) (.inl rfl)))

theorem respond (s : State) (x : Status) (l : List Byte) : PartRun s (s.respond x l) :=
  act (.service _ rfl rfl rfl rfl (fun _ => rfl) (.inl rfl))

theorem answered (s : State) (x : Status) : PartRun s (s.answer x) := respond s x []

theorem onCues {f : CueGenerator → CueGenerator} (queues : QueueLaw s.cues → QueueLaw (f s.cues)) : PartRun s (s.onCues f) :=
  act (.cues f queues)

/-- An event at a crossing, but for the finding of its gate. -/
theorem of_onlyAt {c : Crossing} (h : OnlyAt c s t) (cues : t.cues = s.cues)
    (holds : t.holds = s.holds ∨ ∃ c, t.holds = (s.completeWaits c).holds) : PartRun s t := by
  refine act (.service t cues ?_ ?_ ?_ ?_ holds)
  · rw [h.frame]; rfl
  · rw [h.frame]; rfl
  · rw [h.frame]; rfl
  · rw [h.frame]
    intro l
    cases l <;> rfl

end PartRun

/-! ## Cycle waits in a declaration (R108) -/

theorem State.declare_holds (s : State) (c : Crossing) (a : Aspect) :
    (s.declare c a).holds = s.holds ∨ (s.declare c a).holds = (s.completeWaits c).holds := by
  unfold State.declare
  dsimp only
  generalize hj : (if (s.store.crossing c).enabled then _ else _ : State) = judged
  have same : judged.holds = s.holds := by
    subst hj
    (repeat' split) <;> simp
  split
  · right
    simp only [State.completeWaits, State.onHolds_holds, same]
  · exact .inl same

theorem State.retest_holds (s : State) (c : Crossing) :
    (s.retest c).holds = s.holds ∨ (s.retest c).holds = (s.completeWaits c).holds := by
  unfold State.retest
  split
  · exact .inl rfl
  · dsimp only
    split
    · exact .inl rfl
    · rcases State.declare_holds (s.onAspect c fun x => { x with undecodable := none }) c ‹Aspect› with h | h
      · exact .inl h
      · exact .inr h

theorem State.transferCrossing_holds (s : State) (c : Crossing) (new : CrossingProfile) :
    (s.transferCrossing c new).holds = s.holds ∨ (s.transferCrossing c new).holds = (s.completeWaits c).holds := by
  have of_retest : ∀ t : State, t.holds = s.holds → (t.retest c).holds = s.holds ∨ (t.retest c).holds = (s.completeWaits c).holds :=
    fun t ht => by
      rcases State.retest_holds t c with h | h
      · exact .inl (h.trans ht)
      · right
        rw [h]
        simp only [State.completeWaits, State.onHolds_holds, ht]
  unfold State.transferCrossing
  dsimp only
  split
  · rw [State.enablingLimit_holds]
    refine of_retest _ ?_
    rw [State.enablingCheck_holds]
    split <;> rfl
  · refine of_retest _ ?_
    split <;> rfl

namespace PartRun

variable {s t u : State}

theorem retest (s : State) (c : Crossing) : PartRun s (s.retest c) :=
  of_onlyAt (.retest s) (by simp) ((State.retest_holds s c).imp_right fun h => ⟨c, h⟩)

theorem testTransfer (s : State) (c : Crossing) : PartRun s (s.testTransfer c) := by
  refine of_onlyAt (.testTransfer s) (by simp) ?_
  unfold State.testTransfer
  split
  · exact .inl rfl
  · split
    · exact (State.transferCrossing_holds s c _).imp_right fun h => ⟨c, h⟩
    · exact .inl rfl

theorem settleCrossing (s : State) (c : Crossing) : PartRun s (s.settleCrossing c) := (testTransfer s c).trans (findGate _ c)

/-- Lamps, calls and grants alone. -/
theorem same (cues : t.cues = s.cues) (levels : t.levels = s.levels) (press : t.press = s.press) (store : t.store = s.store)
    (holds : t.holds = s.holds) : PartRun s t :=
  act (.service t cues levels press (by rw [store]) (fun _ => by rw [store]) (.inl holds))

end PartRun

/-! ## Holds -/

namespace HoldLaw

variable {s : State}

/-- A change of the Hold Unit that keeps the timer, after which each line's waits stand only with flags, on an INACTIVE line. -/
theorem act {store : ProfileStore} {h : HoldUnit} (stations : store.stations = s.store.stations) (timer : TimerLaw s.holds → TimerLaw h)
    (waits : WaitLaw s → WaitLaw { s with store := store, holds := h }) : PartAct s { s with store := store, holds := h } :=
  .holds store h stations fun law => ⟨timer law.1, waits law.2⟩

/-- Which waits a line's event leaves, where the store now in force is p (R105 to R107, R109, R111). -/
structure LineWaits (p : ProfileStore) (l : HoldLine) (h h' : HoldUnit) : Prop where
  timer : h'.timer = h.timer
  sensed : ∀ m, h'.sensed m = h.sensed m
  other : ∀ c m, m ≠ l → (look h'.flags c).flag m = (look h.flags c).flag m ∧ (look h'.flags c).wait m = (look h.flags c).wait m
  waits : ∀ c, (look h'.flags c).wait l = true → (look h'.flags c).flag l = true ∧ lineActive p h' l = false

theorem activate_waits (p : ProfileStore) (l : HoldLine) (h : HoldUnit) : LineWaits p l h (h.activate p l) where
  timer := by simp
  sensed := by simp
  other c m hm := by
    rw [HoldUnit.activate_look]
    exact ⟨HoldFlags.withLine_flag_ne _ _ _ _ hm, HoldFlags.withLine_wait_ne _ _ _ _ hm⟩
  waits c hw := by
    rw [HoldUnit.activate_look, HoldFlags.withLine_wait] at hw
    cases hw

theorem clearLine_waits (p : ProfileStore) (l : HoldLine) (h : HoldUnit) : LineWaits p l h (h.clearLine l) where
  timer := by simp
  sensed := by simp
  other c m hm := by
    rw [HoldUnit.clearLine_look]
    exact ⟨HoldFlags.withLine_flag_ne _ _ _ _ hm, HoldFlags.withLine_wait_ne _ _ _ _ hm⟩
  waits c hw := by
    rw [HoldUnit.clearLine_look, HoldFlags.withLine_wait] at hw
    cases hw

theorem dropWaits_waits (p : ProfileStore) (l : HoldLine) (h : HoldUnit) : LineWaits p l h (h.dropWaits l) where
  timer := by simp
  sensed := by simp
  other c m hm := by
    rw [HoldUnit.dropWaits_look]
    exact ⟨HoldFlags.withLine_flag_ne _ _ _ _ hm, HoldFlags.withLine_wait_ne _ _ _ _ hm⟩
  waits c hw := by
    rw [HoldUnit.dropWaits_look, HoldFlags.withLine_wait] at hw
    cases hw

theorem cycleRelease_waits {p : ProfileStore} {l : HoldLine} {h : HoldUnit} (a : Vector AspectState 24)
    (inactive : lineActive p h l = false) (flagged : ∀ c, (look h.flags c).wait l = true → (look h.flags c).flag l = true) :
    LineWaits p l h (h.cycleRelease a l) where
  timer := by simp
  sensed := by simp
  other c m hm := by
    rw [HoldUnit.cycleRelease_look]
    split
    · split
      · exact ⟨HoldFlags.withLine_flag_ne _ _ _ _ hm, HoldFlags.withLine_wait_ne _ _ _ _ hm⟩
      · exact ⟨HoldFlags.withLine_flag_ne _ _ _ _ hm, HoldFlags.withLine_wait_ne _ _ _ _ hm⟩
    · exact ⟨rfl, rfl⟩
  waits c hw := by
    refine ⟨?_, by simpa [lineActive] using inactive⟩
    rw [HoldUnit.cycleRelease_look] at hw ⊢
    split at hw
    case isTrue hf =>
      rw [if_pos hf]
      split at hw
      · rw [HoldFlags.withLine_wait] at hw
        cases hw
      · rename_i quiet
        rw [if_neg quiet, HoldFlags.withLine_flag]
    case isFalse hf => exact absurd (flagged c hw) hf

theorem goInactive_waits {p : ProfileStore} {l : HoldLine} {h : HoldUnit} (a : Vector AspectState 24) (mode : ReleaseMode)
    (inactive : lineActive p h l = false) (flagged : ∀ c, (look h.flags c).wait l = true → (look h.flags c).flag l = true) :
    LineWaits p l h (h.goInactive a mode l) := by
  cases mode
  case level => exact clearLine_waits p l h
  case cycle => exact cycleRelease_waits a inactive flagged
  case latch => exact ⟨rfl, fun _ => rfl, fun _ _ _ => ⟨rfl, rfl⟩, fun c hw => ⟨flagged c hw, inactive⟩⟩

theorem newMode_waits {p : ProfileStore} {l : HoldLine} {h : HoldUnit} (a : Vector AspectState 24) (mode : ReleaseMode)
    (inactive : lineActive p h l = false) (flagged : ∀ c, (look h.flags c).wait l = true → (look h.flags c).flag l = true) :
    LineWaits p l h (h.newMode a mode l) := by
  cases mode
  case level => exact clearLine_waits p l h
  case cycle => exact cycleRelease_waits a inactive flagged
  case latch => exact dropWaits_waits p l h

end HoldLaw

end Sys2Proof.Machine

/-! Every command is a run of acts, and every step keeps the laws of the speech queues, of levels and presses, of holds, and of the
assignments. -/

namespace Sys2Proof.Machine

/-! ## The waits of one line -/

/-- What WaitLaw says of one line. -/
def WaitsAt (p : ProfileStore) (h : HoldUnit) (l : HoldLine) : Prop :=
  ∀ c, (look h.flags c).wait l = true → (look h.flags c).flag l = true ∧ lineActive p h l = false

theorem waitLaw_iff {s : State} : WaitLaw s ↔ ∀ l, WaitsAt s.store s.holds l := forall_comm

namespace HoldLaw.LineWaits

variable {p : ProfileStore} {l : HoldLine} {h h' : HoldUnit}

theorem keeps_other (k : LineWaits p l h h') {m : HoldLine} (hm : m ≠ l) (w : WaitsAt p h m) : WaitsAt p h' m := by
  intro c hw
  rw [(k.other c m hm).2] at hw
  rw [(k.other c m hm).1]
  simpa only [lineActive, k.sensed] using w c hw

theorem refl (w : WaitsAt p h l) : LineWaits p l h h := ⟨rfl, fun _ => rfl, fun _ _ _ => ⟨rfl, rfl⟩, w⟩

/-- With the other line lawful, the Hold Unit is lawful after the event of a line. -/
theorem waitLaw (k : LineWaits p l h h') (other : ∀ m, m ≠ l → WaitsAt p h m) (m : HoldLine) : WaitsAt p h' m := by
  by_cases hm : m = l
  · subst hm
    exact k.waits
  · exact k.keeps_other hm (other m hm)

end HoldLaw.LineWaits

namespace WaitLaw

variable {s : State}

theorem flagged (h : WaitLaw s) (l : HoldLine) (c : Crossing) (hw : (look s.holds.flags c).wait l = true) :
    (look s.holds.flags c).flag l = true := (h c l hw).1

/-- A Hold Unit with the flags A and B, the waits and the lines of another (R113, R114). -/
theorem of_lines {h : HoldUnit} (w : WaitLaw s) (sensed : ∀ l, h.sensed l = s.holds.sensed l)
    (flags : ∀ c l, (look h.flags c).flag l = (look s.holds.flags c).flag l ∧ (look h.flags c).wait l = (look s.holds.flags c).wait l) :
    WaitLaw { s with holds := h } := by
  intro c l hw
  rw [(flags c l).2] at hw
  rw [(flags c l).1]
  simpa only [lineActive, sensed] using w c l hw

theorem changeLevel (w : WaitLaw s) (l : HoldLine) (x : Level) : WaitLaw (s.changeLevel l x) := by
  have other : ∀ m, m ≠ l → WaitsAt s.store (s.holds.sense l x) m := fun m hm c hw => by
    rw [HoldUnit.sense_flags] at hw ⊢
    simpa only [lineActive, HoldUnit.sense_sensed_ne _ _ _ hm] using w c m hw
  have flagged : ∀ c, (look (s.holds.sense l x).flags c).wait l = true → (look (s.holds.sense l x).flags c).flag l = true := by
    simpa only [HoldUnit.sense_flags] using w.flagged l
  unfold State.changeLevel
  split
  case isTrue => exact w
  case isFalse =>
    dsimp only
    refine waitLaw_iff.2 ?_
    split
    case h_1 => exact (HoldLaw.activate_waits _ l _).waitLaw other
    case h_2 inactive => exact (HoldLaw.goInactive_waits _ _ inactive flagged).waitLaw other
    case h_3 not_activated _ =>
      refine (HoldLaw.LineWaits.refl (h := s.holds.sense l x) fun c hw => ⟨flagged c hw, ?_⟩).waitLaw other
      rw [HoldUnit.sense_flags] at hw
      rw [← Bool.not_eq_true]
      exact fun active => not_activated (w c l hw).2 active

theorem applyLine {before : ProfileStore} {l : HoldLine} (w : WaitsAt before s.holds l) :
    HoldLaw.LineWaits s.store l s.holds (s.applyLine before l).holds := by
  unfold State.applyLine
  split
  case h_1 => exact HoldLaw.activate_waits _ l _
  case h_2 inactive => exact HoldLaw.goInactive_waits _ _ inactive fun c hw => (w c hw).1
  case h_3 inactive =>
    split
    · exact .refl fun c hw => ⟨(w c hw).1, inactive⟩
    · exact HoldLaw.newMode_waits _ _ inactive fun c hw => (w c hw).1
  case h_4 active _ => exact .refl fun c hw => absurd (w c hw).2 (by rw [active]; decide)

end WaitLaw

/-- No cycle wait stands after the lines are sensed at a part reset (R103). -/
theorem State.senseLines_wait (s : State) (none : ∀ c l, (look s.holds.flags c).wait l = false) (c : Crossing) (l : HoldLine) :
    (look s.senseLines.holds.flags c).wait l = false := by
  have activate : ∀ (p : ProfileStore) (m : HoldLine) (h : HoldUnit), (∀ c l, (look h.flags c).wait l = false) →
      ∀ c l, (look (h.activate p m).flags c).wait l = false := fun p m h hn c l => by
    rw [HoldUnit.activate_look]
    by_cases hl : l = m
    · rw [hl, HoldFlags.withLine_wait]
    · rw [HoldFlags.withLine_wait_ne _ _ _ _ hl]
      exact hn c l
  have onHolds : ∀ (m : HoldLine) (u : State), (∀ c l, (look u.holds.flags c).wait l = false) →
      ∀ c l, (look (if lineActive u.store u.holds m then u.onHolds (HoldUnit.activate u.store m) else u).holds.flags c).wait l = false :=
    fun m u hu => by
      split
      · rw [State.onHolds_holds]
        exact activate _ _ _ hu
      · exact hu
  unfold State.senseLines
  exact onHolds .b _ (onHolds .a s none) c l

namespace PartRun

variable {s t : State}

theorem onHolds {f : HoldUnit → HoldUnit} (lawful : HoldLaw s → HoldLaw (s.onHolds f)) : PartRun s (s.onHolds f) :=
  act (.holds s.store (f s.holds) rfl lawful)

theorem changeLevel (s : State) (l : HoldLine) (x : Level) : PartRun s (s.changeLevel l x) := by
  have whole : s.changeLevel l x = { s with holds := (s.changeLevel l x).holds } := by
    unfold State.changeLevel
    dsimp only
    (repeat' split) <;> rfl
  rw [whole]
  refine act (.holds s.store _ rfl fun h => ⟨?_, ?_⟩)
  · rw [TimerLaw, State.changeLevel_timer]
    exact h.1
  · have lawful := h.2.changeLevel l x
    rwa [whole] at lawful

/-- Flags S, the timer and the set alone (R113, R114). -/
theorem software {f : HoldUnit → HoldUnit} (sensed : ∀ l, (f s.holds).sensed l = s.holds.sensed l)
    (flags : ∀ c, look (f s.holds).flags c = { look s.holds.flags c with s := (look (f s.holds).flags c).s })
    (timer : TimerLaw s.holds → TimerLaw (f s.holds)) : PartRun s (s.onHolds f) :=
  onHolds fun h => ⟨timer h.1, h.2.of_lines sensed fun c l => by rw [flags c]; cases l <;> exact ⟨rfl, rfl⟩⟩

theorem setHold (set : List Crossing) (n : Nat) (s : State) : PartRun s (s.setHold set n) := by
  have stop : PartRun s (s.onHolds fun h => h.lapseExpiry.stopSoftware).findGates :=
    (software (by simp) (by simp [HoldUnit.stopSoftware_look]) (fun _ t ht => by cases ht)).trans (findGates _)
  unfold State.setHold
  split
  · split
    · exact stop.answer _
    · exact stop.answer _
  · refine ((software (by simp) (by simp [HoldUnit.startSoftware_look]) fun _ t ht => ?_).trans (findGates _)).answer _
    obtain rfl := Option.some.inj ht
    exact Nat.mul_le_mul_right _ (Nat.min_le_right _ _)

theorem releaseHold (l : HoldLine) (s : State) : PartRun s (s.releaseHold l) := by
  unfold State.releaseHold
  split
  · exact answered _ _
  · split
    · refine (PartRun.trans (onHolds fun h => ⟨?_, waitLaw_iff.2 ?_⟩) (findGates _)).answer _
      · rw [TimerLaw, State.onHolds_holds, HoldUnit.clearLine_timer]
        exact h.1
      · rw [State.onHolds_holds, State.onHolds_store]
        exact (HoldLaw.clearLine_waits s.store l s.holds).waitLaw fun m _ => waitLaw_iff.1 h.2 m
    · exact answered _ _

/-- What a WRITE STREET does to the lines, before the gates are found (R111). -/
theorem lines (p : ProfileStore) (s : State) (stations : p.stations = s.store.stations) :
    PartRun s ((({ s with store := p } : State).applyLine s.store .a).applyLine s.store .b) := by
  have applied : ∀ (u : State) (l : HoldLine), u.applyLine s.store l = { u with holds := (u.applyLine s.store l).holds } := fun u l => by
    unfold State.applyLine
    (repeat' split) <;> rfl
  have first : WaitsAt s.store s.holds .a → _ := WaitLaw.applyLine (s := { s with store := p })
  generalize hu : ({ s with store := p } : State).applyLine s.store .a = u at first
  have store : u.store = p := by rw [← hu, State.applyLine_store]
  have second : WaitsAt s.store u.holds .b → _ := WaitLaw.applyLine (s := u)
  have timer : (u.applyLine s.store .b).holds.timer = s.holds.timer := by
    rw [State.applyLine_timer, ← hu, State.applyLine_timer]
  have whole : u.applyLine s.store .b = { s with store := p, holds := (u.applyLine s.store .b).holds } := by
    rw [applied u]
    generalize (u.applyLine s.store .b).holds = h
    rw [← hu, applied]
  rw [whole]
  generalize (u.applyLine s.store .b).holds = h at second timer
  refine act (.holds p h stations fun law => ⟨?_, waitLaw_iff.2 fun m => ?_⟩)
  · rw [TimerLaw, timer]
    exact law.1
  · have before := waitLaw_iff.1 law.2
    have first := first (before .a)
    have second := second fun c hw => by
      rw [(first.other c .b (by decide)).2] at hw
      rw [(first.other c .b (by decide)).1]
      simpa only [lineActive, first.sensed] using before .b c hw
    rw [store] at second
    cases m
    case a => exact second.keeps_other (by decide) first.waits
    case b => exact second.waits

theorem writeStreet (a b : LineSettings) (n : Nat) (s : State) : PartRun s (s.writeStreet a b n) := by
  unfold State.writeStreet
  exact ((lines { s.store with
    lineA := a, lineB := b, nextFrameLength := some (clamp Config.frameMin Config.frameMax n) } s rfl).trans (findGates _)).answer _

end PartRun

/-! ## The commands -/

theorem assignmentLaw_reset : AssignmentLaw ProfileStore.reset := by
  have counted : ∀ j : Station, (look ProfileStore.reset.stations j).counted = StationProfile.default j := fun j => by
    simp [ProfileStore.reset, Copies.counted]
  simp only [AssignmentLaw, counted]
  decide

namespace PartRun

variable {s t : State}

theorem onTable (s : State) (f : CallTable → CallTable) : PartRun s (s.onTable f) := same rfl rfl rfl rfl rfl
theorem onAspect (s : State) (c : Crossing) (f : AspectState → AspectState) : PartRun s (s.onAspect c f) := same rfl rfl rfl rfl rfl
theorem onGrant (s : State) (c : Crossing) (f : GrantState → GrantState) : PartRun s (s.onGrant c f) := same rfl rfl rfl rfl rfl

/-- A corner's profile alone. -/
theorem onCorners (s : State) (f : Vector (Copies CornerProfile) 32 → Vector (Copies CornerProfile) 32) :
    PartRun s (s.onStore fun p => { p with corners := f p.corners }) :=
  act (.service _ rfl rfl rfl rfl (fun l => by cases l <;> rfl) (.inl rfl))

theorem grant (c : Crossing) (w : Nat) (s : State) : PartRun s (s.grant c w) := by
  unfold State.grant
  dsimp only
  split
  · exact answered _ _
  · split
    · exact answered _ _
    · split
      · exact answered _ _
      · split
        · exact answered _ _
        · split
          · exact ((onTable s _).trans (findGate _ c)).answer _
          · split
            next u _ => exact ((onTable s fun _ => u).trans (findGate _ c)).answer _
            next => exact answered _ _

theorem cancelWaiting (c : Crossing) (s : State) : PartRun s (s.cancelWaiting c) := by
  unfold State.cancelWaiting
  split
  · exact ((onTable s _).trans (settleCrossing _ c)).answer _
  · split
    · exact (onTable s _).answer _
    · exact answered _ _

theorem cancelServing (c : Crossing) (s : State) : PartRun s (s.cancelServing c) := by
  unfold State.cancelServing
  split
  · exact answered _ _
  · split
    · exact ((onTable s _).trans (settleCrossing _ c)).answer _
    · exact answered _ _

theorem setMode (m : StreetMode) (s : State) : PartRun s (s.setMode m) := by
  unfold State.setMode
  split
  · exact refl s
  · refine PartRun.trans (act (.service (s.onStore fun p => { p with mode := m }) rfl rfl rfl rfl ?_ (.inl rfl)))
      (act (.levels _ fun law i => ?_))
    · intro l
      cases l <;> rfl
    · rw [look_mapAll]
      exact (law i).setRange _ _

theorem partReset (s : State) : PartRun s s.partReset := by
  have store : s.partReset.store = ProfileStore.reset := State.senseLines_store _
  have cues : s.partReset.cues = CueGenerator.reset := State.senseLines_cues _
  have levels : s.partReset.levels = State.reset.levels := State.senseLines_levels _
  have press : s.partReset.press = State.reset.press := State.senseLines_press _
  refine act (.renew _ (by rw [store]; exact assignmentLaw_reset) ⟨?_, ?_⟩ ?_ ?_ ?_)
  · intro t ht
    rw [State.partReset, State.senseLines_timer] at ht
    cases ht
  · intro c l hw
    have none := State.senseLines_wait { State.reset with
      aspects := mapAll (fun c _ => AspectState.reset (look s.aspects c).w (look s.aspects c).d) s.aspects
      holds := HoldUnit.reset s.holds.levelA s.holds.levelB
      pending := s.pending } (fun c l => by cases l <;> simp [HoldUnit.reset, HoldFlags.reset, HoldFlags.wait]) c l
    rw [State.partReset, none] at hw
    cases hw
  · rw [cues]
    intro k
    simp [CueGenerator.reset]
  · intro i
    rw [levels]
    simp only [State.reset, look_replicate]
    exact ⟨by decide, by decide, fun _ ho => nomatch ho⟩
  · intro i
    rw [press]
    simp only [State.reset, look_replicate]
    exact .ended ⟨rfl, rfl, rfl, rfl, rfl⟩ rfl (Nat.le_refl _)

theorem takeLimit (c : Crossing) (s : State) : PartRun s (s.takeLimit c) := by
  unfold State.takeLimit
  split
  · exact refl s
  · split
    · exact refl s
    · refine PartRun.trans (same ?_ ?_ ?_ ?_ ?_) (settleCrossing _ c) <;> simp

theorem startPeriod (k : Corner) (s : State) : PartRun s (s.startPeriod k) := by
  have stored : PartRun s (s.transferCorner k) := onCorners s fun v => change v k Copies.transfer
  have slewed : PartRun s ((s.transferCorner k).slewCorner k) := stored.trans (act (.levels _ fun law i => by
    rw [look_mapAll]
    split
    · exact (law i).slew _
    · exact law i))
  unfold State.startPeriod
  exact slewed.trans (onCues fun law => law.of_speech rfl)

theorem samplePoint (k : Corner) (s : State) :
    PartRun s { s.onCues (fun g => g.onCorner k fun x => { x with samplePassed := true }) with
      levels := mapAll (fun i x => if (s.store.station i).corner = k then { x with windowOpen := true } else x) s.levels } :=
  (onCues fun law => law.of_speech (by simp)).trans (act (.levels _ fun law i => by
    rw [look_mapAll]
    split
    · exact (law i).withWindow true
    · exact law i))

theorem passTime (s : State) : PartRun s s.passTime := by
  have cued : PartRun s (s.onCues CueGenerator.passTime) := onCues fun law => law.passTime
  have held : PartRun s ((s.onCues CueGenerator.passTime).onHolds HoldUnit.passTime) := cued.trans
    (software (fun l => by cases l <;> rfl) (fun _ => rfl) fun law t ht => by
      obtain ⟨n, hn, rfl⟩ := Option.map_eq_some_iff.1 ht
      exact (Nat.sub_le n 1).trans (law n hn))
  refine held.trans (same ?_ ?_ ?_ ?_ ?_) <;> simp [State.passTime]

theorem of_exec {i : Instr} (hi : exec i s = .next t) (plain : Plain i) : PartRun s t := by
  cases i
  case requestFrameRefused f => exact absurd rfl (plain f)
  case partReset =>
    obtain rfl := next_inj hi
    exact partReset s
  case reset =>
    obtain rfl := next_inj hi
    exact (answered s _).trans (partReset _)
  case streetTimeTick =>
    obtain rfl := next_inj hi
    refine act (.service _ rfl rfl rfl rfl (fun l => ?_) (.inl rfl))
    cases l <;> rfl
  case noRequest =>
    obtain rfl := next_inj hi
    exact respond _ _ _
  case identify =>
    obtain rfl := next_inj hi
    exact respond _ _ _
  case readSummary =>
    obtain rfl := next_inj hi
    exact respond _ _ _
  case readCalls scope =>
    simp only [exec, execReadCalls] at hi
    split at hi <;> obtain rfl := next_inj hi
    · exact (onTable s _).trans (respond _ _ _)
    · exact answered _ _
  case readCrossing n =>
    simp only [exec, execReadCrossing] at hi
    split at hi <;> obtain rfl := next_inj hi
    · exact ((onAspect s _ _).trans (onGrant _ _ _)).trans (respond _ _ _)
    · exact answered _ _
  case readStation n =>
    simp only [exec, execReadStation] at hi
    split at hi <;> obtain rfl := next_inj hi
    · exact (of_station ((StationRun.onLink _ _ _).trans (StationRun.onPress (f := fun x => { x with stuckNotice := false }) id))).trans
        (respond _ _ _)
    · exact answered _ _
  case readCorner n =>
    simp only [exec, execReadCorner] at hi
    split at hi <;> obtain rfl := next_inj hi <;> exact respond _ _ _
  case grant n w =>
    simp only [exec, execGrant] at hi
    split at hi <;> obtain rfl := next_inj hi
    · exact grant _ _ s
    · exact answered _ _
  case cancel n x =>
    simp only [exec, execCancel] at hi
    split at hi <;> obtain rfl := next_inj hi
    · exact cancelWaiting _ s
    · exact cancelServing _ s
    · exact answered _ _
  case clearFault n =>
    simp only [exec, execClearFault] at hi
    split at hi
    · split at hi
      · split at hi <;> obtain rfl := next_inj hi
        · exact (onAspect s _ _).answer _
        · exact answered _ _
      · obtain rfl := next_inj hi
        exact answered _ _
    · obtain rfl := next_inj hi
      exact answered _ _
  case setHold set time =>
    simp only [exec, execSetHold] at hi
    split at hi <;> obtain rfl := next_inj hi
    · exact setHold _ _ s
    · exact answered _ _
  case releaseLineHold n =>
    simp only [exec, execReleaseLineHold] at hi
    split at hi <;> obtain rfl := next_inj hi
    · exact releaseHold _ s
    · exact answered _ _
  case setStreetMode n =>
    simp only [exec, execSetStreetMode] at hi
    split at hi <;> obtain rfl := next_inj hi
    · exact (setMode _ s).answer _
    · exact answered _ _
  case writeCrossing n f =>
    simp only [exec, execWriteCrossing] at hi
    split at hi <;> obtain rfl := next_inj hi
    · exact (PartRun.trans (of_onlyAt (OnlyAt.putProfile _) rfl (.inl rfl)) (settleCrossing _ _)).answer _
    · exact answered _ _
  case writeStation n f =>
    simp only [exec, execWriteStation] at hi
    split at hi
    · split at hi <;> obtain rfl := next_inj hi
      · exact answered _ _
      · rename_i fits
        exact (act (.write _ _ (by simpa using fits))).answer _
    · obtain rfl := next_inj hi
      exact answered _ _
  case writeCorner n f =>
    simp only [exec, execWriteCorner] at hi
    split at hi <;> obtain rfl := next_inj hi
    · exact (onCorners s fun v => change v _ fun x => { x with pending := some _ }).answer _
    · exact answered _ _
  case writeStreet la ma lb mb n =>
    simp only [exec, execWriteStreet] at hi
    split at hi <;> obtain rfl := next_inj hi
    · exact writeStreet _ _ _ s
    · exact answered _ _
  case restartStationBus =>
    obtain rfl := next_inj hi
    exact (of_station (.sectionReset s)).answer _
  case frameStart =>
    obtain rfl := next_inj hi
    exact of_station (.startFrame s)
  case stationTransfer j =>
    obtain rfl := next_inj hi
    exact of_station (.testStation j s)
  case stationSlot j =>
    obtain rfl := next_inj hi
    exact of_station (.beginSlot j s)
  case stationReport b =>
    obtain rfl := next_inj hi
    exact of_station (.receive b s)
  case missedSlot =>
    obtain rfl := next_inj hi
    exact of_station (.endSlot s)
  case lampLineChange c w d =>
    obtain rfl := next_inj hi
    exact ((onAspect s c _).trans (retest _ c)).trans (settleCrossing _ c)
  case steadyTimeReached c l m =>
    obtain rfl := next_inj hi
    exact ((onAspect s c _).trans (retest _ c)).trans (settleCrossing _ c)
  case undecodableLimit c =>
    obtain rfl := next_inj ((exec_undecodableLimit c s).symm.trans hi)
    split
    · exact onAspect s c _
    · exact takeLimit c s
  case memoAllocation =>
    obtain rfl := next_inj hi
    exact onTable s _
  case crossingTransfer c =>
    obtain rfl := next_inj hi
    exact settleCrossing s c
  case grantWindowExpiry c =>
    cases hg : s.table.grantedSlot c
    case none =>
      obtain rfl := next_inj ((exec_grantWindowExpiry_none hg).symm.trans hi)
      exact refl s
    case some k =>
      obtain rfl := next_inj ((exec_grantWindowExpiry_some hg).symm.trans hi)
      exact ((onTable s _).trans (onGrant _ c _)).trans (settleCrossing _ c)
  case holdLineChange l x =>
    obtain rfl := next_inj hi
    exact (changeLevel s l x).trans (findGates _)
  case cycleWaitComplete c =>
    obtain rfl := next_inj ((exec_cycleWaitComplete c s).symm.trans hi)
    split
    · exact PartRun.trans (of_onlyAt (.completeWaits s) rfl (.inr ⟨c, rfl⟩)) (findGate _ c)
    · exact refl s
  case softwareHoldExpiry =>
    simp only [exec, execSoftwareHoldExpiry] at hi
    split at hi
    · obtain rfl := next_inj hi
      exact software (fun l => by cases l <;> rfl) (fun _ => rfl) id
    · split at hi <;> obtain rfl := next_inj hi
      · exact (software (by simp) (by simp [HoldUnit.stopSoftware_look]) (fun _ t ht => by cases ht)).trans (findGates _)
      · exact refl s
  case periodStart k =>
    obtain rfl := next_inj hi
    exact startPeriod k s
  case cornerTransfer k =>
    obtain rfl := next_inj hi
    exact onCorners s fun v => change v k Copies.transfer
  case samplePoint k =>
    simp only [exec, execSamplePoint] at hi
    split at hi <;> obtain rfl := next_inj hi
    · exact refl s
    · exact samplePoint k s
  case speechStart k =>
    obtain rfl := next_inj hi
    exact onCues fun q => q.startTest _ k
  case playLimit k =>
    obtain rfl := next_inj hi
    exact onCues fun q => q.limitPlayback _ k
  case gapEnd k =>
    obtain rfl := next_inj hi
    exact onCues fun q => q.endGap _ k

/-- A law that each act keeps, and that the queue of commands does not touch, is kept by every step. -/
theorem step_keeps {P : State → Prop} (queue : ∀ s l, P s → P { s with pending := l }) (act : ∀ s t, PartAct s t → P s → P t)
    (s t : State) (hs : P s) (h : step s = .next t) : P t :=
  Machine.step_keeps queue (fun s hs => (passTime s).keeps act hs) (fun s x hs => (answered s x).keeps act hs)
    (fun _ _ _ plain hs next => (of_exec next plain).keeps act hs) s t hs h

end PartRun

end Sys2Proof.Machine

/-! Every step keeps the laws of the speech queues, of the stations, of the Hold Unit and of the assignments. -/

namespace Sys2Proof.Machine

/-! ## Speech queues -/

theorem QueueLaw.stationAct {s t : State} (h : StationAct s t) (law : QueueLaw s.cues) : QueueLaw t.cues := by
  cases h with
  | cues f _ queues => exact queues law
  | bus f => exact law
  | press i f _ => exact law
  | level i f _ => exact law
  | aim i x => exact law
  | register i => exact law
  | upgrade i => exact law
  | frameLength n => exact law
  | move i new _ _ => exact law

theorem QueueLaw.partAct {s t : State} (h : PartAct s t) (law : QueueLaw s.cues) : QueueLaw t.cues := by
  cases h with
  | station act => exact law.stationAct act
  | service _ cues _ _ _ _ _ => rwa [cues]
  | findGate c => exact law.findGate c
  | cues f queues => exact queues law
  | levels v _ => exact law
  | holds p h _ _ => exact law
  | write i new _ => exact law
  | renew _ _ _ queues _ _ => exact queues

/-- Settles O57: every act at the Cue Generator keeps the queues lawful. -/
theorem stepKeepsQueues : Obligations.StepKeepsQueues :=
  PartRun.step_keeps (P := fun s => QueueLaw s.cues) (fun _ _ h => h) fun _ _ act law => law.partAct act

/-! ## Levels and presses -/

/-- A change of one entry of a table keeps what holds of every entry. -/
theorem look_change_keeps {α : Type} {n : Nat} {P : α → Prop} {v : Vector α n} {i : Fin n} {f : α → α} (h : ∀ j, P (look v j))
    (hf : P (f (look v i))) (j : Fin n) : P (look (change v i f) j) := by
  by_cases hj : j = i
  · rw [hj, look_change_self]
    exact hf
  · rw [look_change_ne _ hj]
    exact h j

theorem LevelLaw.stationAct {s t : State} (h : StationAct s t) (law : LevelLaw s) : LevelLaw t := by
  cases h with
  | level i f lawful => exact look_change_keeps law (lawful (law i))
  | bus f => exact law
  | press i f _ => exact law
  | aim i x => exact law
  | register i => exact law
  | upgrade i => exact law
  | cues f _ _ => exact law
  | frameLength n => exact law
  | move i new _ _ => exact law

theorem LevelLaw.partAct {s t : State} (h : PartAct s t) (law : LevelLaw s) : LevelLaw t := by
  cases h with
  | station act => exact law.stationAct act
  | service _ _ levels _ _ _ _ =>
    intro i
    rw [levels]
    exact law i
  | findGate c =>
    intro i
    rw [State.findGate_levels]
    exact law i
  | cues f _ => exact law
  | levels v lawful => exact lawful law
  | holds p h _ _ => exact law
  | write i new _ => exact law
  | renew _ _ _ _ levels _ => exact levels

theorem PressLaw.stationAct {s t : State} (h : StationAct s t) (law : PressLaw s) : PressLaw t := by
  cases h with
  | press i f lawful => exact look_change_keeps law (lawful (law i))
  | bus f => exact law
  | level i f _ => exact law
  | aim i x => exact law
  | register i => exact law
  | upgrade i => exact law
  | cues f _ _ => exact law
  | frameLength n => exact law
  | move i new _ _ => exact law

theorem PressLaw.partAct {s t : State} (h : PartAct s t) (law : PressLaw s) : PressLaw t := by
  cases h with
  | station act => exact law.stationAct act
  | service _ _ _ press _ _ _ =>
    intro i
    rw [press]
    exact law i
  | findGate c =>
    intro i
    rw [State.findGate_press]
    exact law i
  | cues f _ => exact law
  | levels v _ => exact law
  | holds p h _ _ => exact law
  | write i new _ => exact law
  | renew _ _ _ _ _ presses => exact presses

/-- Settles O58: levels and presses change by acts that keep one station's law. -/
theorem stepKeepsStations : Obligations.StepKeepsStations := fun s t next =>
  ⟨fun law => PartRun.step_keeps (P := LevelLaw) (fun _ _ h => h) (fun _ _ act law => law.partAct act) s t law next,
    fun law => PartRun.step_keeps (P := PressLaw) (fun _ _ h => h) (fun _ _ act law => law.partAct act) s t law next⟩

/-! ## Holds -/

theorem HoldLaw.of_same {s t : State} (h : HoldLaw s) (holds : t.holds = s.holds) (lines : ∀ l, t.store.line l = s.store.line l) :
    HoldLaw t := ⟨by rw [holds]; exact h.1, h.2.of_same holds lines⟩

theorem HoldLaw.stationAct {s t : State} (h : StationAct s t) (law : HoldLaw s) : HoldLaw t := by
  have side := StationSide.of_act h
  refine law.of_same ?_ fun l => ?_
  · rw [side.frame]
    rfl
  · rw [side.frame]
    cases l <;> rfl

theorem HoldLaw.partAct {s t : State} (h : PartAct s t) (law : HoldLaw s) : HoldLaw t := by
  cases h with
  | station act => exact law.stationAct act
  | service _ _ _ _ _ lines holds =>
    rcases holds with same | ⟨c, completed⟩
    · exact law.of_same same lines
    · have after : HoldLaw (s.completeWaits c) := ⟨by rw [TimerLaw, State.completeWaits_timer]; exact law.1, law.2.completeWaits c⟩
      exact after.of_same completed fun l => by rw [lines, State.completeWaits_store]
  | findGate c => exact law.of_same (by simp) fun l => by rw [State.findGate_store]
  | cues f _ => exact law
  | levels v _ => exact law
  | holds p h _ lawful => exact lawful law
  | write i new _ => exact law.of_same rfl fun l => by cases l <;> rfl
  | renew _ _ held _ _ _ => exact held

/-- Settles O59: a line's event leaves waits only beside flags on an INACTIVE line, and the timer is set to 3600 s at most. -/
theorem stepKeepsHolds : Obligations.StepKeepsHolds := fun s t timer waits next =>
  PartRun.step_keeps (P := HoldLaw) (fun _ _ h => h) (fun _ _ act law => law.partAct act) s t ⟨timer, waits⟩ next

/-! ## Assignments -/

section Counts

variable {n : Nat} {p q : Fin n → Bool}

theorem members_nodup (p : Fin n → Bool) : (members p).Nodup := (List.nodup_finRange n).filter _

theorem countWhere_eq_card (p : Fin n → Bool) : countWhere p = (Finset.univ.filter fun i => p i = true).card := by
  rw [countWhere, ← List.toFinset_card_of_nodup (members_nodup p)]
  congr 1
  ext i
  simp

theorem countWhere_mono (h : ∀ i, p i = true → q i = true) : countWhere p ≤ countWhere q := by
  rw [countWhere_eq_card, countWhere_eq_card]
  exact Finset.card_le_card fun i hi => by
    rw [Finset.mem_filter] at hi ⊢
    exact ⟨hi.1, h i hi.2⟩

/-- One more number than the others. -/
theorem countWhere_le_succ (i : Fin n) (p : Fin n → Bool) : countWhere p ≤ countWhere (fun j => j != i && p j) + 1 := by
  rw [countWhere_eq_card, countWhere_eq_card]
  refine (Finset.card_le_card fun j hj => ?_).trans (Finset.card_insert_le i _)
  rw [Finset.mem_filter] at hj
  rw [Finset.mem_insert, Finset.mem_filter]
  by_cases hji : j = i
  · exact .inl hji
  · exact .inr ⟨hj.1, by simp [hji, hj.2]⟩

end Counts

/-- The stations that count at a place after one station's entry was replaced. -/
theorem count_after_change {α : Type} [DecidableEq α] {v : Vector (Copies StationProfile) 48} {i : Station}
    {f : Copies StationProfile → Copies StationProfile} {place : StationProfile → α} {x : α} {most : Nat}
    (before : countWhere (fun j : Station => place (look v j).counted == x) ≤ most)
    (fits : place (f (look v i)).counted = x → countWhere (fun j : Station => j != i && place (look v j).counted == x) + 1 ≤ most) :
    countWhere (fun j : Station => place (look (change v i f) j).counted == x) ≤ most := by
  by_cases hx : place (f (look v i)).counted = x
  · refine (countWhere_le_succ i _).trans (le_trans ?_ (fits hx))
    refine Nat.succ_le_succ (countWhere_mono fun j hj => ?_)
    simp only [Bool.and_eq_true, bne_iff_ne] at hj ⊢
    rw [look_change_ne _ hj.1] at hj
    exact hj
  · refine le_trans (countWhere_mono fun j hj => ?_) before
    by_cases hji : j = i
    · rw [hji, look_change_self, beq_iff_eq] at hj
      exact absurd hj hx
    · rwa [look_change_ne _ hji] at hj

namespace AssignmentLaw

variable {p q : ProfileStore}

theorem of_same (law : AssignmentLaw p) (same : ∀ j, (look q.stations j).counted = (look p.stations j).counted) : AssignmentLaw q := by
  simpa only [AssignmentLaw, same] using law

theorem of_stations (law : AssignmentLaw p) (same : q.stations = p.stations) : AssignmentLaw q := law.of_same fun _ => by rw [same]

theorem stationAct {s t : State} (h : StationAct s t) (law : AssignmentLaw s.store) : AssignmentLaw t.store := by
  cases h with
  | move i new pending _ =>
    refine law.of_same fun j => ?_
    simp only [State.onTable_store, State.onStore_store]
    by_cases hj : j = i
    · rw [hj, look_put_self, Copies.counted, Copies.counted, pending]
      rfl
    · rw [look_put_ne _ hj]
  | bus f => exact law
  | press i f _ => exact law
  | level i f _ => exact law
  | aim i x => exact law
  | register i => exact law
  | upgrade i => exact law
  | cues f _ _ => exact law
  | frameLength n => exact law

theorem partAct {s t : State} (h : PartAct s t) (law : AssignmentLaw s.store) : AssignmentLaw t.store := by
  cases h with
  | station act => exact law.stationAct act
  | service _ _ _ _ stations _ _ => exact law.of_stations stations
  | findGate c => rwa [State.findGate_store]
  | cues f _ => exact law
  | levels v _ => exact law
  | holds p h stations _ => exact law.of_stations stations
  | write i new fits =>
    simp only [ProfileStore.breaksLimits, Bool.or_eq_false_iff, decide_eq_false_iff_not, Nat.not_lt] at fits
    refine ⟨fun c => count_after_change (place := StationProfile.crossing) (law.1 c) fun hc => ?_,
      fun k => count_after_change (place := StationProfile.corner) (law.2 k) fun hk => ?_⟩
    · rw [← hc]
      exact fits.1
    · rw [← hk]
      exact fits.2
  | renew _ assigned _ _ _ _ => exact assigned

end AssignmentLaw

/-- Settles O60: a transfer places a station where it was counted already, and a write is refused past the limits. -/
theorem stepKeepsAssignments : Obligations.StepKeepsAssignments :=
  PartRun.step_keeps (P := fun s => AssignmentLaw s.store) (fun _ _ h => h) fun _ _ act law => law.partAct act

end Sys2Proof.Machine

/-! The laws of the Call Table (R36, R37, R51), stated of a table alone, and what each of its operations does to them. -/

namespace Sys2Proof.Machine

/-! ## Requesting sets (R37) -/

namespace RequestSet

variable {p p' : ProfileStore} {c : Crossing} {set : List Station} {n : Nat} {i : Station}

theorem empty (p : ProfileStore) (c : Crossing) : RequestSet p c [] 0 := ⟨by simp, .nil, by simp, by simp, by simp⟩

theorem single (h : (p.station i).crossing = c) : RequestSet p c [i] 1 := ⟨by simp, by simp, by simp, by simp, by simpa using h⟩

/-- The stations of the set may move their profiles, as long as they stay at the crossing. -/
theorem of_places (h : RequestSet p c set n) (stay : ∀ i ∈ set, (p.station i).crossing = c → (p'.station i).crossing = c) :
    RequestSet p' c set n := by
  obtain ⟨short, sorted, counted, zero, places⟩ := h
  exact ⟨short, sorted, counted, zero, fun i hi => stay i hi (places i hi)⟩

end RequestSet

theorem addStation_length (i : Station) {set : List Station} (h : set.length ≤ 4) : (addStation i set).length ≤ 4 := by
  unfold addStation
  split
  · exact h
  next open_ =>
    have space : ¬ 4 ≤ set.length := fun full => open_ (by simp [Config.stationSetMax, full])
    have parts : (set.filter fun j => decide (j < i)).length + (set.filter fun j => decide (i < j)).length ≤ set.length := by
      rw [← List.countP_eq_length_filter, ← List.countP_eq_length_filter,
        List.length_eq_countP_add_countP (fun j => decide (j < i)) (l := set)]
      exact Nat.add_le_add_left (List.countP_mono_left fun j _ hj => by simpa using le_of_lt (of_decide_eq_true hj)) _
    simp only [List.length_append, List.length_cons]
    omega

theorem addStation_sorted (i : Station) {set : List Station} (h : set.Pairwise (· < ·)) : (addStation i set).Pairwise (· < ·) := by
  unfold addStation
  split
  · exact h
  · rw [List.pairwise_append, List.pairwise_cons]
    refine ⟨h.filter _, ⟨fun j hj => of_decide_eq_true (List.mem_filter.1 hj).2, h.filter _⟩, fun a ha b hb => ?_⟩
    have low : a < i := of_decide_eq_true (List.mem_filter.1 ha).2
    rcases List.mem_cons.1 hb with rfl | high
    · exact low
    · exact low.trans (of_decide_eq_true (List.mem_filter.1 high).2)

theorem mem_addStation {i j : Station} {set : List Station} (h : j ∈ addStation i set) : j = i ∨ j ∈ set := by
  unfold addStation at h
  split at h
  · exact .inr h
  · rcases List.mem_append.1 h with low | rest
    · exact .inr (List.mem_filter.1 low).1
    · rcases List.mem_cons.1 rest with same | high
      · exact .inl same
      · exact .inr (List.mem_filter.1 high).1

theorem addStation_ne_nil (i : Station) (set : List Station) : addStation i set ≠ [] := by
  unfold addStation
  split
  next full => rintro rfl; simp [Config.stationSetMax] at full
  · simp

/-- A press joins a requesting set (R42, R52). -/
theorem RequestSet.join {p : ProfileStore} {c : Crossing} {set : List Station} {n : Nat} {i : Station} (h : RequestSet p c set n)
    (hi : (p.station i).crossing = c) : RequestSet p c (addStation i set) (bump n) := by
  obtain ⟨short, sorted, counted, zero, places⟩ := h
  refine ⟨addStation_length i short, addStation_sorted i sorted, ?_, ?_, fun j hj => ?_⟩
  · exact Nat.min_le_right _ _
  · simp [bump, Config.countMax, addStation_ne_nil]
  · rcases mem_addStation hj with rfl | old
    · exact hi
    · exact places j old

/-- A station is taken out of a requesting set (R59). -/
theorem RequestSet.takeOut {p p' : ProfileStore} {c : Crossing} {set : List Station} {n : Nat} {i : Station} (h : RequestSet p c set n)
    (stay : ∀ j, j ≠ i → p'.station j = p.station j) : RequestSet p' c (takeOut i set n).1 (takeOut i set n).2 := by
  obtain ⟨short, sorted, counted, zero, places⟩ := h
  refine ⟨(List.length_filter_le _ _).trans short, sorted.filter _, ?_, ?_, fun j hj => ?_⟩
  · unfold Machine.takeOut
    dsimp only
    split <;> omega
  · unfold Machine.takeOut
    dsimp only
    split
    next gone => simpa using gone
    next left =>
      have some_left : set.filter (fun j => decide (j ≠ i)) ≠ [] := fun none_left => left (by rw [none_left]; rfl)
      have was : set ≠ [] := by
        rintro rfl
        exact some_left rfl
      exact iff_of_false (fun h0 => was (zero.1 h0)) some_left
  · obtain ⟨old, ne⟩ := List.mem_filter.1 hj
    rw [stay j (of_decide_eq_true ne)]
    exact places j old

/-! ## The laws of a table -/

theorem CallState.clearing_iff {x : CallState} : (∃ start, x = .clearing start) ↔ x.isWaiting = false ∧ x.isJoinable = false := by
  cases x <;> simp [CallState.isWaiting, CallState.isJoinable, CallState.isGranted, CallState.isWalking]

/-- A state of the same group, joinable alike. -/
def CallState.Like (x y : CallState) : Prop := y.isWaiting = x.isWaiting ∧ y.isJoinable = x.isJoinable

theorem CallState.Like.refl (x : CallState) : x.Like x := ⟨rfl, rfl⟩

/-- The laws of ServiceLaw and RequestLaw that look at one table, but for a full table beside a memo; A says which serving states a
crossing allows. -/
structure RecordsLaw (A : Crossing → CallState → Prop) (p : ProfileStore) (t : CallTable) : Prop where
  oneOfGroup : ∀ (i j : RecordSlot) (r q : CallRecord), look t.records i = some r → look t.records j = some q →
    r.crossing = q.crossing → r.state.isWaiting = q.state.isWaiting → i = j
  joinableAlone : ∀ (i j : RecordSlot) (r q : CallRecord), look t.records i = some r → look t.records j = some q →
    r.crossing = q.crossing → r.state.isJoinable = true → i = j
  memoBeside : ∀ (c : Crossing) (i : RecordSlot) (r : CallRecord), (look t.memos c).isSome = true →
    look t.records i = some r → r.crossing = c → ∃ start, r.state = .clearing start
  serves : ∀ (i : RecordSlot) (r : CallRecord), look t.records i = some r → r.state.isWaiting = false → A r.crossing r.state
  requests : ∀ (i : RecordSlot) (r : CallRecord), look t.records i = some r → RequestSet p r.crossing r.stations r.pressCount
  memoRequests : ∀ (c : Crossing) (m : Memo), look t.memos c = some m → RequestSet p c m.stations m.count ∧ m.origin ≠ .recall

/-- While a memo is present every record is in use (R51). -/
def MemosFull (t : CallTable) : Prop :=
  ∀ (c : Crossing) (i : RecordSlot), (look t.memos c).isSome = true → (look t.records i).isSome = true

/-- The laws of the Call Table. -/
structure CallLaw (A : Crossing → CallState → Prop) (p : ProfileStore) (t : CallTable) : Prop extends RecordsLaw A p t where
  memoFull : MemosFull t

namespace RecordsLaw

variable {A B : Crossing → CallState → Prop} {p p' : ProfileStore} {t u : CallTable} {c : Crossing} {k : RecordSlot}

/-- Records alike at their places, and no new memo. -/
theorem of_like (h : RecordsLaw A p t)
    (records : ∀ i r', look u.records i = some r' → ∃ r, look t.records i = some r ∧ r'.crossing = r.crossing ∧
      r.state.Like r'.state ∧ (r'.state.isWaiting = false → B r'.crossing r'.state) ∧
      RequestSet p' r'.crossing r'.stations r'.pressCount)
    (memos : ∀ d m', look u.memos d = some m' → (look t.memos d).isSome = true ∧ RequestSet p' d m'.stations m'.count ∧
      m'.origin ≠ .recall) : RecordsLaw B p' u where
  oneOfGroup i j r q hr hq same group := by
    obtain ⟨r₀, hr₀, cr, lr, -, -⟩ := records i r hr
    obtain ⟨q₀, hq₀, cq, lq, -, -⟩ := records j q hq
    exact h.oneOfGroup i j r₀ q₀ hr₀ hq₀ (by rw [← cr, ← cq, same]) (by rw [← lr.1, ← lq.1, group])
  joinableAlone i j r q hr hq same joins := by
    obtain ⟨r₀, hr₀, cr, lr, -, -⟩ := records i r hr
    obtain ⟨q₀, hq₀, cq, lq, -, -⟩ := records j q hq
    exact h.joinableAlone i j r₀ q₀ hr₀ hq₀ (by rw [← cr, ← cq, same]) (by rw [← lr.2, joins])
  memoBeside c i r memo hr hc := by
    obtain ⟨m, hm⟩ := Option.isSome_iff_exists.1 memo
    obtain ⟨r₀, hr₀, cr, lr, -, -⟩ := records i r hr
    have clearing := CallState.clearing_iff.1 (h.memoBeside c i r₀ (memos c m hm).1 hr₀ (by rw [← cr, hc]))
    exact CallState.clearing_iff.2 ⟨by rw [lr.1, clearing.1], by rw [lr.2, clearing.2]⟩
  serves i r hr serving := by
    obtain ⟨r₀, -, -, -, fits, -⟩ := records i r hr
    exact fits serving
  requests i r hr := by
    obtain ⟨r₀, -, -, -, -, set⟩ := records i r hr
    exact set
  memoRequests d m hm := (memos d m hm).2

/-- Records and memos that go, leave a lawful table. -/
theorem of_sub (h : RecordsLaw A p t) (records : ∀ i r, look u.records i = some r → look t.records i = some r)
    (memos : ∀ d m, look u.memos d = some m → look t.memos d = some m) : RecordsLaw A p u :=
  h.of_like (fun i r hr => ⟨r, records i r hr, rfl, .refl _, h.serves i r (records i r hr), h.requests i r (records i r hr)⟩)
    fun d m hm => ⟨by rw [memos d m hm]; rfl, h.memoRequests d m (memos d m hm)⟩

/-- A serving state that its crossing allows otherwise. -/
theorem allowing (h : RecordsLaw A p t)
    (fits : ∀ i r, look t.records i = some r → r.state.isWaiting = false → A r.crossing r.state → B r.crossing r.state) :
    RecordsLaw B p t :=
  h.of_like (fun i r hr => ⟨r, hr, rfl, .refl _, fun s => fits i r hr s (h.serves i r hr s), h.requests i r hr⟩)
    fun d m hm => ⟨by rw [hm]; rfl, h.memoRequests d m hm⟩

/-- A record put at a place, beside which the crossing's other records can stand. -/
theorem put_record (h : RecordsLaw A p t) {r : CallRecord} (records : u.records = put t.records k (some r))
    (memos : ∀ d m, look u.memos d = some m → look t.memos d = some m)
    (beside : ∀ j q, j ≠ k → RecordAt t r.crossing j q →
      q.state.isWaiting ≠ r.state.isWaiting ∧ q.state.isJoinable = false ∧ r.state.isJoinable = false)
    (memo : (look u.memos r.crossing).isSome = true → ∃ start, r.state = .clearing start)
    (serves : r.state.isWaiting = false → A r.crossing r.state) (set : RequestSet p r.crossing r.stations r.pressCount) :
    RecordsLaw A p u := by
  have here : look u.records k = some r := by rw [records, look_put_self]
  have there : ∀ j, j ≠ k → look u.records j = look t.records j := fun j hj => by rw [records, look_put_ne _ hj]
  refine ⟨fun i j r₁ q₁ hr₁ hq₁ same group => ?_, fun i j r₁ q₁ hr₁ hq₁ same joins => ?_, fun c i r₁ hm hr₁ hc => ?_,
    fun i r₁ hr₁ s₁ => ?_, fun i r₁ hr₁ => ?_, fun d m hm => h.memoRequests d m (memos d m hm)⟩
  · by_contra ne
    by_cases hi : i = k
    · subst hi
      obtain rfl : r = r₁ := Option.some.inj (here.symm.trans hr₁)
      exact (beside j q₁ (Ne.symm ne) ⟨(there j (Ne.symm ne)).symm.trans hq₁, same.symm⟩).1 group.symm
    · by_cases hj : j = k
      · subst hj
        obtain rfl : r = q₁ := Option.some.inj (here.symm.trans hq₁)
        exact (beside i r₁ ne ⟨(there i ne).symm.trans hr₁, same⟩).1 group
      · exact ne (h.oneOfGroup i j r₁ q₁ ((there i hi).symm.trans hr₁) ((there j hj).symm.trans hq₁) same group)
  · by_contra ne
    by_cases hi : i = k
    · subst hi
      obtain rfl : r = r₁ := Option.some.inj (here.symm.trans hr₁)
      have quiet := (beside j q₁ (Ne.symm ne) ⟨(there j (Ne.symm ne)).symm.trans hq₁, same.symm⟩).2.2
      simp [quiet] at joins
    · by_cases hj : j = k
      · subst hj
        obtain rfl : r = q₁ := Option.some.inj (here.symm.trans hq₁)
        have quiet := (beside i r₁ ne ⟨(there i ne).symm.trans hr₁, same⟩).2.1
        simp [quiet] at joins
      · exact ne (h.joinableAlone i j r₁ q₁ ((there i hi).symm.trans hr₁) ((there j hj).symm.trans hq₁) same joins)
  · by_cases hi : i = k
    · subst hi
      obtain rfl : r = r₁ := Option.some.inj (here.symm.trans hr₁)
      exact memo (by rw [hc]; exact hm)
    · obtain ⟨m, hm⟩ := Option.isSome_iff_exists.1 hm
      exact h.memoBeside c i r₁ (by rw [memos c m hm]; rfl) ((there i hi).symm.trans hr₁) hc
  · by_cases hi : i = k
    · subst hi
      obtain rfl : r = r₁ := Option.some.inj (here.symm.trans hr₁)
      exact serves s₁
    · exact h.serves i r₁ ((there i hi).symm.trans hr₁) s₁
  · by_cases hi : i = k
    · subst hi
      obtain rfl : r = r₁ := Option.some.inj (here.symm.trans hr₁)
      exact set
    · exact h.requests i r₁ ((there i hi).symm.trans hr₁)

/-- A memo of a crossing that has at most a CLEARING record. -/
theorem put_memo (h : RecordsLaw A p t) {m : Memo} (records : u.records = t.records) (memos : u.memos = put t.memos c (some m))
    (beside : ∀ i r, RecordAt t c i r → ∃ start, r.state = .clearing start)
    (set : RequestSet p c m.stations m.count) (origin : m.origin ≠ .recall) : RecordsLaw A p u := by
  refine ⟨by rw [records]; exact h.oneOfGroup, by rw [records]; exact h.joinableAlone, fun d i r hm hr hd => ?_,
    by rw [records]; exact h.serves, by rw [records]; exact h.requests, fun d m' hm' => ?_⟩
  · rw [records] at hr
    by_cases hdc : d = c
    · exact beside i r ⟨hr, hd.trans hdc⟩
    · rw [memos, look_put_ne _ hdc] at hm
      exact h.memoBeside d i r hm hr hd
  · by_cases hdc : d = c
    · subst hdc
      rw [memos, look_put_self] at hm'
      obtain rfl := Option.some.inj hm'
      exact ⟨set, origin⟩
    · rw [memos, look_put_ne _ hdc] at hm'
      exact h.memoRequests d m' hm'

/-- A record changed at its place, its crossing and its group kept. -/
theorem edit (h : RecordsLaw A p t) {r : CallRecord} (hr : look t.records k = some r) {f : CallRecord → CallRecord}
    (crossing : (f r).crossing = r.crossing) (state : r.state.Like (f r).state)
    (serves : (f r).state.isWaiting = false → A (f r).crossing (f r).state)
    (set : RequestSet p (f r).crossing (f r).stations (f r).pressCount) : RecordsLaw A p (t.edit k f) := by
  refine h.of_like (fun i r' hr' => ?_) fun d m hm => ⟨by rw [CallTable.edit_memos] at hm; rw [hm]; rfl, h.memoRequests d m hm⟩
  rw [CallTable.edit_look] at hr'
  split at hr'
  next hi =>
    rw [hi, hr] at hr'
    obtain rfl := Option.some.inj hr'
    exact ⟨r, by rw [hi, hr], crossing, state, serves, set⟩
  next => exact ⟨r', hr', rfl, .refl _, h.serves i r' hr', h.requests i r' hr'⟩

/-- The place of a removed record, with every other record in use where a memo stands, goes to the oldest memo (R54). -/
theorem allocate (h : RecordsLaw A p t) (gap : ∀ c i, (look t.memos c).isSome = true → i ≠ k → (look t.records i).isSome = true)
    (q : ProfileStore) : CallLaw A p (t.allocate q) := by
  rcases allocate_cases t q with ⟨idle, same⟩ | ⟨i, c, m, free, -, hm, got⟩
  · rw [same]
    refine ⟨h, fun c i memo => ?_⟩
    rcases idle with full | empty
    · exact freeSlot_none.1 full i
    · rw [empty c] at memo
      cases memo
  · have hc : (look t.memos c).isSome = true := by rw [hm]; rfl
    have place : i = k := by
      by_contra ne
      have used := gap c i hc ne
      rw [freeSlot_some free] at used
      cases used
    rw [got]
    refine ⟨h.put_record (k := i) (r := newRecord q c .waiting m.origin m.kind m.stations m.count m.since) ?_ (fun d m' hm' => ?_)
      (fun j r _ hr => ?_) (fun memo => ?_) (fun serving => ?_) (h.memoRequests c m hm).1, fun d j memo => ?_⟩
    · simp [CallTable.fill]
    · simp only [CallTable.retarget_memos, look_put] at hm'
      split at hm'
      · cases hm'
      · exact hm'
    · have clearing := CallState.clearing_iff.1 (h.memoBeside c j r hc hr.1 hr.2)
      exact ⟨by rw [clearing.1]; simp [newRecord, CallState.isWaiting], clearing.2, rfl⟩
    · simp [newRecord] at memo
    · simp [newRecord, CallState.isWaiting] at serving
    · simp only [CallTable.retarget_memos, look_put] at memo
      simp only [CallTable.retarget_records, CallTable.fill_look]
      split at memo
      · cases memo
      · split
        · rfl
        · next ne => exact gap d j memo (fun hj => ne (by rw [hj, place]))

end RecordsLaw

/-! ## What the operations of the table keep -/

@[simp] theorem CallTable.markSeen_memos (t : CallTable) (only : Option Crossing) : (t.markSeen only).memos = t.memos := by
  simp only [CallTable.markSeen]
@[simp] theorem CallTable.markSeen_targets (t : CallTable) (only : Option Crossing) : (t.markSeen only).targets = t.targets := by
  simp only [CallTable.markSeen]
@[simp] theorem CallTable.markSeen_look (t : CallTable) (only : Option Crossing) (i : RecordSlot) :
    look (t.markSeen only).records i =
      (look t.records i).map fun r => if asked only r then { r with seen := true } else r := by
  simp only [CallTable.markSeen, look_mapAll]

namespace CallLaw

variable {A B : Crossing → CallState → Prop} {p p' : ProfileStore} {t u : CallTable} {c : Crossing} {k : RecordSlot}

/-- The laws look at records and memos only. -/
theorem of_tables (h : CallLaw A p t) (records : u.records = t.records) (memos : u.memos = t.memos) : CallLaw A p u where
  toRecordsLaw := h.of_sub (fun i r hr => by rwa [← records]) fun d m hm => by rwa [← memos]
  memoFull := by
    unfold MemosFull
    rw [records, memos]
    exact h.memoFull

theorem allowing (h : CallLaw A p t)
    (fits : ∀ i r, look t.records i = some r → r.state.isWaiting = false → A r.crossing r.state → B r.crossing r.state) :
    CallLaw B p t := ⟨h.toRecordsLaw.allowing fits, h.memoFull⟩

/-- The stations of the sets stay at their crossings. -/
theorem of_places (h : CallLaw A p t) (same : ∀ i, (p'.station i).crossing = (p.station i).crossing) : CallLaw A p' t where
  toRecordsLaw := h.of_like
    (fun i r hr => ⟨r, hr, rfl, .refl _, h.serves i r hr, (h.requests i r hr).of_places fun j _ hj => (same j).trans hj⟩)
    fun d m hm => ⟨by rw [hm]; rfl, (h.memoRequests d m hm).1.of_places fun j _ hj => (same j).trans hj, (h.memoRequests d m hm).2⟩
  memoFull := h.memoFull

/-- A crossing whose records are not all CLEARING has no memo. -/
theorem no_memo (h : CallLaw A p t) {r : CallRecord} (hr : RecordAt t c k r) (alive : r.state.isWaiting = true ∨ r.state.isJoinable = true) :
    look t.memos c = none := by
  by_contra some_memo
  have clearing := CallState.clearing_iff.1 (h.memoBeside c k r (Option.isSome_iff_ne_none.2 some_memo) hr.1 hr.2)
  rw [clearing.1, clearing.2] at alive
  rcases alive with bad | bad <;> cases bad

theorem empty_of_free (h : CallLaw A p t) (free : look t.records k = none) (d : Crossing) : look t.memos d = none := by
  by_contra some_memo
  have used := h.memoFull d k (Option.isSome_iff_ne_none.2 some_memo)
  rw [free] at used
  cases used

theorem edit (h : CallLaw A p t) {r : CallRecord} (hr : look t.records k = some r) {f : CallRecord → CallRecord}
    (crossing : (f r).crossing = r.crossing) (state : (f r).state = r.state)
    (set : RequestSet p (f r).crossing (f r).stations (f r).pressCount) : CallLaw A p (t.edit k f) where
  toRecordsLaw := h.toRecordsLaw.edit hr crossing (by rw [state]; exact .refl _) (by rw [crossing, state]; exact h.serves k r hr) set
  memoFull d i memo := by
    rw [CallTable.edit_look]
    have used := h.memoFull d i memo
    split
    · simpa using used
    · exact used

/-- A record of a crossing that has no other takes any state that the crossing allows. -/
theorem move (h : CallLaw A p t) {r : CallRecord} (hr : RecordAt t c k r) (alone : ∀ j q, RecordAt t c j q → j = k)
    (alive : r.state.isWaiting = true ∨ r.state.isJoinable = true) {f : CallRecord → CallRecord} (crossing : (f r).crossing = r.crossing)
    (serves : (f r).state.isWaiting = false → A c (f r).state) (stations : (f r).stations = r.stations)
    (count : (f r).pressCount = r.pressCount) : CallLaw A p (t.edit k f) where
  toRecordsLaw := by
    have place : (f r).crossing = c := crossing.trans hr.2
    refine h.put_record (k := k) (r := f r) (by simp [CallTable.edit, change_eq_put, hr.1]) (fun d m hm => hm)
      (fun j q hj hq => absurd (alone j q ⟨hq.1, hq.2.trans place⟩) hj) (fun memo => ?_) (by rw [place]; exact serves) ?_
    · rw [CallTable.edit_memos, place, h.no_memo hr alive] at memo
      cases memo
    · rw [crossing, stations, count]
      exact h.requests k r hr.1
  memoFull d i memo := by
    rw [CallTable.edit_look]
    have used := h.memoFull d i memo
    split
    · simpa using used
    · exact used

/-- A record is put in a free place. -/
theorem fill (h : CallLaw A p t) {r : CallRecord} (free : look t.records k = none)
    (beside : ∀ j q, RecordAt t r.crossing j q → q.state.isWaiting ≠ r.state.isWaiting ∧ q.state.isJoinable = false ∧
      r.state.isJoinable = false)
    (serves : r.state.isWaiting = false → A r.crossing r.state) (set : RequestSet p r.crossing r.stations r.pressCount) :
    CallLaw A p (t.fill k r) where
  toRecordsLaw := h.put_record rfl (fun d m hm => hm) (fun j q _ => beside j q)
    (fun memo => by rw [CallTable.fill_memos, h.empty_of_free free] at memo; cases memo) serves set
  memoFull d i memo := by
    rw [CallTable.fill_memos, h.empty_of_free free] at memo
    cases memo

/-- A removal, with the allocation that follows it (R56). -/
theorem remove (h : CallLaw A p t) (q : ProfileStore) (k : RecordSlot) : CallLaw A p (t.remove q k) := by
  have freed : RecordsLaw A p ({ t with records := put t.records k none }.retarget (.record k) .none) :=
    h.of_sub (fun i r hr => by
      rw [CallTable.retarget_records, look_put] at hr
      split at hr
      · cases hr
      · exact hr) fun d m hm => hm
  refine freed.allocate (k := k) (fun d i memo hi => ?_) q
  rw [CallTable.retarget_records, look_put_ne _ hi]
  exact h.memoFull d i memo

theorem allocate (h : CallLaw A p t) (q : ProfileStore) : CallLaw A p (t.allocate q) :=
  h.toRecordsLaw.allocate (k := 0) (fun c i memo _ => h.memoFull c i memo) q

theorem clearMemo (h : CallLaw A p t) (d : Crossing) : CallLaw A p (t.clearMemo d) where
  toRecordsLaw := h.of_sub (fun i r hr => by rwa [CallTable.clearMemo_records] at hr) fun e m hm => by
    rw [CallTable.clearMemo_memos, look_put] at hm
    split at hm
    · cases hm
    · exact hm
  memoFull e i memo := by
    rw [CallTable.clearMemo_records]
    refine h.memoFull e i ?_
    rw [CallTable.clearMemo_memos, look_put] at memo
    split at memo
    · cases memo
    · exact memo

theorem aim (h : CallLaw A p t) (i : Station) (x : Target) : CallLaw A p (t.aim i x) := h.of_tables rfl rfl

/-- Where no record takes demand and none is free, the crossing's memo does. -/
theorem fold (h : CallLaw A p t) (waiting : t.waitingSlot c = none) (joinable : t.joinableSlot c = none) (free : t.freeSlot = none)
    {f : Option Memo → Option Memo} {m : Memo} (hf : f (look t.memos c) = some m) (set : RequestSet p c m.stations m.count)
    (origin : m.origin ≠ .recall) : CallLaw A p { t with memos := change t.memos c f } where
  toRecordsLaw := h.put_memo (c := c) (m := m) rfl (by rw [change_eq_put, hf])
    (fun i r hr => CallState.clearing_iff.2 ⟨waitingSlot_none waiting hr.1 hr.2, joinableSlot_none joinable hr.1 hr.2⟩) set origin
  memoFull _ i _ := freeSlot_none.1 free i

/-- Demand takes a free record for a crossing whose records it could not join. -/
theorem fillDemand (h : CallLaw A p t) (waiting : t.waitingSlot c = none) (joinable : t.joinableSlot c = none)
    (free : t.freeSlot = some k) (q : ProfileStore) (o : Origin) (kind : CallKind) {set : List Station} {n : Nat} (at_ : StreetTime)
    (hset : RequestSet p c set n) : CallLaw A p (t.fill k (newRecord q c .waiting o kind set n at_)) :=
  h.fill (freeSlot_some free)
    (fun j r hr => ⟨by rw [waitingSlot_none waiting hr.1 hr.2]; simp [newRecord, CallState.isWaiting],
      joinableSlot_none joinable hr.1 hr.2, rfl⟩)
    (fun serving => by simp [newRecord, CallState.isWaiting] at serving) hset

theorem placePress (h : CallLaw A p t) {i : Station} (q : ProfileStore) (hi : (p.station i).crossing = c) :
    CallLaw A p (t.placePress q i c).1 := by
  have merge : ∀ {k r}, look t.records k = some r → r.crossing = c → CallLaw A p (t.edit k (mergePress i)) := fun hr hc =>
    h.edit hr rfl rfl ((h.requests _ _ hr).join (by rw [hc]; exact hi))
  unfold CallTable.placePress
  split
  next k hk =>
    obtain ⟨r, hr, hc, -⟩ := waitingSlot_some hk
    exact merge hr hc
  next waiting =>
    split
    next k hk =>
      obtain ⟨r, hr, hc, -⟩ := joinableSlot_some hk
      exact merge hr hc
    next joinable =>
      split
      next k free => exact h.fillDemand waiting joinable free q .press .standard _ (.single hi)
      next full =>
        cases hm : look t.memos c with
        | none => exact h.fold waiting joinable full (by rw [hm]; rfl) (.single hi) (by simp)
        | some m =>
          exact h.fold waiting joinable full (by rw [hm]; rfl) ((h.memoRequests c m hm).1.join hi) (by simp)

theorem placeLinked (h : CallLaw A p t) (q : ProfileStore) (kind : CallKind) (c : Crossing) : CallLaw A p (t.placeLinked q kind c) := by
  have merge : ∀ {k r}, look t.records k = some r → CallLaw A p (t.edit k (mergeLinked q kind)) := fun hr =>
    h.edit hr (by simp) (by simp) (by simpa using h.requests _ _ hr)
  unfold CallTable.placeLinked
  split
  next k hk =>
    obtain ⟨r, hr, -, -⟩ := waitingSlot_some hk
    exact merge hr
  next waiting =>
    split
    next k hk =>
      obtain ⟨r, hr, -, -⟩ := joinableSlot_some hk
      exact merge hr
    next joinable =>
      split
      next k free => exact h.fillDemand waiting joinable free q .linked kind _ (.empty p c)
      next full =>
        cases hm : look t.memos c with
        | none => exact h.fold waiting joinable full (by rw [hm]; rfl) (.empty p c) (by simp)
        | some m =>
          obtain ⟨set, origin⟩ := h.memoRequests c m hm
          cases kind with
          | standard => exact h.fold waiting joinable full (by rw [hm]; rfl) set origin
          | extended => exact h.fold (m := { m with kind := .extended }) waiting joinable full (by rw [hm]; rfl) set origin

theorem carry (h : CallLaw A p t) (q : ProfileStore) (kind : CallKind) (c : Crossing) : CallLaw A p (t.carry q kind c) := by
  unfold CallTable.carry
  generalize carriedTo q c = l
  induction l generalizing t with
  | nil => exact h
  | cons d l ih => exact ih (h.placeLinked q kind d)

theorem register (h : CallLaw A p t) {i : Station} (q : ProfileStore) (hi : (p.station i).crossing = c) :
    CallLaw A p (t.register q i c).1 := by
  unfold CallTable.register
  split
  · exact ((h.placePress q hi).aim i _).carry q _ c
  · exact h.aim i _

/-- A memo's kind is no concern of the laws. -/
theorem remakeMemo (h : CallLaw A p t) {m : Memo} (hm : look t.memos c = some m) (kind : CallKind) :
    CallLaw A p { t with memos := put t.memos c (some { m with kind := kind }) } := by
  have before : ∀ d m', look (put t.memos c (some { m with kind := kind })) d = some m' →
      ∃ m₀, look t.memos d = some m₀ ∧ m'.stations = m₀.stations ∧ m'.count = m₀.count ∧ m'.origin = m₀.origin := fun d m' hm' => by
    rw [look_put] at hm'
    split at hm'
    next hd =>
      obtain rfl := Option.some.inj hm'
      exact ⟨m, by rw [hd]; exact hm, rfl, rfl, rfl⟩
    next => exact ⟨m', hm', rfl, rfl, rfl⟩
  refine ⟨h.of_like (fun i r hr => ⟨r, hr, rfl, .refl _, h.serves i r hr, h.requests i r hr⟩) fun d m' hm' => ?_, fun d i memo => ?_⟩
  · obtain ⟨m₀, hm₀, stations, count, origin⟩ := before d m' hm'
    rw [stations, count, origin]
    exact ⟨by rw [hm₀]; rfl, h.memoRequests d m₀ hm₀⟩
  · obtain ⟨m', hm'⟩ := Option.isSome_iff_exists.1 memo
    obtain ⟨m₀, hm₀, -⟩ := before d m' hm'
    exact h.memoFull d i (by rw [hm₀]; rfl)

theorem upgrade (h : CallLaw A p t) (q : ProfileStore) (i : Station) : CallLaw A p (t.upgrade q i) := by
  unfold CallTable.upgrade
  split
  · exact h
  · split
    next hr => exact (h.edit hr (by simp) (by simp) (by simpa using h.requests _ _ hr)).carry q _ _
    · exact h
  · split
    next hm => exact (h.remakeMemo hm .extended).carry q _ _
    · exact h

theorem markSeen (h : CallLaw A p t) (only : Option Crossing) : CallLaw A p (t.markSeen only) where
  toRecordsLaw := by
    refine h.of_like (fun i r' hr' => ?_) fun d m hm => ?_
    · rw [CallTable.markSeen_look, Option.map_eq_some_iff] at hr'
      obtain ⟨r, hr, rfl⟩ := hr'
      refine ⟨r, hr, ?_⟩
      by_cases listed : asked only r = true
      · simp only [listed, if_true]
        exact ⟨trivial, .refl _, h.serves i r hr, h.requests i r hr⟩
      · simp only [listed, if_false, Bool.false_eq_true]
        exact ⟨trivial, .refl _, h.serves i r hr, h.requests i r hr⟩
    · rw [CallTable.markSeen_memos] at hm
      exact ⟨by rw [hm]; rfl, h.memoRequests d m hm⟩
  memoFull d i memo := by
    rw [CallTable.markSeen_memos] at memo
    rw [CallTable.markSeen_look, Option.isSome_map]
    exact h.memoFull d i memo

/-- A crossing transfer at the Call Table. -/
theorem transfer (h : CallLaw A p t) (q : ProfileStore) (c : Crossing) (was : Bool) : CallLaw A p (t.transfer q c was) := by
  unfold CallTable.transfer
  split
  · split
    next hk =>
      obtain ⟨r, hr, -, -⟩ := waitingSlot_some hk
      exact h.edit hr (by simp) (by simp) (by simpa using h.requests _ _ hr)
    · exact h
  · split
    · dsimp only
      split
      · exact (h.clearMemo c).remove q _
      · exact h.clearMemo c
    · exact h

end CallLaw

end Sys2Proof.Machine

/-! The laws of the Call Table at a crossing whose lamps declare: a serving record ends, moves on, or stands under an aspect that allows
its state. -/

namespace Sys2Proof.Machine

/-! ## The parts of a declaration and of a transfer -/

/-- What a declaration does before the Hold Unit hears of it (R92). -/
def State.judge (c : Crossing) (a : Aspect) (s : State) : State :=
  let s1 := s.onAspect c fun x => { x with observed := a }
  if (s.store.crossing c).enabled then
    match (look s.aspects c).fault with
    | none =>
      match s1.checkSequence c (look s.aspects c).observed a with
      | none => s1.handDeclaration c a
      | some kind => s1.raiseFault c kind
    | some _ =>
      match sequenceFault (look s.aspects c).observed a false (s.store.crossing c).recallPermitted
        (s.store.crossing c).darkPermitted with
      | none => s1
      | some _ => s1.furtherFault c
  else s1

section Judge

variable {c : Crossing} {a : Aspect} {s : State}

theorem State.declare_eq : s.declare c a = if a = .dontWalk then (s.judge c a).completeWaits c else s.judge c a := rfl

theorem State.judge_disabled (off : (s.store.crossing c).enabled = false) :
    s.judge c a = s.onAspect c fun x => { x with observed := a } := by
  simp [State.judge, off]

theorem State.judge_further {kind again : FaultKind} (on : (s.store.crossing c).enabled = true)
    (faulted : (look s.aspects c).fault = some kind)
    (check : sequenceFault (look s.aspects c).observed a false (s.store.crossing c).recallPermitted
      (s.store.crossing c).darkPermitted = some again) :
    s.judge c a = (s.onAspect c fun x => { x with observed := a }).furtherFault c := by
  simp [State.judge, on, faulted, check]

theorem State.judge_faulted {kind : FaultKind} (on : (s.store.crossing c).enabled = true) (faulted : (look s.aspects c).fault = some kind)
    (check : sequenceFault (look s.aspects c).observed a false (s.store.crossing c).recallPermitted
      (s.store.crossing c).darkPermitted = none) :
    s.judge c a = s.onAspect c fun x => { x with observed := a } := by
  simp [State.judge, on, faulted, check]

theorem State.judge_fault {kind : FaultKind} (on : (s.store.crossing c).enabled = true) (clear : (look s.aspects c).fault = none)
    (check : s.checkSequence c (look s.aspects c).observed a = some kind) :
    s.judge c a = (s.onAspect c fun x => { x with observed := a }).raiseFault c kind := by
  have same : (s.onAspect c fun x => { x with observed := a }).checkSequence c (look s.aspects c).observed a = some kind := check
  simp [State.judge, on, clear, same]

theorem State.judge_accepted (on : (s.store.crossing c).enabled = true) (clear : (look s.aspects c).fault = none)
    (check : s.checkSequence c (look s.aspects c).observed a = none) :
    s.judge c a = (s.onAspect c fun x => { x with observed := a }).handDeclaration c a := by
  have same : (s.onAspect c fun x => { x with observed := a }).checkSequence c (look s.aspects c).observed a = none := check
  simp [State.judge, on, clear, same]

theorem State.retest_none (h : (look s.aspects c).qualifying (s.store.crossing c).settle = none) :
    s.retest c = s.onAspect c AspectState.startMeasure := by
  simp only [State.retest, h]

theorem State.retest_same (h : (look s.aspects c).qualifying (s.store.crossing c).settle = some a) (same : a = (look s.aspects c).observed) :
    s.retest c = s.onAspect c fun x => { x with undecodable := none } := by
  simp only [State.retest, h, same, if_true]

theorem State.retest_declares (h : (look s.aspects c).qualifying (s.store.crossing c).settle = some a)
    (differs : a ≠ (look s.aspects c).observed) :
    s.retest c = (s.onAspect c fun x => { x with undecodable := none }).declare c a := by
  simp only [State.retest, h, differs, if_false]

end Judge

/-- The first two steps of a crossing transfer: the Profile Store, the Call Table and the unrecorded walk (R6). -/
def State.takeProfile (c : Crossing) (new : CrossingProfile) (s : State) : State :=
  let s1 := s.onStore fun p => { p with crossings := put p.crossings c { active := new, pending := none } }
  let s2 := s1.onTable fun t => t.transfer s1.store c (s.store.crossing c).enabled
  if new.enabled then s2 else s2.onGrant c fun g => { g with unrecorded := .none }

theorem State.transferCrossing_eq (c : Crossing) (new : CrossingProfile) (s : State) :
    s.transferCrossing c new =
      if new.enabled ∧ ¬ (s.store.crossing c).enabled then (((s.takeProfile c new).enablingCheck c).retest c).enablingLimit c
      else (s.takeProfile c new).retest c := rfl

section TakeProfile

variable (c : Crossing) (new : CrossingProfile) (s : State)

@[simp] theorem State.takeProfile_store :
    (s.takeProfile c new).store = { s.store with crossings := put s.store.crossings c { active := new, pending := none } } := by
  unfold State.takeProfile
  dsimp only
  split <;> rfl

@[simp] theorem State.takeProfile_aspects : (s.takeProfile c new).aspects = s.aspects := by
  unfold State.takeProfile
  dsimp only
  split <;> rfl

@[simp] theorem State.takeProfile_table :
    (s.takeProfile c new).table =
      s.table.transfer { s.store with crossings := put s.store.crossings c { active := new, pending := none } } c
        (s.store.crossing c).enabled := by
  unfold State.takeProfile
  dsimp only
  split <;> rfl

@[simp] theorem ProfileStore.crossing_put (p : ProfileStore) :
    ({ p with crossings := put p.crossings c { active := new, pending := none } } : ProfileStore).crossing c = new := by
  simp [ProfileStore.crossing]

end TakeProfile

/-! ## Serving records -/

/-- Crossing c allows a serving record in state x: it is enabled, not FAULTED, and shows an aspect that fits (R67, R69, R73, R77). -/
def State.allows (s : State) (c : Crossing) (x : CallState) : Prop :=
  (s.store.crossing c).enabled = true ∧ (look s.aspects c).fault = none ∧ x.fits (look s.aspects c).observed

/-- The laws of the Call Table in a state. -/
def CallsLaw (s : State) : Prop := CallLaw s.allows s.store s.table

theorem callsLaw_iff {s : State} : CallsLaw s ↔ ServiceLaw s ∧ RequestLaw s := by
  constructor
  · intro h
    exact ⟨⟨h.oneOfGroup, h.joinableAlone, h.memoFull, h.memoBeside, h.serves⟩, h.requests, h.memoRequests⟩
  · rintro ⟨service, requests, memos⟩
    exact ⟨⟨service.oneOfGroup, service.joinableAlone, service.memoBeside, service.servingFits, requests, memos⟩, service.memoFull⟩

/-- Crossing c has no serving record. -/
def CallTable.Unserved (t : CallTable) (c : Crossing) : Prop := ∀ i r, RecordAt t c i r → r.state.isWaiting = true

/-- Every serving record of crossing c is in a state that the crossing allows. -/
def State.Served (s : State) (c : Crossing) : Prop := ∀ i r, RecordAt s.table c i r → r.state.isWaiting = false → s.allows c r.state

section Unserved

variable {s : State} {t u : CallTable} {c : Crossing} {A : Crossing → CallState → Prop} {p q : ProfileStore} {k : RecordSlot}

theorem CallTable.unserved_iff : t.Unserved c ↔ ¬ HasRecord t c CallState.isServing := by
  simp [CallTable.Unserved, HasRecord, CallState.isServing]

theorem CallTable.unserved_of_slot (h : t.servingSlot c = none) : t.Unserved c := CallTable.unserved_iff.2 (servingSlot_eq_none.1 h)

theorem CallTable.Unserved.served (h : s.table.Unserved c) : s.Served c := fun i r hr serving => by
  rw [h i r hr] at serving
  cases serving

/-- Demand brings no serving record. -/
theorem CallTable.Unserved.of_demand (h : t.Unserved c) (demand : DemandOnly t u) : u.Unserved c := by
  intro i r hr
  cases was : look t.records i with
  | none =>
    rcases (demand i).2 was with free | ⟨r', new, waiting⟩
    · exact absurd (free.symm.trans hr.1) (by simp)
    · obtain rfl := Option.some.inj (new.symm.trans hr.1)
      exact CallState.isWaiting_iff.2 waiting
  | some r₀ =>
    obtain ⟨r', new, crossing, state⟩ := (demand i).1 r₀ was
    obtain rfl := Option.some.inj (new.symm.trans hr.1)
    rw [state]
    exact h i r₀ ⟨was, crossing.symm.trans hr.2⟩

/-- A removal leaves what it does not remove, and new WAITING records. -/
theorem CallTable.remove_record (q : ProfileStore) {i : RecordSlot} {r : CallRecord} (h : look (t.remove q k).records i = some r) :
    r.state.isWaiting = true ∨ i ≠ k ∧ ∃ r₀, look t.records i = some r₀ ∧ r.crossing = r₀.crossing ∧ r.state = r₀.state := by
  have demand : DemandOnly ({ t with records := put t.records k none }.retarget (.record k) .none) (t.remove q k) := allocate_demand _ _
  cases was : look ({ t with records := put t.records k none }.retarget (.record k) .none).records i with
  | none =>
    rcases (demand i).2 was with free | ⟨r', new, waiting⟩
    · rw [free] at h
      cases h
    · obtain rfl := Option.some.inj (new.symm.trans h)
      exact .inl (CallState.isWaiting_iff.2 waiting)
  | some r₀ =>
    obtain ⟨r', new, crossing, state⟩ := (demand i).1 r₀ was
    obtain rfl := Option.some.inj (new.symm.trans h)
    rw [CallTable.retarget_records, look_put] at was
    split at was
    · cases was
    next ne => exact .inr ⟨ne, r₀, was, crossing, state⟩

theorem CallTable.Unserved.remove (h : t.Unserved c) (q : ProfileStore) (k : RecordSlot) : (t.remove q k).Unserved c := by
  intro i r hr
  rcases t.remove_record q hr.1 with waiting | ⟨-, r₀, was, crossing, state⟩
  · exact waiting
  · rw [state]
    exact h i r₀ ⟨was, crossing.symm.trans hr.2⟩

/-- Without its one serving record a crossing is not served. -/
theorem CallLaw.unserved_remove (h : CallLaw A p t) {r : CallRecord} (hr : RecordAt t c k r) (serving : r.state.isWaiting = false)
    (q : ProfileStore) : (t.remove q k).Unserved c := by
  intro i r' hr'
  rcases t.remove_record q hr'.1 with waiting | ⟨ne, r₀, was, crossing, state⟩
  · exact waiting
  · cases group : r'.state.isWaiting with
    | true => rfl
    | false =>
      have same := h.oneOfGroup i k r₀ r was hr.1 (by rw [← crossing, hr'.2, hr.2]) (by rw [← state, group, serving])
      exact absurd same ne

/-- The crossing's GRANTED or WALKING record is its only one (R36). -/
theorem CallLaw.alone (h : CallLaw A p t) {r : CallRecord} (hr : RecordAt t c k r) (joins : r.state.isJoinable = true) :
    ∀ j q, RecordAt t c j q → j = k := fun j q hq =>
  (h.joinableAlone k j r q hr.1 hq.1 (hr.2.trans hq.2.symm) joins).symm

/-- A crossing's WAITING record is its only one while the crossing is not served. -/
theorem CallLaw.waiting_alone (h : CallLaw A p t) {r : CallRecord} (hr : RecordAt t c k r) (waiting : r.state.isWaiting = true)
    (unserved : t.Unserved c) : ∀ j q, RecordAt t c j q → j = k := fun j q hq =>
  h.oneOfGroup j k q r hq.1 hr.1 (hq.2.trans hr.2.symm) ((unserved j q hq).trans waiting.symm)

/-- What stands at c after its only record has changed. -/
theorem CallTable.edit_alone {f : CallRecord → CallRecord} {r : CallRecord} (hr : RecordAt t c k r) (alone : ∀ j q, RecordAt t c j q → j = k)
    (crossing : ∀ r, (f r).crossing = r.crossing) {i : RecordSlot} {r' : CallRecord} (h : RecordAt (t.edit k f) c i r') : r' = f r := by
  obtain ⟨at_, place⟩ := h
  rw [CallTable.edit_look] at at_
  split at at_
  next hi =>
    rw [hi, hr.1] at at_
    exact (Option.some.inj at_).symm
  next hi => exact absurd (alone i r' ⟨at_, place⟩) hi

end Unserved

/-! ## Faults -/

section Events

variable {A : Crossing → CallState → Prop} {p : ProfileStore} {c : Crossing} {s : State}

theorem CallState.isJoinable_of_isGranted {x : CallState} (h : x.isGranted = true) : x.isJoinable = true := by simp [CallState.isJoinable, h]
theorem CallState.isJoinable_of_isWalking {x : CallState} (h : x.isWalking = true) : x.isJoinable = true := by simp [CallState.isJoinable, h]

/-- What a fault drops leaves the crossing without service (R81, R95). -/
theorem CallLaw.dropService (h : CallLaw A p s.table) : CallLaw A p (s.dropService c).table ∧ (s.dropService c).table.Unserved c := by
  unfold State.dropService
  split
  next none_serves => exact ⟨h, CallTable.unserved_of_slot none_serves⟩
  next i hi =>
    obtain ⟨r, hr, hc, serving⟩ := servingSlot_some hi
    split
    next k hk =>
      obtain ⟨g, hg, hgc, granted⟩ := grantedSlot_some hk
      have joins := CallState.isJoinable_of_isGranted granted
      have alone := h.alone ⟨hg, hgc⟩ joins
      refine ⟨h.move ⟨hg, hgc⟩ alone (.inr joins) rfl (fun bad => by cases bad) rfl rfl, fun j q hq => ?_⟩
      rw [CallTable.edit_alone (f := moveTo .waiting) ⟨hg, hgc⟩ alone (fun _ => rfl) hq]
      rfl
    next => exact ⟨h.remove _ i, h.unserved_remove ⟨hr, hc⟩ serving _⟩

theorem CallLaw.raiseFault (h : CallLaw A p s.table) (kind : FaultKind) :
    CallLaw A p (s.raiseFault c kind).table ∧ (s.raiseFault c kind).table.Unserved c := by
  have dropped := CallLaw.dropService (c := c)
    (s := s.onAspect c fun x => { x with fault := some kind, further := false, notice := true }) h
  exact dropped

end Events

end Sys2Proof.Machine

/-! The laws of the Call Table under the events of a crossing's lamps and its profile. -/

namespace Sys2Proof.Machine

/-- A serving record in state x that a declaration of aspect a finds where the permitted sequence accepted it (R93). -/
def CallState.FollowedBy (x : CallState) (a : Aspect) : Prop :=
  match a with
  | .walk => x.isGranted = true
  | .clearance => x.isWalking = true
  | .dontWalk => True
  | .dark => True
  | .unknown => False
  | .conflict => False

theorem CallState.isWaiting_of_isGranted {x : CallState} (h : x.isGranted = true) : x.isWaiting = false := by
  cases x <;> simp_all [CallState.isGranted, CallState.isWaiting]

theorem CallState.isWaiting_of_isWalking {x : CallState} (h : x.isWalking = true) : x.isWaiting = false := by
  cases x <;> simp_all [CallState.isWalking, CallState.isWaiting]

section Events

variable {A : Crossing → CallState → Prop} {p : ProfileStore} {c : Crossing} {s t : State} {a : Aspect}

/-- A crossing that is enabled, not FAULTED and shows aspect a. -/
def State.Shows (s : State) (c : Crossing) (a : Aspect) : Prop :=
  (s.store.crossing c).enabled = true ∧ (look s.aspects c).fault = none ∧ (look s.aspects c).observed = a

theorem State.Shows.allows (h : s.Shows c a) {x : CallState} (fits : x.fits a) : s.allows c x := ⟨h.1, h.2.1, by rw [h.2.2]; exact fits⟩

/-- What is served depends on the profile's being enabled, the lamps and the records. -/
theorem State.Served.of_same (h : s.Served c) (enabled : (t.store.crossing c).enabled = (s.store.crossing c).enabled)
    (fault : (look t.aspects c).fault = (look s.aspects c).fault) (observed : (look t.aspects c).observed = (look s.aspects c).observed)
    (table : t.table = s.table) : t.Served c := fun i r hr serving => by
  unfold State.allows
  rw [enabled, fault, observed]
  exact h i r (by rwa [← table]) serving

theorem CallLaw.walkDeclared (hA : ∀ x, A c x) (h : CallLaw A p s.table) (shows : s.Shows c .walk)
    (ready : ∀ i r, RecordAt s.table c i r → r.state.isWaiting = false → r.state.isGranted = true) :
    CallLaw A p (s.walkDeclared c).table ∧ (s.walkDeclared c).Served c := by
  have taken : ∀ {k r}, RecordAt s.table c k r → (∀ j q, RecordAt s.table c j q → j = k) →
      r.state.isWaiting = true ∨ r.state.isJoinable = true →
      CallLaw A p (s.onTable fun t => t.edit k (moveTo (.walking s.store.streetTime))).table ∧
        (s.onTable fun t => t.edit k (moveTo (.walking s.store.streetTime))).Served c := fun hr alone alive =>
    ⟨h.move hr alone alive rfl (fun _ => hA _) rfl rfl, fun i r' hr' _ => by
      rw [CallTable.edit_alone (f := moveTo (.walking s.store.streetTime)) hr alone (fun _ => rfl) hr']
      exact shows.allows (.inl rfl)⟩
  unfold State.walkDeclared
  split
  next k hk =>
    obtain ⟨r, hr, hc, granted⟩ := grantedSlot_some hk
    have joins := CallState.isJoinable_of_isGranted granted
    exact taken ⟨hr, hc⟩ (h.alone ⟨hr, hc⟩ joins) (.inr joins)
  next no_grant =>
    have unserved : s.table.Unserved c := fun i r hr => by
      by_contra serving
      have granted := ready i r hr (by simpa using serving)
      rw [grantedSlot_none no_grant hr.1 hr.2] at granted
      cases granted
    split
    next k hk =>
      obtain ⟨r, hr, hc, state⟩ := waitingSlot_some hk
      have waiting := CallState.isWaiting_iff.2 state
      exact taken ⟨hr, hc⟩ (h.waiting_alone ⟨hr, hc⟩ waiting unserved) (.inl waiting)
    next no_wait =>
      have empty : ∀ i r, ¬ RecordAt s.table c i r := fun i r hr => by
        have waiting := unserved i r hr
        rw [waitingSlot_none no_wait hr.1 hr.2] at waiting
        cases waiting
      unfold CallTable.makeRecall
      cases free : s.table.freeSlot with
      | none => exact ⟨h, fun i r hr => absurd hr (empty i r)⟩
      | some k =>
        refine ⟨h.fill (freeSlot_some free) (fun j q hq => absurd hq (empty j q)) (fun _ => hA _) (.empty p c), fun i r hr _ => ?_⟩
        obtain ⟨at_, place⟩ := hr
        rw [CallTable.fill_look] at at_
        split at at_
        · obtain rfl := Option.some.inj at_
          exact shows.allows (.inl rfl)
        · exact absurd ⟨at_, place⟩ (empty i r)

theorem CallLaw.clearanceDeclared (hA : ∀ x, A c x) (h : CallLaw A p s.table) (shows : s.Shows c .clearance)
    (ready : ∀ i r, RecordAt s.table c i r → r.state.isWaiting = false → r.state.isWalking = true) :
    CallLaw A p (s.clearanceDeclared c).table ∧ (s.clearanceDeclared c).Served c := by
  unfold State.clearanceDeclared
  split
  next k hk =>
    obtain ⟨r, hr, hc, walking⟩ := walkingSlot_some hk
    have joins := CallState.isJoinable_of_isWalking walking
    have alone := h.alone ⟨hr, hc⟩ joins
    refine ⟨h.move ⟨hr, hc⟩ alone (.inr joins) (by simp) (fun _ => hA _) (by simp) (by simp), fun i r' hr' _ => ?_⟩
    rw [CallTable.edit_alone (f := toClearing) ⟨hr, hc⟩ alone (by simp) hr']
    refine shows.allows ?_
    cases state : r.state with
    | walking start => simp [toClearing, state, moveTo, CallState.fits]
    | waiting => simp [state, CallState.isWalking] at walking
    | granted n => simp [state, CallState.isWalking] at walking
    | clearing start => simp [state, CallState.isWalking] at walking
  next no_walk =>
    have unserved : s.table.Unserved c := fun i r hr => by
      by_contra serving
      have walking := ready i r hr (by simpa using serving)
      rw [walkingSlot_none no_walk hr.1 hr.2] at walking
      cases walking
    split <;> exact ⟨h, unserved.served.of_same rfl rfl rfl rfl⟩

theorem CallLaw.dontWalkDeclared (h : CallLaw A p s.table) (shows : s.Shows c .dontWalk) :
    CallLaw A p (s.dontWalkDeclared c).table ∧ (s.dontWalkDeclared c).Served c := by
  unfold State.dontWalkDeclared
  split
  next i hi =>
    obtain ⟨r, hr, hc, serving⟩ := servingSlot_some hi
    split
    next k hk =>
      obtain ⟨w, hw, hwc, walking⟩ := walkingSlot_some hk
      exact ⟨h.remove _ k,
        (CallLaw.unserved_remove (t := s.table) h ⟨hw, hwc⟩ (CallState.isWaiting_of_isWalking walking) s.store).served⟩
    next hk =>
      obtain ⟨g, hg, hgc, granted⟩ := grantedSlot_some hk
      have alone := h.alone ⟨hg, hgc⟩ (CallState.isJoinable_of_isGranted granted)
      refine ⟨h, fun j q hq _ => shows.allows ?_⟩
      obtain rfl := alone j q hq
      obtain rfl := Option.some.inj (hq.1.symm.trans hg)
      cases state : q.state with
      | granted n => exact .inl rfl
      | waiting => simp [state, CallState.isGranted] at granted
      | walking start => simp [state, CallState.isGranted] at granted
      | clearing start => simp [state, CallState.isGranted] at granted
    next => exact ⟨h.remove _ i, (CallLaw.unserved_remove (t := s.table) h ⟨hr, hc⟩ serving s.store).served⟩
  next none_serves =>
    have unserved := CallTable.unserved_of_slot none_serves
    split <;> exact ⟨h, unserved.served.of_same rfl rfl rfl rfl⟩

/-- An accepted declaration leaves the records of its crossing fitting the aspect (R72 to R80). -/
theorem CallLaw.handDeclaration (hA : ∀ x, A c x) (h : CallLaw A p s.table) (shows : s.Shows c a)
    (ready : ∀ i r, RecordAt s.table c i r → r.state.isWaiting = false → r.state.FollowedBy a) :
    CallLaw A p (s.handDeclaration c a).table ∧ (s.handDeclaration c a).Served c := by
  cases a with
  | unknown => exact ⟨h, fun i r hr serving => (ready i r hr serving).elim⟩
  | conflict => exact ⟨h, fun i r hr serving => (ready i r hr serving).elim⟩
  | walk => exact h.walkDeclared hA shows ready
  | clearance => exact h.clearanceDeclared hA shows ready
  | dontWalk => exact h.dontWalkDeclared shows
  | dark =>
    refine ⟨h, fun i r hr _ => shows.allows ?_⟩
    cases r.state <;> simp [CallState.fits]

/-- The records that a declaration accepted by the permitted sequence finds (R93). -/
theorem followedBy_of_sequence {before a : Aspect} {granted recallOk darkOk : Bool} {x : CallState} (serving : x.isWaiting = false)
    (fits : x.fits before) (differs : a ≠ before) (known : a ≠ .unknown)
    (accepted : sequenceFault before a granted recallOk darkOk = none) : x.FollowedBy a := by
  cases a with
  | unknown => exact absurd rfl known
  | conflict => simp [sequenceFault] at accepted
  | dontWalk => trivial
  | dark => trivial
  | walk =>
    cases x <;> cases before <;>
      simp_all [CallState.fits, CallState.isWaiting, sequenceFault, CallState.FollowedBy, CallState.isGranted]
  | clearance =>
    cases x <;> cases before <;>
      simp_all [CallState.fits, CallState.isWaiting, sequenceFault, CallState.FollowedBy, CallState.isWalking]

/-- A crossing that is disabled or FAULTED is not served. -/
theorem State.Served.unserved (h : s.Served c) (idle : (s.store.crossing c).enabled = false ∨ (look s.aspects c).fault ≠ none) :
    s.table.Unserved c := fun i r hr => by
  by_contra serving
  obtain ⟨on, clear, -⟩ := h i r hr (by simpa using serving)
  rcases idle with off | faulted
  · rw [on] at off
    cases off
  · exact faulted clear

theorem CallLaw.judge (hA : ∀ x, A c x) (h : CallLaw A p s.table) (served : s.Served c) (differs : a ≠ (look s.aspects c).observed)
    (known : a ≠ .unknown) : CallLaw A p (s.judge c a).table ∧ (s.judge c a).Served c := by
  cases on : (s.store.crossing c).enabled with
  | false =>
    rw [State.judge_disabled on]
    exact ⟨h, CallTable.Unserved.served (s := s.onAspect c _) (served.unserved (.inl on))⟩
  | true =>
    cases clear : (look s.aspects c).fault with
    | some kind =>
      have unserved : s.table.Unserved c := served.unserved (.inr (by rw [clear]; simp))
      cases check : sequenceFault (look s.aspects c).observed a false (s.store.crossing c).recallPermitted
        (s.store.crossing c).darkPermitted with
      | none =>
        rw [State.judge_faulted on clear check]
        exact ⟨h, CallTable.Unserved.served (s := s.onAspect c _) unserved⟩
      | some again =>
        rw [State.judge_further on clear check]
        exact ⟨h, CallTable.Unserved.served (s := (s.onAspect c _).furtherFault c) unserved⟩
    | none =>
      cases check : s.checkSequence c (look s.aspects c).observed a with
      | some kind =>
        rw [State.judge_fault on clear check]
        obtain ⟨law, unserved⟩ := CallLaw.raiseFault (c := c) (s := s.onAspect c fun x => { x with observed := a }) h kind
        exact ⟨law, unserved.served⟩
      | none =>
        rw [State.judge_accepted on clear check]
        refine CallLaw.handDeclaration (s := s.onAspect c fun x => { x with observed := a }) hA h
          ⟨on, by simpa using clear, by simp⟩ fun i r hr serving => ?_
        exact followedBy_of_sequence serving (served i r hr serving).2.2 differs known check

theorem CallLaw.declare (hA : ∀ x, A c x) (h : CallLaw A p s.table) (served : s.Served c) (differs : a ≠ (look s.aspects c).observed)
    (known : a ≠ .unknown) : CallLaw A p (s.declare c a).table ∧ (s.declare c a).Served c := by
  obtain ⟨law, after⟩ := h.judge hA served differs known
  rw [State.declare_eq]
  split
  · exact ⟨law, after.of_same rfl rfl rfl rfl⟩
  · exact ⟨law, after⟩

/-- No lamps qualify as UNKNOWN (R87). -/
theorem AspectState.qualifying_known {x : AspectState} {n : Nat} {a : Aspect} (h : x.qualifying n = some a) : a ≠ .unknown := by
  rintro rfl
  unfold AspectState.qualifying at h
  split at h
  · split at h
    · split at h <;> cases h
    · cases h
  · split at h
    · cases h
    · split at h
      · split at h <;> cases h
      · split at h <;> cases h

theorem CallLaw.retest (hA : ∀ x, A c x) (h : CallLaw A p s.table) (served : s.Served c) :
    CallLaw A p (s.retest c).table ∧ (s.retest c).Served c := by
  cases q : (look s.aspects c).qualifying (s.store.crossing c).settle with
  | none =>
    rw [State.retest_none q]
    refine ⟨h, served.of_same rfl ?_ ?_ rfl⟩ <;>
    · simp only [State.onAspect_aspects, look_change_self, AspectState.startMeasure]
      split <;> rfl
  | some a =>
    have stopped : (s.onAspect c fun x => { x with undecodable := none }).Served c := served.of_same rfl (by simp) (by simp) rfl
    by_cases same : a = (look s.aspects c).observed
    · rw [State.retest_same q same]
      exact ⟨h, stopped⟩
    · rw [State.retest_declares q same]
      exact CallLaw.declare (s := s.onAspect c fun x => { x with undecodable := none }) hA h stopped (by simpa using same)
        (AspectState.qualifying_known q)

/-! ## The transfer -/

theorem State.unserved_of_transferPoint (h : s.crossingTransferPoint c = true) (served : s.Served c) : s.table.Unserved c := by
  simp only [State.crossingTransferPoint, Bool.or_eq_true, Bool.and_eq_true, Option.isNone_iff_eq_none, Bool.not_eq_true'] at h
  rcases h with ⟨none_serves, -⟩ | off
  · exact CallTable.unserved_of_slot none_serves
  · exact served.unserved (.inl off)

/-- A transfer at the Call Table brings no serving record. -/
theorem CallTable.Unserved.transfer {t : CallTable} (h : t.Unserved c) (q : ProfileStore) (was : Bool) : (t.transfer q c was).Unserved c := by
  unfold CallTable.transfer
  split
  · split
    · exact h.of_demand (.edit _ _ _ (by simp) (by simp))
    · exact h
  · split
    · have cleared : (t.clearMemo c).Unserved c := fun i r hr => h i r ⟨by simpa using hr.1, hr.2⟩
      dsimp only
      split
      · exact cleared.remove q _
      · exact cleared
    · exact h

theorem CallLaw.enablingCheck (hA : ∀ x, A c x) (h : CallLaw A p s.table) (on : (s.store.crossing c).enabled = true)
    (unserved : s.table.Unserved c) : CallLaw A p (s.enablingCheck c).table ∧ (s.enablingCheck c).Served c := by
  unfold State.enablingCheck
  split
  · exact ⟨h, unserved.served⟩
  next clear =>
    split
    · exact ⟨h, unserved.served⟩
    · split
      · exact h.handDeclaration hA ⟨on, clear, rfl⟩ fun i r hr serving => by rw [unserved i r hr] at serving; cases serving
      · obtain ⟨law, gone⟩ := h.raiseFault (c := c) _
        exact ⟨law, gone.served⟩

theorem CallLaw.enablingLimit (h : CallLaw A p s.table) (served : s.Served c) :
    CallLaw A p (s.enablingLimit c).table ∧ (s.enablingLimit c).Served c := by
  unfold State.enablingLimit
  split
  next m _ _ =>
    split
    · obtain ⟨law, gone⟩ := CallLaw.raiseFault (c := c)
        (s := s.onAspect c fun x => { x with undecodable := some { m with acted := true } }) h .undecodable
      exact ⟨law, gone.served⟩
    · exact ⟨h, served⟩
  · exact ⟨h, served⟩

theorem CallLaw.testTransfer (hA : ∀ x, A c x) (h : CallLaw A p s.table) (served : s.Served c) :
    CallLaw A p (s.testTransfer c).table ∧ (s.testTransfer c).Served c := by
  unfold State.testTransfer
  split
  · exact ⟨h, served⟩
  next new _ =>
    split
    next point =>
      have law : CallLaw A p (s.takeProfile c new).table := by
        rw [State.takeProfile_table]
        exact h.transfer _ c _
      have gone : (s.takeProfile c new).table.Unserved c := by
        rw [State.takeProfile_table]
        exact (State.unserved_of_transferPoint point served).transfer _ _
      rw [State.transferCrossing_eq]
      split
      next enabling =>
        obtain ⟨law₁, served₁⟩ := law.enablingCheck hA (by rw [State.takeProfile_store, ProfileStore.crossing_put]; exact enabling.1) gone
        obtain ⟨law₂, served₂⟩ := law₁.retest hA served₁
        exact law₂.enablingLimit served₂
      next => exact law.retest hA gone.served
    next => exact ⟨h, served⟩

theorem CallLaw.settleCrossing (hA : ∀ x, A c x) (h : CallLaw A p s.table) (served : s.Served c) :
    CallLaw A p (s.settleCrossing c).table ∧ (s.settleCrossing c).Served c := by
  obtain ⟨law, after⟩ := h.testTransfer hA served
  unfold State.settleCrossing
  rw [State.findGate_table]
  exact ⟨law, after.of_same (by simp) (by simp) (by simp) (by simp)⟩

theorem CallLaw.limitReached (h : CallLaw A p s.table) (served : s.Served c) :
    CallLaw A p (s.limitReached c).table ∧ (s.limitReached c).Served c := by
  unfold State.limitReached
  split
  · split
    · obtain ⟨law, gone⟩ := h.raiseFault (c := c) .undecodable
      exact ⟨law, gone.served⟩
    · exact ⟨h, served.of_same rfl (by simp [State.furtherFault]) (by simp [State.furtherFault]) rfl⟩
  · exact ⟨h, served⟩

theorem CallLaw.takeLimit (hA : ∀ x, A c x) (h : CallLaw A p s.table) (served : s.Served c) :
    CallLaw A p (s.takeLimit c).table ∧ (s.takeLimit c).Served c := by
  unfold State.takeLimit
  split
  · exact ⟨h, served⟩
  next m _ =>
    split
    · exact ⟨h, served⟩
    · obtain ⟨law, after⟩ := CallLaw.limitReached (c := c)
        (s := s.onAspect c fun x => { x with undecodable := some { time := max m.time Config.undecodableLimit, acted := true } }) h
        (served.of_same rfl (by simp) (by simp) rfl)
      exact law.settleCrossing hA after

end Events

end Sys2Proof.Machine

/-! Every step keeps the laws of the Call Table. -/

namespace Sys2Proof.Machine

namespace CallsLaw

variable {s t : State} {c : Crossing}

/-- The laws look at the records and memos, at what crossings allow and at the stations' crossings. -/
theorem of_same (h : CallsLaw s) (table : t.table = s.table) (enabled : ∀ c, (t.store.crossing c).enabled = (s.store.crossing c).enabled)
    (lamps : ∀ c, (look t.aspects c).fault = (look s.aspects c).fault ∧ (look t.aspects c).observed = (look s.aspects c).observed)
    (stations : t.store.stations = s.store.stations) : CallsLaw t := by
  have law : CallLaw t.allows t.store s.table := by
    refine (CallLaw.of_places h fun i => by simp only [ProfileStore.station, stations]).allowing fun i r _ _ fits => ?_
    unfold State.allows at fits ⊢
    rwa [enabled, (lamps _).1, (lamps _).2]
  unfold CallsLaw
  rwa [table]

theorem onTable {f : CallTable → CallTable} (h : CallLaw s.allows s.store (f s.table)) : CallsLaw (s.onTable f) := h

theorem answer (h : CallsLaw s) (x : Status) : CallsLaw (s.answer x) := h.of_same rfl (fun _ => rfl) (fun _ => ⟨rfl, rfl⟩) rfl

theorem served (h : CallsLaw s) (c : Crossing) : s.Served c := fun i r hr serving => hr.2 ▸ h.serves i r hr.1 serving

/-- The law after an event at crossing c, where it holds with anything allowed at c and c is served as it allows. -/
theorem event (h : CallsLaw s) (at_ : OnlyAt c s t)
    (law : ∀ A : Crossing → CallState → Prop, (∀ x, A c x) → CallLaw A s.store s.table → CallLaw A s.store t.table ∧ t.Served c) :
    CallsLaw t := by
  obtain ⟨loose, after⟩ := law (fun d x => d = c ∨ s.allows d x) (fun _ => .inl rfl) (h.allowing fun _ _ _ _ fits => .inr fits)
  have stations : t.store.stations = s.store.stations := by
    rw [at_.frame]
    rfl
  refine (loose.of_places fun i => by simp only [ProfileStore.station, stations]).allowing fun i r hr serving fits => ?_
  by_cases hc : r.crossing = c
  · exact hc ▸ after i r ⟨hr, hc⟩ serving
  · have kept := fits.resolve_left hc
    unfold State.allows at kept ⊢
    simp only [ProfileStore.crossing] at kept ⊢
    rwa [at_.profiles _ hc, at_.lamps _ hc]

end CallsLaw

/-- A removal leaves the crossing's other serving records. -/
theorem State.Served.removeRecord {s : State} {c : Crossing} (h : s.Served c) (k : RecordSlot) : (s.removeRecord k).Served c := by
  intro i r hr serving
  rcases s.table.remove_record s.store hr.1 with waiting | ⟨-, r₀, was, crossing, state⟩
  · rw [waiting] at serving
    cases serving
  · rw [state] at serving ⊢
    exact h i r₀ ⟨was, crossing.symm.trans hr.2⟩ serving

/-! ## The station bus -/

/-- A reassigned station leaves the sets of its old crossing (R59). -/
theorem CallLaw.move_station {A : Crossing → CallState → Prop} {p : ProfileStore} {t : CallTable} {i : Station} {new : StationProfile}
    (h : CallLaw A p t) (unserved : t.Unserved (p.station i).crossing) :
    CallLaw A { p with stations := put p.stations i { active := new, pending := none } }
      (if new.crossing = (p.station i).crossing then t else t.reassign i (p.station i).crossing) := by
  generalize hp : ({ p with stations := put p.stations i { active := new, pending := none } } : ProfileStore) = p'
  have moved : p'.station i = new := by simp [← hp, ProfileStore.station]
  have stay : ∀ j, j ≠ i → p'.station j = p.station j := fun j hj => by simp [← hp, ProfileStore.station, look_put_ne _ hj]
  split
  next same =>
    refine h.of_places fun j => ?_
    by_cases hj : j = i
    · rw [hj, moved, same]
    · rw [stay j hj]
  next =>
    have elsewhere : ∀ {c set n}, RequestSet p c set n → i ∉ set → RequestSet p' c set n := fun set out =>
      set.of_places fun j hj place => by rw [stay j (fun hji => out (hji ▸ hj))]; exact place
    have outside : ∀ {c set n}, RequestSet p c set n → c ≠ (p.station i).crossing → i ∉ set := fun set hc hi =>
      hc (set.2.2.2.2 i hi).symm
    have record : ∀ {r : CallRecord}, RequestSet p r.crossing r.stations r.pressCount →
        RequestSet p' r.crossing (takeOutOfRecord i r).stations (takeOutOfRecord i r).pressCount := fun set => by
      unfold takeOutOfRecord
      split
      · exact set.takeOut stay
      next out => exact elsewhere set (by simpa using out)
    have memo : ∀ {c} {m : Memo}, RequestSet p c m.stations m.count → RequestSet p' c (takeOutOfMemo i m).stations (takeOutOfMemo i m).count :=
      fun set => by
        unfold takeOutOfMemo
        split
        · exact set.takeOut stay
        next out => exact elsewhere set (by simpa using out)
    have origin : ∀ m : Memo, (takeOutOfMemo i m).origin = m.origin := fun m => by
      unfold takeOutOfMemo
      split <;> rfl
    have memos : (t.reassign i (p.station i).crossing).memos = change t.memos (p.station i).crossing (Option.map (takeOutOfMemo i)) := by
      unfold CallTable.reassign
      dsimp only
      split <;> rfl
    have records : ∀ k r', look (t.reassign i (p.station i).crossing).records k = some r' →
        ∃ r, look t.records k = some r ∧ (r' = takeOutOfRecord i r ∨ r' = r ∧ i ∉ r.stations) := fun k r' hr' => by
      unfold CallTable.reassign at hr'
      dsimp only at hr'
      cases slot : t.waitingSlot (p.station i).crossing with
      | some w =>
        obtain ⟨r, hr, hc, waiting⟩ := waitingSlot_some slot
        rw [slot] at hr'
        simp only [CallTable.edit_look] at hr'
        split at hr'
        next hk =>
          rw [hk, hr] at hr'
          exact ⟨r, by rw [hk, hr], .inl (Option.some.inj hr').symm⟩
        next hk =>
          refine ⟨r', hr', .inr ⟨rfl, outside (h.requests k r' hr') fun place => hk ?_⟩⟩
          exact h.waiting_alone ⟨hr, hc⟩ (CallState.isWaiting_iff.2 waiting) unserved k r' ⟨hr', place⟩
      | none =>
        rw [slot] at hr'
        refine ⟨r', hr', .inr ⟨rfl, outside (h.requests k r' hr') fun place => ?_⟩⟩
        have waiting := unserved k r' ⟨hr', place⟩
        rw [waitingSlot_none slot hr' place] at waiting
        cases waiting
    refine ⟨h.of_like (fun k r' hr' => ?_) fun d m' hm' => ?_, fun d k present => ?_⟩
    · obtain ⟨r, hr, rfl | ⟨rfl, out⟩⟩ := records k r' hr'
      · refine ⟨r, hr, by simp, by simp [CallState.Like], ?_, ?_⟩
        · rw [takeOutOfRecord_crossing, takeOutOfRecord_state]
          exact h.serves k r hr
        · rw [takeOutOfRecord_crossing]
          exact record (h.requests k r hr)
      · exact ⟨r', hr, rfl, .refl _, h.serves k r' hr, elsewhere (h.requests k r' hr) out⟩
    · rw [memos, look_change] at hm'
      split at hm'
      next hd =>
        obtain ⟨m, hm, rfl⟩ := Option.map_eq_some_iff.1 hm'
        subst hd
        obtain ⟨set, press⟩ := h.memoRequests _ m hm
        exact ⟨by rw [hm]; rfl, memo set, by rw [origin]; exact press⟩
      next hd =>
        obtain ⟨set, press⟩ := h.memoRequests d m' hm'
        exact ⟨by rw [hm']; rfl, elsewhere set (outside set hd), press⟩
    · have was : (look t.memos d).isSome = true := by
        rw [memos, look_change] at present
        split at present
        · simpa using present
        · exact present
      have used := h.memoFull d k was
      unfold CallTable.reassign
      dsimp only
      split
      · simp only [CallTable.edit_look]
        split
        · simpa using used
        · exact used
      · exact used

theorem CallsLaw.stationAct {s t : State} (h : StationAct s t) (law : CallsLaw s) : CallsLaw t := by
  cases h with
  | bus f => exact law.of_same rfl (fun _ => rfl) (fun _ => ⟨rfl, rfl⟩) rfl
  | press i f _ => exact law.of_same rfl (fun _ => rfl) (fun _ => ⟨rfl, rfl⟩) rfl
  | level i f _ => exact law.of_same rfl (fun _ => rfl) (fun _ => ⟨rfl, rfl⟩) rfl
  | cues f _ _ => exact law.of_same rfl (fun _ => rfl) (fun _ => ⟨rfl, rfl⟩) rfl
  | frameLength n => exact law.of_same rfl (fun _ => rfl) (fun _ => ⟨rfl, rfl⟩) rfl
  | aim i x => exact CallLaw.aim law i x
  | register i => exact CallLaw.register law s.store rfl
  | upgrade i => exact CallLaw.upgrade law s.store i
  | move i new _ unserved => exact CallLaw.move_station law (CallTable.unserved_of_slot unserved)

theorem CallsLaw.of_run {s t : State} (h : StationRun s t) (law : CallsLaw s) : CallsLaw t :=
  h.keeps (P := CallsLaw) (fun _ _ act law => law.stationAct act) law

/-! ## The commands -/

section Commands

variable {s t : State} (h : CallsLaw s)
include h

theorem CallsLaw.passTime : CallsLaw s.passTime := by
  have record : ∀ i r', look s.passTime.table.records i = some r' →
      ∃ r, look s.table.records i = some r ∧ r' = { r with state := r.state.passTime } := fun i r' hr' => by
    simp only [State.passTime, look_mapAll, Option.map_eq_some_iff] at hr'
    obtain ⟨r, hr, rfl⟩ := hr'
    exact ⟨r, hr, rfl⟩
  have like : ∀ x : CallState, x.Like x.passTime := fun x => by cases x <;> exact ⟨rfl, rfl⟩
  have memos : s.passTime.table.memos = s.table.memos := by simp only [State.passTime]
  refine ⟨RecordsLaw.of_like h.toRecordsLaw (fun i r' hr' => ?_) fun d m hm => ?_, fun d i memo => ?_⟩
  · obtain ⟨r, hr, rfl⟩ := record i r' hr'
    refine ⟨r, hr, rfl, like _, fun serving => ?_, h.requests i r hr⟩
    have allowed := h.serves i r hr (by rw [← (like r.state).1]; exact serving)
    simp only [State.allows, State.passTime, look_mapAll, AspectState.passTime] at allowed ⊢
    obtain ⟨on, clear, fits⟩ := allowed
    refine ⟨on, clear, ?_⟩
    cases state : r.state <;> rw [state] at fits <;> exact fits
  · rw [memos] at hm
    exact ⟨by rw [hm]; rfl, h.memoRequests d m hm⟩
  · rw [memos] at memo
    have used := h.memoFull d i memo
    simpa only [State.passTime, look_mapAll, Option.isSome_map] using used

theorem CallsLaw.settled {c : Crossing} {u : State} (at_ : OnlyAt c s u)
    (law : ∀ A : Crossing → CallState → Prop, (∀ x, A c x) → CallLaw A s.store s.table → CallLaw A s.store u.table ∧ u.Served c) :
    CallsLaw (u.settleCrossing c) :=
  h.event (at_.trans (.settleCrossing u)) fun A hA loose => by
    obtain ⟨after, served⟩ := law A hA loose
    exact after.settleCrossing hA served

theorem CallsLaw.grant (c : Crossing) (w : Nat) : CallsLaw (s.grant c w) := by
  unfold State.grant
  dsimp only
  split
  · exact h.answer _
  next on =>
    split
    · exact h.answer _
    next clear =>
      split
      · exact h.answer _
      next idle =>
        split
        · exact h.answer _
        next dontWalk =>
          have allowed : ∀ n, s.allows c (.granted n) := fun n =>
            ⟨by simpa using on, by simpa using clear, .inl (by simpa using dontWalk)⟩
          have unserved : s.table.Unserved c := CallTable.unserved_of_slot (by simpa using idle)
          have found : ∀ {u : CallTable} x, CallLaw s.allows s.store u → CallsLaw ((State.findGate c { s with table := u }).answer x) :=
            fun {u} x law => (CallsLaw.of_same (s := { s with table := u }) law (by simp) (by simp) (by simp) (by simp)).answer x
          split
          next i hi =>
            obtain ⟨r, hr, hc, state⟩ := waitingSlot_some hi
            have waiting := CallState.isWaiting_iff.2 state
            exact found _ (CallLaw.move h ⟨hr, hc⟩ (CallLaw.waiting_alone h ⟨hr, hc⟩ waiting unserved) (.inl waiting) rfl
              (fun _ => allowed _) rfl rfl)
          next no_wait =>
            unfold CallTable.makeRecall
            split
            next u hu =>
              split at hu
              next k hk =>
                obtain rfl := Option.some.inj hu
                refine found _ (CallLaw.fill h (freeSlot_some hk) (fun j q hq => ?_) (fun _ => allowed _) (.empty s.store c))
                have waiting := unserved j q hq
                rw [waitingSlot_none no_wait hq.1 hq.2] at waiting
                cases waiting
              next => cases hu
            next => exact h.answer _

/-- A record of c is removed, and its crossing settled. -/
theorem CallsLaw.removed {c : Crossing} {k : RecordSlot} {r : CallRecord} (hr : RecordAt s.table c k r) :
    CallsLaw ((s.removeRecord k).settleCrossing c) :=
  h.settled (.removeRecord hr) fun _ _ loose => ⟨loose.remove _ k, (h.served c).removeRecord k⟩

theorem CallsLaw.cancelWaiting (c : Crossing) : CallsLaw (s.cancelWaiting c) := by
  unfold State.cancelWaiting
  split
  next i hi =>
    obtain ⟨r, hr, hc, -⟩ := waitingSlot_some hi
    exact (h.removed ⟨hr, hc⟩).answer _
  next =>
    split
    · exact CallsLaw.answer (s := s.onTable fun t => t.clearMemo c) (CallLaw.clearMemo h c) _
    · exact h.answer _

theorem CallsLaw.cancelServing (c : Crossing) : CallsLaw (s.cancelServing c) := by
  unfold State.cancelServing
  split
  · exact h.answer _
  · split
    next i hi =>
      obtain ⟨r, hr, hc, -⟩ := grantedSlot_some hi
      exact (h.removed ⟨hr, hc⟩).answer _
    · exact h.answer _

/-- Lamps change without the observed aspect or a fault, and are tested again (R87). -/
theorem CallsLaw.lamps {c : Crossing} (f : AspectState → AspectState) (fault : ∀ x, (f x).fault = x.fault)
    (observed : ∀ x, (f x).observed = x.observed) : CallsLaw (((s.onAspect c f).retest c).settleCrossing c) :=
  h.settled ((OnlyAt.onAspect _).trans (.retest _)) fun A hA loose =>
    CallLaw.retest (s := s.onAspect c f) hA loose ((h.served c).of_same rfl (by simp [fault]) (by simp [observed]) rfl)

theorem CallsLaw.expire {c : Crossing} {k : RecordSlot} {r : CallRecord} (hr : RecordAt s.table c k r)
    (granted : r.state.isGranted = true) (f : GrantState → GrantState) :
    CallsLaw (((s.onTable fun t => t.edit k (moveTo .waiting)).onGrant c f).settleCrossing c) := by
  have joins := CallState.isJoinable_of_isGranted granted
  have alone := CallLaw.alone h hr joins
  refine h.settled ((OnlyAt.moveRecord hr _).trans (.onGrant _)) fun A hA loose =>
    ⟨loose.move hr alone (.inr joins) rfl (fun bad => by cases bad) rfl rfl, CallTable.Unserved.served fun j q hq => ?_⟩
  rw [CallTable.edit_alone (f := moveTo .waiting) hr alone (fun _ => rfl) hq]
  rfl

theorem CallsLaw.clearFault {c : Crossing} {kind : FaultKind} (faulted : (look s.aspects c).fault = some kind) :
    CallsLaw (s.onAspect c AspectState.clearFault) :=
  h.event (.onAspect _) fun A _ loose =>
    ⟨loose, CallTable.Unserved.served (s := s.onAspect c _) ((h.served c).unserved (.inr (by simp [faulted])))⟩

omit h in
theorem CallsLaw.of_empty (table : t.table = CallTable.reset) : CallsLaw t := by
  have records : ∀ i, look t.table.records i = none := fun i => by simp [table, CallTable.reset]
  have memos : ∀ c, look t.table.memos c = none := fun c => by simp [table, CallTable.reset]
  refine ⟨⟨?_, ?_, ?_, ?_, ?_, ?_⟩, ?_⟩ <;> simp [records, memos, MemosFull]

omit h in
theorem AspectState.changeLines_keeps (w d : Bool) (x : AspectState) :
    (x.changeLines w d).fault = x.fault ∧ (x.changeLines w d).observed = x.observed := by
  unfold AspectState.changeLines AspectState.changeD AspectState.changeW
  dsimp only
  (repeat' split) <;> exact ⟨rfl, rfl⟩

omit h in
theorem AspectState.reach_keeps (l : LampLine) (n : Nat) (x : AspectState) :
    (x.reach l n).fault = x.fault ∧ (x.reach l n).observed = x.observed := by
  cases l <;> exact ⟨rfl, rfl⟩

theorem CallsLaw.exec_plain {i : Instr} (hi : exec i s = .next t) (plain : Plain i) : CallsLaw t := by
  cases i
  case requestFrameRefused f => exact absurd rfl (plain f)
  case partReset =>
    obtain rfl := next_inj hi
    exact .of_empty (State.senseLines_table _)
  case reset =>
    obtain rfl := next_inj hi
    exact .of_empty (State.senseLines_table _)
  case streetTimeTick =>
    obtain rfl := next_inj hi
    exact h.of_same rfl (fun _ => rfl) (fun _ => ⟨rfl, rfl⟩) rfl
  case noRequest =>
    obtain rfl := next_inj hi
    exact h.answer _
  case identify =>
    obtain rfl := next_inj hi
    exact h
  case readSummary =>
    obtain rfl := next_inj hi
    exact h
  case readCalls scope =>
    simp only [exec, execReadCalls] at hi
    split at hi <;> obtain rfl := next_inj hi
    next x _ =>
      exact (CallsLaw.onTable (f := fun t => t.markSeen x.only) (CallLaw.markSeen h _)).of_same (State.respond_table _ _ _)
        (by simp) (by simp) (by simp)
    · exact h.answer _
  case readCrossing n =>
    simp only [exec, execReadCrossing] at hi
    split at hi <;> obtain rfl := next_inj hi
    next c _ =>
      refine h.of_same (by simp) (by simp) (fun d => ?_) (by simp)
      simp only [State.respond_aspects, State.clearCrossingNotices, State.onGrant_aspects, State.onAspect_aspects, look_change]
      split <;> exact ⟨by simp_all, by simp_all⟩
    · exact h.answer _
  case readStation n =>
    simp only [exec, execReadStation] at hi
    split at hi <;> obtain rfl := next_inj hi
    · exact h.of_same (by simp) (by simp) (by simp) (by simp)
    · exact h.answer _
  case readCorner n =>
    simp only [exec, execReadCorner] at hi
    split at hi <;> obtain rfl := next_inj hi
    · exact h
    · exact h.answer _
  case grant n w =>
    simp only [exec, execGrant] at hi
    split at hi <;> obtain rfl := next_inj hi
    · exact h.grant _ _
    · exact h.answer _
  case cancel n x =>
    simp only [exec, execCancel] at hi
    split at hi <;> obtain rfl := next_inj hi
    · exact h.cancelWaiting _
    · exact h.cancelServing _
    · exact h.answer _
  case clearFault n =>
    simp only [exec, execClearFault] at hi
    split at hi
    · split at hi
      next faulted =>
        split at hi <;> obtain rfl := next_inj hi
        · exact (h.clearFault faulted).answer _
        · exact h.answer _
      · obtain rfl := next_inj hi
        exact h.answer _
    · obtain rfl := next_inj hi
      exact h.answer _
  case setHold set time =>
    simp only [exec, execSetHold] at hi
    split at hi <;> obtain rfl := next_inj hi
    · exact h.of_same (by simp) (by simp) (by simp) (by simp)
    · exact h.answer _
  case releaseLineHold n =>
    simp only [exec, execReleaseLineHold] at hi
    split at hi <;> obtain rfl := next_inj hi
    · exact h.of_same (by simp) (by simp) (by simp) (by simp)
    · exact h.answer _
  case setStreetMode n =>
    simp only [exec, execSetStreetMode] at hi
    split at hi <;> obtain rfl := next_inj hi
    · refine CallsLaw.answer ?_ _
      unfold State.setMode
      split
      · exact h
      · exact h.of_same (by simp) (by simp [ProfileStore.crossing]) (by simp) (by simp)
    · exact h.answer _
  case writeCrossing n f =>
    simp only [exec, execWriteCrossing] at hi
    split at hi <;> obtain rfl := next_inj hi
    next c new adjusted _ _ =>
      refine CallsLaw.answer (h.settled (.putProfile _) fun A hA loose => ⟨loose, ?_⟩) _
      exact (h.served c).of_same (by simp [ProfileStore.crossing]) rfl rfl rfl
    · exact h.answer _
  case writeStation n f =>
    simp only [exec, execWriteStation] at hi
    split at hi
    next i new adjusted _ _ =>
      split at hi <;> obtain rfl := next_inj hi
      · exact h.answer _
      · refine CallsLaw.answer ?_ _
        refine CallLaw.of_places (p := s.store) h fun j => ?_
        by_cases hj : j = i
        · simp [ProfileStore.station, hj]
        · simp [ProfileStore.station, look_change_ne _ hj]
    · obtain rfl := next_inj hi
      exact h.answer _
  case writeCorner n f =>
    simp only [exec, execWriteCorner] at hi
    split at hi <;> obtain rfl := next_inj hi
    · exact h.of_same (by simp) (by simp [ProfileStore.crossing]) (by simp) (by simp)
    · exact h.answer _
  case writeStreet la ma lb mb n =>
    simp only [exec, execWriteStreet] at hi
    split at hi <;> obtain rfl := next_inj hi
    · exact h.of_same (by simp) (by simp [State.writeStreet, ProfileStore.crossing]) (by simp) (by simp [State.writeStreet])
    · exact h.answer _
  case restartStationBus =>
    obtain rfl := next_inj hi
    exact (h.of_run (.sectionReset s)).answer _
  case frameStart =>
    obtain rfl := next_inj hi
    exact h.of_run (.startFrame s)
  case stationTransfer j =>
    obtain rfl := next_inj hi
    exact h.of_run (.testStation j s)
  case stationSlot j =>
    obtain rfl := next_inj hi
    exact h.of_run (.beginSlot j s)
  case stationReport b =>
    obtain rfl := next_inj hi
    exact h.of_run (.receive b s)
  case missedSlot =>
    obtain rfl := next_inj hi
    exact h.of_run (.endSlot s)
  case lampLineChange c w d =>
    obtain rfl := next_inj hi
    exact h.lamps _ (fun x => (AspectState.changeLines_keeps w d x).1) fun x => (AspectState.changeLines_keeps w d x).2
  case steadyTimeReached c l m =>
    obtain rfl := next_inj hi
    exact h.lamps _ (fun x => (AspectState.reach_keeps l _ x).1) fun x => (AspectState.reach_keeps l _ x).2
  case undecodableLimit c =>
    simp only [exec, execUndecodableLimit] at hi
    split at hi <;> obtain rfl := next_inj hi
    · exact h.event (.onAspect _) fun A _ loose => ⟨loose, (h.served c).of_same rfl (by simp) (by simp) rfl⟩
    · exact h.event (.takeLimit s) fun A hA loose => loose.takeLimit hA (h.served c)
  case memoAllocation =>
    obtain rfl := next_inj hi
    exact CallLaw.allocate h s.store
  case crossingTransfer c =>
    obtain rfl := next_inj hi
    exact h.settled (.refl c s) fun A _ loose => ⟨loose, h.served c⟩
  case grantWindowExpiry c =>
    cases hg : s.table.grantedSlot c
    case none => exact next_inj ((exec_grantWindowExpiry_none hg).symm.trans hi) ▸ h
    case some k =>
      obtain ⟨r, hr, hc, granted⟩ := grantedSlot_some hg
      exact next_inj ((exec_grantWindowExpiry_some hg).symm.trans hi) ▸ h.expire ⟨hr, hc⟩ granted _
  case holdLineChange l x =>
    obtain rfl := next_inj hi
    exact h.of_same (by simp) (by simp) (by simp) (by simp)
  case cycleWaitComplete c =>
    obtain rfl := next_inj ((exec_cycleWaitComplete c s).symm.trans hi)
    split
    · exact h.of_same (by simp) (by simp) (by simp) (by simp)
    · exact h
  case softwareHoldExpiry =>
    simp only [exec, execSoftwareHoldExpiry] at hi
    split at hi
    · obtain rfl := next_inj hi
      exact h.of_same rfl (fun _ => rfl) (fun _ => ⟨rfl, rfl⟩) rfl
    · split at hi <;> obtain rfl := next_inj hi
      · exact h.of_same (by simp) (by simp) (by simp) (by simp)
      · exact h
  case periodStart k =>
    obtain rfl := next_inj hi
    exact h.of_same (by simp) (by simp [State.startPeriod, State.transferCorner, ProfileStore.crossing]) (by simp)
      (by simp [State.startPeriod, State.transferCorner])
  case cornerTransfer k =>
    obtain rfl := next_inj hi
    exact h.of_same rfl (fun _ => rfl) (fun _ => ⟨rfl, rfl⟩) rfl
  case samplePoint k =>
    simp only [exec, execSamplePoint] at hi
    split at hi <;> obtain rfl := next_inj hi
    · exact h
    · exact h.of_same (by simp) (by simp) (by simp) (by simp)
  case speechStart k =>
    obtain rfl := next_inj hi
    exact h.of_run (.onCues (by simp) fun q => q.startTest _ k)
  case playLimit k =>
    obtain rfl := next_inj hi
    exact h.of_run (.onCues (by simp) fun q => q.limitPlayback _ k)
  case gapEnd k =>
    obtain rfl := next_inj hi
    exact h.of_run (.onCues (by simp) fun q => q.endGap _ k)

end Commands

/-- Settles O56: a press or linked demand goes where the crossing's records leave room; a freed record goes to the oldest memo of a full
table; and a declaration, a fault or a transfer leaves only serving records that fit what their crossing shows. -/
theorem stepKeepsCalls : Obligations.StepKeepsCalls := by
  intro s t service requests next
  refine callsLaw_iff.1 (step_keeps (P := CallsLaw) (fun s l law => ?_) (fun s law => law.passTime) (fun s x law => law.answer x)
    (fun i s t plain law hi => law.exec_plain hi plain) s t (callsLaw_iff.2 ⟨service, requests⟩) next)
  exact law.of_same rfl (fun _ => rfl) (fun _ => ⟨rfl, rfl⟩) rfl

end Sys2Proof.Machine

/-! The step and the whole part: the front command, a run that never stops, the clock's tick, and the part reset. -/

namespace Sys2Proof.Machine

/-- Settles O1. -/
theorem stepTakesFront : Obligations.StepTakesFront := by
  intro i rest s front
  simp only [step, front]

/-! ## The part never stops -/

theorem dealRequest_next (i : Instr) (s : State) (h : ∀ j, Plain j → ∃ t, exec j s = .next t) : ∃ t, dealRequest i s = .next t := by
  rcases dealRequest_cases i s with same | ⟨plain, same⟩
  · exact ⟨s, same⟩
  · obtain ⟨t, ht⟩ := h i plain
    exact ⟨t, same.trans ht⟩

/-- Every arm of the dispatch but that of a frame answers a next state. -/
theorem exec_next_of_plain (i : Instr) (s : State) (plain : Plain i) : ∃ t, exec i s = .next t := by
  cases i
  case requestFrameRefused f => exact absurd rfl (plain f)
  all_goals
    simp only [exec, execReadCalls, execReadCrossing, execReadStation, execReadCorner, execGrant, execCancel, execClearFault, execSetHold,
      execReleaseLineHold, execSetStreetMode, execWriteCrossing, execWriteStation, execWriteCorner, execWriteStreet,
      execUndecodableLimit, execGrantWindowExpiry, execCycleWaitComplete, execSoftwareHoldExpiry, execSamplePoint]
    (repeat' split) <;> exact ⟨_, rfl⟩

theorem exec_next (i : Instr) (s : State) : ∃ t, exec i s = .next t := by
  by_cases plain : Plain i
  · exact exec_next_of_plain i s plain
  · simp only [Plain, not_forall, not_not] at plain
    obtain ⟨f, rfl⟩ := plain
    rcases execRequestFrameRefused_cases f s with ⟨x, hx⟩ | hx | ⟨j, hj, hx⟩
    · exact ⟨_, hx⟩
    · exact ⟨_, hx⟩
    · obtain ⟨t, ht⟩ := exec_next_of_plain j s hj
      exact ⟨t, hx.trans ht⟩

theorem step_next (s : State) : ∃ t, step s = .next t := by
  unfold step
  split
  · exact ⟨_, rfl⟩
  · exact exec_next _ _

/-- Settles O3, by induction on the number of steps. -/
theorem partNeverStops : Obligations.PartNeverStops := by
  refine ⟨exec_next, fun k => ?_⟩
  induction k with
  | zero => exact fun s => ⟨s, rfl⟩
  | succ k ih =>
    intro s
    obtain ⟨u, hu⟩ := step_next s
    obtain ⟨t, ht⟩ := ih u
    refine ⟨t, ?_⟩
    have first : core.run (k + 1) s = core.run k u := by
      simp only [Host.Core.run, show core.step s = .next u from hu]
    exact first.trans ht

/-! ## After a part reset -/

theorem PressState.reset_lawful : PressState.reset.Lawful := by
  simp [PressState.Lawful, PressState.reset]

theorem LevelState.reset_lawful : LevelState.reset.Lawful := by
  simp [LevelState.Lawful, LevelState.reset]

/-- Settles O4: nothing stands in the machine right after reset. -/
theorem resetIsLawful : Obligations.ResetIsLawful := by
  obtain ⟨service, requests⟩ := callsLaw_iff.1 (CallsLaw.of_empty (t := State.reset) rfl)
  have queues : QueueLaw State.reset.cues := fun k => by simp [State.reset, CueGenerator.reset]
  refine ⟨assignmentLaw_reset, fun i => ?_, service, requests, fun t ht => ?_, fun c l hw => ?_, gateLaw_of fun c => ?_, queues,
    fun i => ?_, by decide⟩
  · simpa only [State.reset, look_replicate] using PressState.reset_lawful
  · cases ht
  · cases l <;> simp [State.reset, HoldUnit.reset, HoldFlags.reset, HoldFlags.wait] at hw
  · have unwalked : State.reset.table.walkingSlot c = none := walkingSlot_eq_none.2 fun ⟨i, r, hr, _⟩ => by
      have empty := hr.1
      simp [State.reset, CallTable.reset] at empty
    have closed : State.reset.gateCondition c = false := by simp [State.gateCondition, unwalked]
    rw [closed]
    simp [State.reset, CueGenerator.reset]
  · simpa only [State.reset, look_replicate] using LevelState.reset_lawful

/-- Sensing one line (R103, R105). -/
theorem State.activateSensed_look (s : State) (l : HoldLine) (c : Crossing) :
    look (if lineActive s.store s.holds l then s.onHolds (HoldUnit.activate s.store l) else s).holds.flags c =
      (look s.holds.flags c).withLine l
        ((look s.holds.flags c).flag l ||
          (lineActive s.store s.holds l && ((s.store.crossing c).enabled && (s.store.crossing c).responds l)))
        ((look s.holds.flags c).wait l && !lineActive s.store s.holds l) := by
  cases active : lineActive s.store s.holds l
  · cases l <;> simp [HoldFlags.withLine, HoldFlags.flag, HoldFlags.wait]
  · rw [if_pos rfl, State.onHolds_holds, HoldUnit.activate_look]
    simp

/-- The hold flags that the sensed lines leave: each ACTIVE line flags the enabled crossings that respond to it (R103, R105). -/
theorem State.senseLines_look (s : State) (c : Crossing) (unflagged : look s.holds.flags c = HoldFlags.reset)
    (on : (s.store.crossing c).enabled = true) (a : (s.store.crossing c).respondsA = true) (b : (s.store.crossing c).respondsB = true) :
    look s.senseLines.holds.flags c =
      { a := lineActive s.store s.holds .a, b := lineActive s.store s.holds .b, s := false, waitA := false, waitB := false } := by
  have first := s.activateSensed_look .a c
  generalize hu : (if lineActive s.store s.holds .a then s.onHolds (HoldUnit.activate s.store .a) else s) = u at first
  have store : u.store = s.store := by
    rw [← hu]
    split <;> simp
  have active : lineActive s.store u.holds .b = lineActive s.store s.holds .b := by
    rw [← hu]
    split <;> simp [lineActive]
  have whole : s.senseLines = if lineActive u.store u.holds .b then u.onHolds (HoldUnit.activate u.store .b) else u := by
    rw [← hu]
    rfl
  rw [whole, State.activateSensed_look, store, active, first, unflagged]
  simp [HoldFlags.withLine, HoldFlags.flag, HoldFlags.wait, HoldFlags.reset, CrossingProfile.responds, on, a, b]

/-- The part at its reset values, before the hold lines are sensed (R1, R103). -/
def State.cleared (s : State) : State :=
  { State.reset with
    aspects := mapAll (fun c _ => AspectState.reset (look s.aspects c).w (look s.aspects c).d) s.aspects
    holds := HoldUnit.reset s.holds.levelA s.holds.levelB
    pending := s.pending }

theorem State.partReset_eq (s : State) : s.partReset = s.cleared.senseLines := rfl

theorem State.senseLines_holds (s : State) : s.senseLines.holds = { s.holds with flags := s.senseLines.holds.flags } := by
  unfold State.senseLines
  dsimp only
  split <;> split <;> simp [HoldUnit.activate]

/-- Settles O5. -/
theorem partReset : Obligations.PartReset := by
  intro s
  have flags : ∀ c, look s.partReset.holds.flags c =
      { a := decide (s.holds.levelA = .low), b := decide (s.holds.levelB = .low), s := false, waitA := false, waitB := false } := by
    intro c
    rw [State.partReset_eq, State.senseLines_look]
    · simp [State.cleared, State.reset, ProfileStore.reset, lineActive, HoldUnit.sensed, HoldUnit.reset, ProfileStore.line, beq_eq_decide]
    · simp [State.cleared, HoldUnit.reset]
    all_goals simp [State.cleared, State.reset, ProfileStore.reset, ProfileStore.crossing, CrossingProfile.default]
  have units := State.senseLines_holds s.cleared
  rw [← State.partReset_eq] at units
  refine ⟨s.partReset, rfl, rfl, ?_⟩
  rw [units]
  refine ⟨?_, ?_, ?_, ?_, ?_, ?_, ?_, ?_, ?_, ?_, ?_, ?_, fun i => ⟨?_, ?_, ?_, ?_, ?_, ?_, ?_⟩, ?_, ?_, ?_, ?_, ?_, ?_, ?_, ?_, ?_, ?_, flags,
    ?_, ?_, ?_, ?_, ?_, ?_⟩
  case refine_19 => simpa [State.partReset_eq, State.cleared, State.reset] using PressState.reset_lawful
  all_goals
    simp [State.partReset_eq, State.cleared, State.reset, ProfileStore.reset, BusController.reset, CallTable.reset, HoldUnit.reset,
      CueGenerator.reset, PressState.reset]

/-! ## Tables of the specification -/

/-- Settles O23: the rows of the table, one by one. -/
theorem permittedSequence : Obligations.PermittedSequence := by
  intro granted recallOk darkOk
  refine ⟨?_, ?_, fun a _ => rfl, rfl, rfl, rfl, rfl, rfl, rfl, rfl, ?_, fun a => rfl, ?_⟩
  · rintro a (rfl | rfl) <;> rfl
  · cases recallOk <;> rfl
  · rintro a (rfl | rfl) <;> rfl
  · intro a
    cases a <;> rfl

/-- Settles O47. -/
theorem capabilityResolution : Obligations.CapabilityResolution := by
  intro p o
  refine ⟨by simp [resolve], by simp [resolve], by simp [resolve], by simp [resolve], ?_, ?_, ?_⟩
  · simp only [resolve]
    split <;> simp_all
  · simp [resolve]
  · cases info : p.infoMessage <;> simp [resolve, info]
    tauto

end Sys2Proof.Machine

/-! The part's own clock (log 1): what one millisecond adds, and which events then fall due. -/

namespace Sys2Proof.Machine

/-! ## The events that fall due, each once -/

/-- The place of a command's kind in the order in which events fall due (log 3). -/
def dueRank (i : Instr) : Nat :=
  match i with
  | .streetTimeTick => 0
  | .missedSlot => 1
  | .steadyTimeReached _ _ _ => 2
  | .undecodableLimit _ => 3
  | .grantWindowExpiry _ => 4
  | .softwareHoldExpiry => 5
  | .gapEnd _ => 6
  | .playLimit _ => 7
  | .samplePoint _ => 8
  | .periodStart _ => 9
  | .frameStart => 10
  | .stationSlot _ => 10
  | _ => 11

/-- Commands of kinds before place n, each once. -/
def RankedBelow (n : Nat) (l : List Instr) : Prop := l.Nodup ∧ ∀ i ∈ l, dueRank i < n

theorem RankedBelow.append {n : Nat} {l m : List Instr} (h : RankedBelow n l) (once : m.Nodup) (kind : ∀ i ∈ m, dueRank i = n) :
    RankedBelow (n + 1) (l ++ m) := by
  obtain ⟨nodup, below⟩ := h
  refine ⟨List.nodup_append.2 ⟨nodup, once, fun i hi j hj same => ?_⟩, fun i hi => ?_⟩
  · have low := below i hi
    rw [same, kind j hj] at low
    exact lt_irrefl _ low
  · rcases List.mem_append.1 hi with old | new
    · exact (below i old).trans (Nat.lt_succ_self n)
    · rw [kind i new]
      exact Nat.lt_succ_self n

@[simp] theorem mem_dueIf {b : Bool} {i j : Instr} : j ∈ dueIf b i ↔ b = true ∧ j = i := by
  cases b <;> simp [dueIf]

theorem dueIf_nodup (b : Bool) (i : Instr) : (dueIf b i).Nodup := by cases b <;> simp [dueIf]

theorem dueIf_sublist (b : Bool) (i : Instr) : (dueIf b i).Sublist [i] := by cases b <;> simp [dueIf]

theorem State.dueSteady_nodup (s : State) (c : Crossing) : (s.dueSteady c).Nodup := by
  have marks : ([.steadyTimeReached c .walk .settle, .steadyTimeReached c .dontWalk .settle, .steadyTimeReached c .walk .flashLoss,
      .steadyTimeReached c .dontWalk .flashLoss] : List Instr).Nodup := by simp
  exact marks.sublist ((((dueIf_sublist _ _).append (dueIf_sublist _ _)).append (dueIf_sublist _ _)).append (dueIf_sublist _ _))

theorem State.mem_dueSteady {s : State} {c : Crossing} {i : Instr} :
    i ∈ s.dueSteady c ↔ ∃ l m, i = .steadyTimeReached c l m ∧
      (if l = .walk then (look s.aspects c).wSteady else (look s.aspects c).dSteady) =
        if m = .settle then (s.store.crossing c).settle else 1500 := by
  simp only [State.dueSteady, List.mem_append, mem_dueIf, beq_iff_eq, Config.flashLoss]
  constructor
  · rintro (((⟨at_, rfl⟩ | ⟨at_, rfl⟩) | ⟨at_, rfl⟩) | ⟨at_, rfl⟩)
    · exact ⟨.walk, .settle, rfl, by simpa using at_⟩
    · exact ⟨.dontWalk, .settle, rfl, by simpa using at_⟩
    · exact ⟨.walk, .flashLoss, rfl, by simpa using at_⟩
    · exact ⟨.dontWalk, .flashLoss, rfl, by simpa using at_⟩
  · rintro ⟨l, m, rfl, at_⟩
    cases l <;> cases m <;> simpa using at_

theorem BusController.dueSlot_nodup (b : BusController) : b.dueSlot.Nodup := by
  unfold BusController.dueSlot
  split
  · simp
  · split
    · split <;> simp
    · simp

theorem BusController.frameOver_iff {b : BusController} : b.frameOver = true ↔ 2 * (b.frameLength + 1) ≤ b.frameTime := by
  rw [BusController.frameOver, decide_eq_true_eq, Config.slotTime, Nat.mul_comm]

theorem BusController.mem_dueSlot {b : BusController} {i : Instr} :
    i ∈ b.dueSlot ↔ (i = .frameStart ∧ 2 * (b.frameLength + 1) ≤ b.frameTime) ∨
      ∃ j : Station, i = .stationSlot j ∧ b.frameTime < 2 * (b.frameLength + 1) ∧ b.frameTime = 2 * (j.val + 1) := by
  unfold BusController.dueSlot
  by_cases past : b.frameOver = true
  · have full := BusController.frameOver_iff.1 past
    rw [if_pos past, List.mem_singleton]
    constructor
    · exact fun h => .inl ⟨h, full⟩
    · rintro (⟨h, -⟩ | ⟨j, -, within, -⟩)
      · exact h
      · exact absurd full (not_le.2 within)
  · have within := not_le.1 fun full => past (BusController.frameOver_iff.2 full)
    rw [if_neg past]
    by_cases even : b.atBoundary = true
    · have boundary : b.frameTime % 2 = 0 := by simpa [BusController.atBoundary, Config.slotTime] using even
      rw [if_pos even]
      by_cases slot : 1 ≤ b.frameTime / Config.slotTime ∧ b.frameTime / Config.slotTime - 1 < 48
      · rw [dif_pos slot, List.mem_singleton]
        have first : 1 ≤ b.frameTime / 2 := slot.1
        constructor
        · refine fun h => .inr ⟨_, h, within, ?_⟩
          simp only [Config.slotTime]
          omega
        · rintro (⟨-, full⟩ | ⟨j, rfl, -, at_⟩)
          · exact absurd full (not_le.2 within)
          · congr 1
            ext
            simp only [Config.slotTime]
            omega
      · rw [dif_neg slot]
        simp only [Config.slotTime] at slot
        simp only [List.not_mem_nil, false_iff, not_or, not_and, not_exists]
        exact ⟨fun _ => not_le.2 within, fun j _ _ at_ => slot ⟨by omega, by have := j.isLt; omega⟩⟩
    · have odd : b.frameTime % 2 ≠ 0 := by simpa [BusController.atBoundary, Config.slotTime] using even
      rw [if_neg even]
      simp only [List.not_mem_nil, false_iff, not_or, not_and, not_exists]
      exact ⟨fun _ => not_le.2 within, fun j _ _ at_ => odd (by omega)⟩

theorem RankedBelow.appendIf {n : Nat} {l : List Instr} (h : RankedBelow n l) {b : Bool} {i : Instr} (kind : dueRank i = n) :
    RankedBelow (n + 1) (l ++ dueIf b i) :=
  h.append (dueIf_nodup b i) fun j hj => by rw [(mem_dueIf.1 hj).2, kind]

theorem RankedBelow.appendMembers {n m : Nat} {l : List Instr} (h : RankedBelow n l) {p : Fin m → Bool} {f : Fin m → Instr}
    (inj : ∀ {i j}, f i = f j → i = j) (kind : ∀ i, dueRank (f i) = n) : RankedBelow (n + 1) (l ++ (members p).map f) :=
  h.append ((members_nodup p).map fun _ _ same => inj same) fun j hj => by
    obtain ⟨i, -, rfl⟩ := List.mem_map.1 hj
    exact kind i

theorem State.dueSteadies_nodup (s : State) : ((List.finRange 24).flatMap fun c => s.dueSteady c).Nodup := by
  refine List.nodup_flatMap.2 ⟨fun c _ => s.dueSteady_nodup c, (List.nodup_finRange 24).imp fun ne i hi hj => ?_⟩
  obtain ⟨l, m, rfl, -⟩ := State.mem_dueSteady.1 hi
  obtain ⟨l', m', same, -⟩ := State.mem_dueSteady.1 hj
  injection same with hc
  exact ne hc

theorem State.due_nodup (s : State) : s.due.Nodup := by
  have none_yet : RankedBelow 0 [] := ⟨List.nodup_nil, by simp⟩
  have steadies : ∀ i ∈ (List.finRange 24).flatMap fun c => s.dueSteady c, dueRank i = 2 := fun i hi => by
    obtain ⟨c, -, hc⟩ := List.mem_flatMap.1 hi
    obtain ⟨l, m, rfl, -⟩ := State.mem_dueSteady.1 hc
    rfl
  have slots : ∀ i ∈ s.bus.dueSlot, dueRank i = 10 := fun i hi => by
    rcases BusController.mem_dueSlot.1 hi with ⟨rfl, -⟩ | ⟨j, rfl, -⟩ <;> rfl
  have ticks := ((none_yet.appendIf (b := s.subTime == 0) (i := .streetTimeTick) rfl).appendIf
    (b := s.bus.atBoundary && s.bus.slotOpen) (i := .missedSlot) rfl).append
    s.dueSteadies_nodup steadies
  have calls := ((ticks.appendMembers (p := fun c => (look s.aspects c).atLimit) Instr.undecodableLimit.inj fun _ => rfl).appendMembers
    (p := fun c => s.windowOut c) Instr.grantWindowExpiry.inj fun _ => rfl).appendIf
    (b := s.holds.timer == some 0) (i := .softwareHoldExpiry) rfl
  have speech := (calls.appendMembers (p := fun k => (look s.cues.speech k).channel.gapOut) Instr.gapEnd.inj fun _ => rfl).appendMembers
    (p := fun k => (look s.cues.speech k).channel.limitOut) Instr.playLimit.inj fun _ => rfl
  have corners := (speech.appendMembers (p := fun k => (look s.cues.corners k).atSample) Instr.samplePoint.inj fun _ => rfl).appendMembers
    (p := fun k => decide ((look s.cues.corners k).period ≤ (look s.cues.corners k).elapsed)) Instr.periodStart.inj fun _ => rfl
  exact (corners.append s.bus.dueSlot_nodup slots).1

/-- The commands of the events that can fall due. -/
def FallsDue (i : Instr) : Prop :=
  i = .streetTimeTick ∨ i = .missedSlot ∨ (∃ c l m, i = .steadyTimeReached c l m) ∨
    (∃ c, i = .undecodableLimit c ∨ i = .grantWindowExpiry c) ∨ i = .softwareHoldExpiry ∨
    (∃ k, i = .gapEnd k ∨ i = .playLimit k ∨ i = .samplePoint k ∨ i = .periodStart k) ∨ i = .frameStart ∨ ∃ j, i = .stationSlot j

theorem State.mem_due {s : State} {i : Instr} : i ∈ s.due ↔
    (s.subTime = 0 ∧ i = .streetTimeTick) ∨ ((s.bus.atBoundary = true ∧ s.bus.slotOpen = true) ∧ i = .missedSlot) ∨
      (∃ c, i ∈ s.dueSteady c) ∨ (∃ c, (look s.aspects c).atLimit = true ∧ .undecodableLimit c = i) ∨
      (∃ c, s.windowOut c = true ∧ .grantWindowExpiry c = i) ∨ (s.holds.timer = some 0 ∧ i = .softwareHoldExpiry) ∨
      (∃ k, (look s.cues.speech k).channel.gapOut = true ∧ .gapEnd k = i) ∨
      (∃ k, (look s.cues.speech k).channel.limitOut = true ∧ .playLimit k = i) ∨
      (∃ k, (look s.cues.corners k).atSample = true ∧ .samplePoint k = i) ∨
      (∃ k, (look s.cues.corners k).period ≤ (look s.cues.corners k).elapsed ∧ .periodStart k = i) ∨ i ∈ s.bus.dueSlot := by
  simp only [State.due, List.mem_append, mem_dueIf, List.mem_flatMap, List.mem_finRange, true_and, List.mem_map, mem_members, beq_iff_eq,
    Bool.and_eq_true, decide_eq_true_eq, or_assoc]

theorem State.due_kinds {s : State} {i : Instr} (h : i ∈ s.due) : FallsDue i := by
  unfold FallsDue
  rcases State.mem_due.1 h with ⟨-, rfl⟩ | ⟨-, rfl⟩ | ⟨c, steady⟩ | ⟨c, -, rfl⟩ | ⟨c, -, rfl⟩ | ⟨-, rfl⟩ | ⟨k, -, rfl⟩ | ⟨k, -, rfl⟩ |
    ⟨k, -, rfl⟩ | ⟨k, -, rfl⟩ | slot
  case inr.inr.inl =>
    obtain ⟨l, m, rfl, -⟩ := State.mem_dueSteady.1 steady
    simp
  case inr.inr.inr.inr.inr.inr.inr.inr.inr.inr => rcases BusController.mem_dueSlot.1 slot with ⟨rfl, -⟩ | ⟨j, rfl, -⟩ <;> simp
  all_goals simp

section Due

variable {s : State}

theorem State.due_streetTimeTick : Instr.streetTimeTick ∈ s.due ↔ s.subTime = 0 := by
  simp [State.mem_due, State.mem_dueSteady, BusController.mem_dueSlot]

theorem State.due_missedSlot :
    Instr.missedSlot ∈ s.due ↔ s.bus.frameTime % 2 = 0 ∧ ∃ x, s.bus.slot = some x ∧ x.settled = false := by
  have slot : s.bus.slotOpen = true ↔ ∃ x, s.bus.slot = some x ∧ x.settled = false := by
    cases h : s.bus.slot <;> simp [BusController.slotOpen, h]
  simp [State.mem_due, State.mem_dueSteady, BusController.mem_dueSlot, slot, BusController.atBoundary, Config.slotTime]

theorem State.due_steadyTimeReached (c : Crossing) (l : LampLine) (m : SteadyMark) : Instr.steadyTimeReached c l m ∈ s.due ↔
    (if l = .walk then (look s.aspects c).wSteady else (look s.aspects c).dSteady) =
      if m = .settle then (s.store.crossing c).settle else 1500 := by
  simp [State.mem_due, State.mem_dueSteady, BusController.mem_dueSlot]

theorem State.due_undecodableLimit (c : Crossing) : Instr.undecodableLimit c ∈ s.due ↔
    ∃ m, (look s.aspects c).undecodable = some m ∧ 3000 ≤ m.time ∧ m.acted = false := by
  have limit : (look s.aspects c).atLimit = true ↔ ∃ m, (look s.aspects c).undecodable = some m ∧ 3000 ≤ m.time ∧ m.acted = false := by
    cases h : (look s.aspects c).undecodable <;> simp [AspectState.atLimit, h]
    simp [Config.undecodableLimit]
  simp [State.mem_due, State.mem_dueSteady, BusController.mem_dueSlot, limit]

theorem State.due_grantWindowExpiry (c : Crossing) : Instr.grantWindowExpiry c ∈ s.due ↔
    ∃ i r, look s.table.records i = some r ∧ r.crossing = c ∧ r.state = .granted 0 := by
  simp [State.mem_due, State.mem_dueSteady, BusController.mem_dueSlot, State.windowOut, recordIs_iff]

theorem State.due_softwareHoldExpiry : Instr.softwareHoldExpiry ∈ s.due ↔ s.holds.timer = some 0 := by
  simp [State.mem_due, State.mem_dueSteady, BusController.mem_dueSlot]

theorem State.due_gapEnd (k : Corner) : Instr.gapEnd k ∈ s.due ↔ (look s.cues.speech k).channel = .gap 0 := by
  have out : (look s.cues.speech k).channel.gapOut = true ↔ (look s.cues.speech k).channel = .gap 0 := by
    cases h : (look s.cues.speech k).channel <;> simp [Channel.gapOut]
  simp [State.mem_due, State.mem_dueSteady, BusController.mem_dueSlot, out]

theorem State.due_playLimit (k : Corner) : Instr.playLimit k ∈ s.due ↔
    ∃ e since n, (look s.cues.speech k).channel = .playing e since n ∧ 20000 ≤ since := by
  have out : (look s.cues.speech k).channel.limitOut = true ↔
      ∃ e since n, (look s.cues.speech k).channel = .playing e since n ∧ 20000 ≤ since := by
    cases h : (look s.cues.speech k).channel <;> simp [Channel.limitOut]
    simp [Config.playLimit]
  simp [State.mem_due, State.mem_dueSteady, BusController.mem_dueSlot, out]

theorem State.due_samplePoint (k : Corner) : Instr.samplePoint k ∈ s.due ↔
    (look s.cues.corners k).samplePassed = false ∧ (look s.cues.corners k).offset ≤ (look s.cues.corners k).elapsed := by
  simp [State.mem_due, State.mem_dueSteady, BusController.mem_dueSlot, CornerPhase.atSample]

theorem State.due_periodStart (k : Corner) : Instr.periodStart k ∈ s.due ↔
    (look s.cues.corners k).period ≤ (look s.cues.corners k).elapsed := by
  simp [State.mem_due, State.mem_dueSteady, BusController.mem_dueSlot]

theorem State.due_frameStart : Instr.frameStart ∈ s.due ↔ 2 * (s.bus.frameLength + 1) ≤ s.bus.frameTime := by
  simp [State.mem_due, State.mem_dueSteady, BusController.mem_dueSlot]

theorem State.due_stationSlot (j : Station) : Instr.stationSlot j ∈ s.due ↔
    s.bus.frameTime < 2 * (s.bus.frameLength + 1) ∧ s.bus.frameTime = 2 * (j.val + 1) := by
  simp [State.mem_due, State.mem_dueSteady, BusController.mem_dueSlot]

end Due

/-! ## The idle step -/

/-- What a millisecond does to a record: a grant window runs down (R69). -/
theorem State.passTime_record (s : State) (i : RecordSlot) :
    look s.passTime.table.records i = (look s.table.records i).map fun r => { r with state := r.state.passTime } := by
  simp only [State.passTime, look_mapAll]

theorem CallState.passTime_eq {x : CallState} (h : x.isGranted = false) : x.passTime = x := by
  cases x <;> simp_all [CallState.passTime, CallState.isGranted]

theorem State.passTime_speech (s : State) (k : Corner) : look s.passTime.cues.speech k =
    { look s.cues.speech k with channel := (look s.cues.speech k).channel.passTime, limitLapsed := false } := by
  simp only [State.passTime, CueGenerator.passTime, look_mapAll]

/-- Settles O2: each measure by its own equation, and each event by what puts it in the list of those that fall due. -/
theorem idleStepAndStreetTimeTick : Obligations.IdleStepAndStreetTimeTick := by
  refine ⟨fun s => ⟨_, rfl, rfl, ?_⟩, fun s idle => ⟨fun first => ?_, fun later => ⟨{ s.passTime with pending := s.passTime.due }, ?_⟩⟩⟩
  · simp [BitVec.toNat_add]
  · simp only [step, idle, State.idle, first, if_true]
  · refine ⟨?_, rfl, ?_, ?_, ?_, ?_, ?_, s.passTime.due_nodup, fun i hi => State.due_kinds hi, State.due_streetTimeTick, State.due_missedSlot,
      State.due_steadyTimeReached, State.due_undecodableLimit, State.due_grantWindowExpiry, State.due_softwareHoldExpiry, State.due_gapEnd,
      State.due_playLimit, State.due_samplePoint, State.due_periodStart, State.due_frameStart, State.due_stationSlot⟩
    · simp only [step, idle, State.idle, later]
      rfl
    · intro i none_here
      simp only [State.passTime_record, none_here, Option.map_none]
    · intro i r hr
      refine ⟨fun n state => ?_, fun not_granted => ?_⟩
      · simp only [State.passTime_record, hr, Option.map_some, state, CallState.passTime]
      · simp only [State.passTime_record, hr, Option.map_some, CallState.passTime_eq not_granted]
    · intro c
      simp only [State.passTime, look_mapAll, AspectState.passTime]
    · intro k
      simp only [State.passTime, CueGenerator.passTime, look_mapAll]
    · intro k
      simp only [State.passTime_speech]
      refine ⟨trivial, trivial, fun h => ?_, fun e since n h => ?_, fun n h => ?_⟩ <;> rw [h] <;> rfl

end Sys2Proof.Machine

/-! The control link: what a select shifts out, the checks of a frame, and the numbers and codes out of range. -/

namespace Sys2Proof.Machine

/-! ## Selects -/

theorem Response.shiftOut_length (r : Response) (n : Nat) : (r.shiftOut n).length = n := by
  simp [Response.shiftOut]

/-- The bytes of a response, then 0. -/
theorem Response.shiftOut_getD (r : Response) {n j : Nat} (h : j < n) : (r.shiftOut n).getD j 0 = r.bytes.getD j 0 := by
  simp only [Response.shiftOut, List.getD_eq_getElem?_getD, List.getElem?_take_of_lt h, List.getElem?_append]
  split
  · rfl
  next past =>
    rw [List.getElem?_eq_none (not_lt.1 past), List.getElem?_replicate]
    split <;> rfl

theorem Response.bytes_getD (r : Response) (j : Nat) : r.bytes.getD j 0 =
    if j = 0 then byte r.status.code
    else if j = 1 then byte (r.fields.length / 256)
    else if j = 2 then byte r.fields.length
    else r.fields.getD (j - 3) 0 := by
  match j with
  | 0 => rfl
  | 1 => rfl
  | 2 => rfl
  | j + 3 => rfl

/-! ## Frames -/

theorem fieldLength_none {k : Nat} (h : 19 ≤ k) : fieldLength k = none := by
  unfold fieldLength
  split
  case h_20 => rfl
  all_goals omega

theorem fieldLength_isSome {k : Nat} (h : k < 19) : (fieldLength k).isSome = true := by
  have each : ∀ k < 19, (fieldLength k).isSome = true := by decide
  exact each k h

/-- A kind whose fields spell requests only, which are dealt with as `exec` deals with them. -/
def SpellsRequest (kind : Nat) : Prop := ∀ fields i, decodeFields kind fields = some i → ∀ s, dealRequest i s = exec i s

/-- Field bytes spell a request where their number is the kind's. -/
theorem spellsRequest (kind : Nat) : SpellsRequest kind := by
  intro fields i h s
  match kind with
  | 0 | 1 | 2 | 17 | 18 =>
    rcases fields with _ | _
    · cases h
      rfl
    · cases h
  | 3 | 4 | 5 | 6 | 9 | 11 | 12 =>
    rcases fields with _ | ⟨_, fields⟩
    · cases h
    rcases fields with _ | _
    · cases h
      rfl
    · cases h
  | 7 | 8 =>
    iterate 2
      rcases fields with _ | ⟨_, fields⟩
      · cases h
    rcases fields with _ | _
    · cases h
      rfl
    · cases h
  | 16 =>
    iterate 5
      rcases fields with _ | ⟨_, fields⟩
      · cases h
    rcases fields with _ | _
    · cases h
      rfl
    · cases h
  | 10 =>
    iterate 6
      rcases fields with _ | ⟨_, fields⟩
      · cases h
    rcases fields with _ | _
    · cases h
      rfl
    · cases h
  | 15 =>
    iterate 8
      rcases fields with _ | ⟨_, fields⟩
      · cases h
    rcases fields with _ | _
    · cases h
      rfl
    · cases h
  | 13 =>
    iterate 14
      rcases fields with _ | ⟨_, fields⟩
      · cases h
    rcases fields with _ | _
    · cases h
      rfl
    · cases h
  | 14 =>
    iterate 22
      rcases fields with _ | ⟨_, fields⟩
      · cases h
    rcases fields with _ | _
    · cases h
      rfl
    · cases h
  | k + 19 => cases h

theorem decodeFrame_ok {f : List Byte} {i : Instr} (h : decodeFrame f = .ok i) : ∃ kind fields, decodeFields kind fields = some i := by
  unfold decodeFrame at h
  split at h
  · split at h
    · cases h
    · split at h
      · cases h
      · split at h
        · cases h
        · split at h
          next spelled =>
            injection h with same
            exact ⟨_, _, spelled.trans (congrArg some same)⟩
          · cases h
  · cases h

theorem decodeFrame_short {f : List Byte} (h : f.length < 2) : decodeFrame f = .error .length := by
  match f with
  | [] => rfl
  | [_] => rfl
  | _ :: _ :: rest =>
    simp only [List.length_cons] at h
    omega

theorem decodeFrame_unknown {kind len : Byte} {rest : List Byte} (h : 19 ≤ kind.toNat) :
    decodeFrame (kind :: len :: rest) = .error .unknown := by
  simp only [decodeFrame, fieldLength_none h]

theorem decodeFrame_length {kind len : Byte} {rest : List Byte} {n : Nat} (known : fieldLength kind.toNat = some n)
    (h : len.toNat ≠ n ∨ rest.length < n) : decodeFrame (kind :: len :: rest) = .error .length := by
  simp only [decodeFrame, known]
  by_cases wrong : len.toNat = n
  · simp only [wrong, ne_eq, not_true_eq_false, if_false, h.resolve_left (not_not.2 wrong), if_true]
  · simp only [ne_eq, wrong, not_false_eq_true, if_true]

theorem decodeFrame_extra {kind len : Byte} {fields extra : List Byte} (full : fields.length = len.toNat)
    (known : fieldLength kind.toNat = some len.toNat) :
    decodeFrame (kind :: len :: (fields ++ extra)) = decodeFrame (kind :: len :: fields) := by
  have short : ¬ (fields ++ extra).length < len.toNat := by simp [full]
  have exact_ : ¬ fields.length < len.toNat := by simp [full]
  have whole : fields.take len.toNat = fields := List.take_of_length_le (by rw [full])
  simp only [decodeFrame, known, short, exact_, if_false, ne_eq, not_true_eq_false, List.take_left' full, whole]

theorem exec_requestFrameRefused (f : List Byte) (s : State) : exec (.requestFrameRefused f) s = execRequestFrameRefused f s := rfl

/-- Settles O6. -/
theorem selectsAndRefusedFrames : Obligations.SelectsAndRefusedFrames := by
  refine ⟨fun r n => ⟨r.shiftOut_length n, fun j hj => (r.shiftOut_getD hj).trans (r.bytes_getD j)⟩, rfl, fun s =>
    ⟨fun f short => ?_, fun kind len rest unknown => ?_, fun kind len rest n known wrong => ?_, fun kind => fieldLength_isSome,
      fun kind len fields extra full known => decodeFrame_extra full known, fun f i spelled => ?_⟩⟩
  · simp only [exec_requestFrameRefused, execRequestFrameRefused, decodeFrame_short short]
  · simp only [exec_requestFrameRefused, execRequestFrameRefused, decodeFrame_unknown unknown]
  · simp only [exec_requestFrameRefused, execRequestFrameRefused, decodeFrame_length known wrong]
  · obtain ⟨kind, fields, h⟩ := decodeFrame_ok spelled
    simp only [exec_requestFrameRefused, execRequestFrameRefused, spelled, spellsRequest kind fields i h]

/-! ## Numbers and codes -/

section Codes

variable {b : Byte}

theorem crossingOf_none (h : 24 ≤ b.toNat) : crossingOf b = none := dif_neg (not_lt.2 h)
theorem stationOf_none (h : 48 ≤ b.toNat) : stationOf b = none := dif_neg (not_lt.2 h)
theorem cornerOf_none (h : 32 ≤ b.toNat) : cornerOf b = none := dif_neg (not_lt.2 h)

theorem crossingOf_eq {c : Crossing} (h : b.toNat = c.val) : crossingOf b = some c := by
  simp [crossingOf, h]

theorem stationOf_eq {i : Station} (h : b.toNat = i.val) : stationOf b = some i := by
  simp [stationOf, h]

theorem cornerOf_eq {k : Corner} (h : b.toNat = k.val) : cornerOf b = some k := by
  simp [cornerOf, h]

theorem codeBool_none (h : 2 ≤ b.toNat) : codeBool b = none := by
  unfold codeBool
  split
  case h_3 => rfl
  all_goals omega

theorem codeWalkCue_none (h : 2 ≤ b.toNat) : codeWalkCue b = none := by
  unfold codeWalkCue
  split
  case h_3 => rfl
  all_goals omega

theorem codeIndicator_none (h : 7 ≤ b.toNat) : codeIndicator b = none := by
  unfold codeIndicator
  split
  case h_8 => rfl
  all_goals omega

theorem codeMode_none (h : 2 ≤ b.toNat) : codeMode b = none := by
  unfold codeMode
  split
  case h_3 => rfl
  all_goals omega

theorem codeLevel_none (h : 2 ≤ b.toNat) : codeLevel b = none := by
  unfold codeLevel
  split
  case h_3 => rfl
  all_goals omega

theorem codeRelease_none (h : 3 ≤ b.toNat) : codeRelease b = none := by
  unfold codeRelease
  split
  case h_4 => rfl
  all_goals omega

theorem codeLine_none (h : 2 ≤ b.toNat) : codeLine b = none := by
  unfold codeLine
  split
  case h_3 => rfl
  all_goals omega

theorem codeTarget_none (h : 2 ≤ b.toNat) : codeTarget b = none := by
  unfold codeTarget
  split
  case h_3 => rfl
  all_goals omega

theorem toNat_ne_255 (h : b ≠ 255) : b.toNat ≠ Config.emptyNumber := fun same => h (BitVec.eq_of_toNat_eq same)

theorem codeScope_none (h : 24 ≤ b.toNat) (all : b ≠ 255) : codeScope b = none := by
  rw [codeScope, if_neg (toNat_ne_255 all), crossingOf_none h, Option.map_none]

theorem codeGroup_none (h : 8 ≤ b.toNat) (empty : b ≠ 255) : codeGroup b = none := by
  rw [codeGroup, if_neg (toNat_ne_255 empty), dif_neg (not_lt.2 h)]

theorem codeMessage_none (h : 16 ≤ b.toNat) : codeMessage b = none := dif_neg (not_lt.2 h)

theorem codeInfo_none (h : 16 ≤ b.toNat) (empty : b ≠ 255) : codeInfo b = none := by
  rw [codeInfo, if_neg (toNat_ne_255 empty), codeMessage_none h, Option.map_none]

end Codes

/-- A write with an undefined code gives no profile (R178, R191). -/
theorem crossingProfileOf_none {f : CrossingFields}
    (h : 2 ≤ f.enabled.toNat ∨ (8 ≤ f.linkGroup.toNat ∧ f.linkGroup ≠ 255) ∨ 2 ≤ f.propagate.toNat ∨ 2 ≤ f.recallPermitted.toNat ∨
      2 ≤ f.darkPermitted.toNat ∨ 2 ≤ f.respondsA.toNat ∨ 2 ≤ f.respondsB.toNat) : crossingProfileOf f = none := by
  unfold crossingProfileOf
  split
  next h1 h2 h3 h4 h5 h6 h7 =>
    rcases h with h | ⟨h, empty⟩ | h | h | h | h | h
    · rw [codeBool_none h] at h1; cases h1
    · rw [codeGroup_none h empty] at h2; cases h2
    · rw [codeBool_none h] at h3; cases h3
    · rw [codeBool_none h] at h4; cases h4
    · rw [codeBool_none h] at h5; cases h5
    · rw [codeBool_none h] at h6; cases h6
    · rw [codeBool_none h] at h7; cases h7
  · rfl

theorem stationProfileOf_none {f : StationFields}
    (h : 2 ≤ f.enabled.toNat ∨ 24 ≤ f.crossing.toNat ∨ 32 ≤ f.corner.toNat ∨ 2 ≤ f.walkCue.toNat ∨ 16 ≤ f.walkMessage.toNat ∨
      (16 ≤ f.infoMessage.toNat ∧ f.infoMessage ≠ 255) ∨ 7 ≤ f.indicator.toNat ∨ 2 ≤ f.invert.toNat ∨ 2 ≤ f.blink.toNat) :
    stationProfileOf f = none := by
  unfold stationProfileOf
  split
  next h1 h2 h3 h4 h5 h6 h7 h8 h9 =>
    rcases h with h | h | h | h | h | ⟨h, empty⟩ | h | h | h
    · rw [codeBool_none h] at h1; cases h1
    · rw [crossingOf_none h] at h2; cases h2
    · rw [cornerOf_none h] at h3; cases h3
    · rw [codeWalkCue_none h] at h4; cases h4
    · rw [codeMessage_none h] at h5; cases h5
    · rw [codeInfo_none h empty] at h6; cases h6
    · rw [codeIndicator_none h] at h7; cases h7
    · rw [codeBool_none h] at h8; cases h8
    · rw [codeBool_none h] at h9; cases h9
  · rfl

theorem cornerProfileOf_none {f : CornerFields} (h : 2 ≤ f.nightLocator.toNat) : cornerProfileOf f = none := by
  simp only [cornerProfileOf, codeBool_none h]

/-! ## Refusals -/

section Refusals

variable {s : State} {n : Byte}

theorem exec_writeCrossing_range {f : CrossingFields} (h : crossingOf n = none ∨ crossingProfileOf f = none) :
    exec (.writeCrossing n f) s = .next (s.answer .range) := by
  simp only [exec, execWriteCrossing]
  split
  next number fields => rcases h with h | h <;> simp_all
  · rfl

theorem exec_writeStation_range {f : StationFields} (h : stationOf n = none ∨ stationProfileOf f = none) :
    exec (.writeStation n f) s = .next (s.answer .range) := by
  simp only [exec, execWriteStation]
  split
  next number fields => rcases h with h | h <;> simp_all
  · rfl

theorem exec_writeCorner_range {f : CornerFields} (h : cornerOf n = none ∨ cornerProfileOf f = none) :
    exec (.writeCorner n f) s = .next (s.answer .range) := by
  simp only [exec, execWriteCorner]
  split
  next number fields => rcases h with h | h <;> simp_all
  · rfl

theorem exec_cancel_range {x : Byte} (h : crossingOf n = none ∨ codeTarget x = none) :
    exec (.cancel n x) s = .next (s.answer .range) := by
  simp only [exec, execCancel]
  split
  next number target => rcases h with h | h <;> simp_all
  next number target => rcases h with h | h <;> simp_all
  · rfl

theorem exec_writeStreet_range {la ma lb mb : Byte}
    (h : codeLevel la = none ∨ codeRelease ma = none ∨ codeLevel lb = none ∨ codeRelease mb = none) :
    exec (.writeStreet la ma lb mb n) s = .next (s.answer .range) := by
  simp only [exec, execWriteStreet]
  split
  next => rcases h with h | h | h | h <;> simp_all
  · rfl

theorem exec_setHold_range {set : BitVec 32} {time : Word16} {n : Nat} (h : 24 ≤ n) (member : set.getLsbD n = true) :
    exec (.setHold set time) s = .next (s.answer .range) := by
  have large : 2 ^ 24 ≤ set.toNat :=
    (Nat.pow_le_pow_right (by decide) h).trans (Nat.ge_two_pow_of_testBit (by rwa [BitVec.testBit_toNat]))
  simp only [exec, execSetHold, if_neg (not_lt.2 large)]

end Refusals

/-- Settles O12. -/
theorem rangeRefusals : Obligations.RangeRefusals := by
  intro s
  refine ⟨fun n h all => ?_, fun n h => ⟨?_, ?_, fun w => ?_, fun x => exec_cancel_range (.inl (crossingOf_none h)),
      fun f => exec_writeCrossing_range (.inl (crossingOf_none h))⟩,
    fun n h => ⟨?_, fun f => exec_writeStation_range (.inl (stationOf_none h))⟩,
    fun n h => ⟨?_, fun f => exec_writeCorner_range (.inl (cornerOf_none h))⟩,
    fun c x h => exec_cancel_range (.inr (codeTarget_none h)), fun x h => ⟨?_, ?_⟩,
    fun set time n h member => exec_setHold_range h member,
    fun n f h => exec_writeCrossing_range (.inr (crossingProfileOf_none h)),
    fun n f h => exec_writeStation_range (.inr (stationProfileOf_none h)),
    fun n f h => exec_writeCorner_range (.inr (cornerProfileOf_none h)),
    fun la ma lb mb n h => exec_writeStreet_range (h.imp codeLevel_none (.imp codeRelease_none (.imp codeLevel_none codeRelease_none)))⟩
  · simp only [exec, execReadCalls, codeScope_none h all]
  · simp only [exec, execReadCrossing, crossingOf_none h]
  · simp only [exec, execClearFault, crossingOf_none h]
  · simp only [exec, execGrant, crossingOf_none h]
  · simp only [exec, execReadStation, stationOf_none h]
  · simp only [exec, execReadCorner, cornerOf_none h]
  · simp only [exec, execReleaseLineHold, codeLine_none h]
  · simp only [exec, execSetStreetMode, codeMode_none h]

end Sys2Proof.Machine

/-! Byte layouts read back: numbers in one or more bytes, bits, sets as bit maps, and the profiles' blocks (R191, R192). -/

namespace Sys2Proof.Machine

/-! ## Bytes of a list -/

@[simp] theorem byte_toNat (n : Nat) : (byte n).toNat = n % 256 := by simp [byte]

theorem byte_toNat_of_lt {n : Nat} (h : n < 256) : (byte n).toNat = n := by rw [byte_toNat, Nat.mod_eq_of_lt h]

@[simp] theorem bit_eq (b : Bool) : bit b = b.toNat := by cases b <;> rfl

theorem byte_getLsbD (n j : Nat) : (byte n).getLsbD j = (decide (j < 8) && n.testBit j) := by simp [byte, BitVec.getLsbD_ofNat]

/-- Where the bytes asked for lie in the first part of a block. -/
theorem bytesAt_left {l m : List Byte} {a n : Nat} (h : a + n ≤ l.length) : bytesAt (l ++ m) a n = bytesAt l a n := by
  unfold bytesAt
  rw [List.drop_append_of_le_length (by omega), List.take_append_of_le_length (by rw [List.length_drop]; omega)]

/-- Where they lie in what follows the first part. -/
@[simp] theorem bytesAt_right (l m : List Byte) (b n : Nat) : bytesAt (l ++ m) (l.length + b) n = bytesAt m b n := by
  simp [bytesAt, List.drop_append, List.drop_eq_nil_of_le]

@[simp] theorem bytesAt_right_zero (l m : List Byte) (n : Nat) : bytesAt (l ++ m) l.length n = bytesAt m 0 n := bytesAt_right l m 0 n

@[simp] theorem bytesAt_bytes2 (n : Nat) : bytesAt (bytes2 n) 0 2 = n % 65536 := by
  simp only [bytesAt, bytes2, List.drop_zero, List.take_succ_cons, List.take_zero, List.foldl_cons, List.foldl_nil, byte_toNat]
  omega

@[simp] theorem bytesAt_bytes3 (n : Nat) : bytesAt (bytes3 n) 0 3 = n % 16777216 := by
  simp only [bytesAt, bytes3, List.drop_zero, List.take_succ_cons, List.take_zero, List.foldl_cons, List.foldl_nil, byte_toNat]
  omega

@[simp] theorem bytes2_length (n : Nat) : (bytes2 n).length = 2 := rfl
@[simp] theorem bytes3_length (n : Nat) : (bytes3 n).length = 3 := rfl
@[simp] theorem bytes4_length (n : Nat) : (bytes4 n).length = 4 := rfl
@[simp] theorem bytes6_length (n : Nat) : (bytes6 n).length = 6 := rfl

/-- The byte that stands before a rest of a block, and what lies behind it. -/
@[simp] theorem bytesAt_cons_zero (b : Byte) (l : List Byte) : bytesAt (b :: l) 0 1 = b.toNat := by simp [bytesAt]

@[simp] theorem bytesAt_cons_succ (b : Byte) (l : List Byte) (a n : Nat) : bytesAt (b :: l) (a + 1) n = bytesAt l a n := by
  simp [bytesAt]

/-- A two-byte field that stands before a rest of a block, and what lies behind it. -/
@[simp] theorem bytesAt_bytes2_append (n : Nat) (l : List Byte) : bytesAt (bytes2 n ++ l) 0 2 = n % 65536 := by
  rw [bytesAt_left (by simp), bytesAt_bytes2]

@[simp] theorem bytesAt_bytes2_append_succ (n a k : Nat) (l : List Byte) : bytesAt (bytes2 n ++ l) (a + 2) k = bytesAt l a k := by
  rw [Nat.add_comm]
  exact bytesAt_right (bytes2 n) l a k

@[simp] theorem bytesAt_bytes3_append (n : Nat) (l : List Byte) : bytesAt (bytes3 n ++ l) 0 3 = n % 16777216 := by
  rw [bytesAt_left (by simp), bytesAt_bytes3]

@[simp] theorem bytesAt_bytes3_append_succ (n a k : Nat) (l : List Byte) : bytesAt (bytes3 n ++ l) (a + 3) k = bytesAt l a k := by
  rw [Nat.add_comm]
  exact bytesAt_right (bytes3 n) l a k

/-! ## Sets as bit maps -/

theorem bitMap_eq_sum {n : Nat} (p : Fin n → Bool) :
    bitMap p = ∑ j ∈ (Finset.univ.filter fun i => p i = true).map Fin.valEmbedding, 2 ^ j := by
  have sum_fold : ∀ (l : List (Fin n)) (x : Nat), l.foldl (fun sum i => sum + 2 ^ i.val) x = x + (l.map fun i => 2 ^ i.val).sum := by
    intro l
    induction l with
    | nil => exact fun x => rfl
    | cons i l ih =>
      intro x
      rw [List.foldl_cons, ih, List.map_cons, List.sum_cons, Nat.add_assoc]
  have set : (members p).toFinset = Finset.univ.filter fun i => p i = true := by
    ext i
    simp
  rw [bitMap, sum_fold, Nat.zero_add, Finset.sum_map, ← set, List.sum_toFinset _ (members_nodup p)]
  rfl

/-- Member i of a set is bit i of its map (R191). -/
theorem testBit_bitMap {n : Nat} (p : Fin n → Bool) (i : Fin n) : (bitMap p).testBit i.val = p i := by
  rw [Bool.eq_iff_iff, ← Nat.mem_bitIndices, ← List.mem_toFinset, bitMap_eq_sum, Finset.toFinset_bitIndices_sum_two_pow]
  simp [← Fin.ext_iff]

/-- Bit j of a number lies in its byte j / 8, most significant first. -/
theorem bytes4_bit (n : Nat) {j : Nat} (h : j < 32) : ((bytes4 n).getD (3 - j / 8) 0).getLsbD (j % 8) = n.testBit j := by
  have low : j % 8 < 8 := Nat.mod_lt _ (by decide)
  have shifted : ∀ k, (byte (n / 2 ^ k)).getLsbD (j % 8) = n.testBit (k + j % 8) := fun k => by
    rw [byte_getLsbD, Nat.testBit_div_two_pow, decide_eq_true low, Bool.true_and, Nat.add_comm]
  have row : j / 8 = 0 ∨ j / 8 = 1 ∨ j / 8 = 2 ∨ j / 8 = 3 := by omega
  rcases row with hr | hr | hr | hr <;> rw [hr]
  · exact (show (byte n).getLsbD (j % 8) = n.testBit j by simpa [show j % 8 = j by omega] using shifted 0)
  · exact (shifted 8).trans (congrArg n.testBit (by omega))
  · exact (shifted 16).trans (congrArg n.testBit (by omega))
  · exact (shifted 24).trans (congrArg n.testBit (by omega))

theorem bytes6_bit (n : Nat) {j : Nat} (h : j < 48) : ((bytes6 n).getD (5 - j / 8) 0).getLsbD (j % 8) = n.testBit j := by
  have low : j % 8 < 8 := Nat.mod_lt _ (by decide)
  have shifted : ∀ k, (byte (n / 2 ^ k)).getLsbD (j % 8) = n.testBit (k + j % 8) := fun k => by
    rw [byte_getLsbD, Nat.testBit_div_two_pow, decide_eq_true low, Bool.true_and, Nat.add_comm]
  have row : j / 8 < 4 ∨ j / 8 = 4 ∨ j / 8 = 5 := by omega
  rcases row with hr | hr | hr
  · have inner : (bytes6 n).getD (5 - j / 8) 0 = (bytes4 n).getD (3 - j / 8) 0 := by
      rw [show 5 - j / 8 = (3 - j / 8) + 2 by omega]
      rfl
    rw [inner, bytes4_bit n (by omega)]
  · rw [hr]
    exact (shifted 32).trans (congrArg n.testBit (by omega))
  · rw [hr]
    exact (shifted 40).trans (congrArg n.testBit (by omega))

/-! ## Profiles -/

theorem bool_toNat_mod (b : Bool) : b.toNat % 256 = b.toNat := by cases b <;> rfl

@[simp] theorem CrossingProfile.fields_length (p : CrossingProfile) : p.fields.length = 13 := rfl
@[simp] theorem StationProfile.fields_length (p : StationProfile) : p.fields.length = 21 := rfl
@[simp] theorem CornerProfile.fields_length (p : CornerProfile) : p.fields.length = 7 := rfl

theorem Fin.val_mod_256 {n : Nat} (i : Fin n) (h : n ≤ 256) : i.val % 256 = i.val := Nat.mod_eq_of_lt (i.isLt.trans_le h)

theorem CrossingProfile.shownAt_fields (p : CrossingProfile) : p.ShownAt p.fields 0 := by
  refine ⟨?_, ?_, ?_, ?_, ?_, ?_, ?_, ?_, ?_, ?_, ?_⟩
  case refine_5 => cases group : p.linkGroup <;> simp [CrossingProfile.fields, group, Config.emptyNumber, Fin.val_mod_256]
  all_goals simp [CrossingProfile.fields, bool_toNat_mod]

theorem WalkCue.code_le (x : WalkCue) : x.code ≤ 1 := by cases x <;> decide
theorem IndicatorSource.code_le (x : IndicatorSource) : x.code ≤ 6 := by cases x <;> decide

theorem StationProfile.shownAt_fields (p : StationProfile) : p.ShownAt p.fields 0 := by
  refine ⟨?_, ?_, ?_, ?_, ?_, ?_, ?_, ?_, ?_, ?_, ?_, ?_, ?_, ?_, ?_, ?_, ?_, ?_, ?_⟩
  case refine_6 => cases info : p.infoMessage <;> simp [StationProfile.fields, info, Config.emptyNumber, Fin.val_mod_256]
  case refine_4 =>
    have := p.walkCue.code_le
    simp [StationProfile.fields]
    omega
  case refine_8 =>
    have := p.indicator.code_le
    simp [StationProfile.fields]
    omega
  case refine_7 =>
    simp only [StationProfile.fields, bits]
    simp
    have := p.wantSpeaker.toNat_le
    have := p.wantTactile.toNat_le
    have := p.wantMicrophone.toNat_le
    have := p.wantSpeech.toNat_le
    omega
  all_goals simp [StationProfile.fields, bool_toNat_mod, Fin.val_mod_256]

theorem CornerProfile.shownAt_fields (p : CornerProfile) : p.ShownAt p.fields 0 := by
  refine ⟨?_, ?_, ?_, ?_⟩ <;> simp [CornerProfile.fields, bool_toNat_mod]

/-- What shows a profile from its start shows it behind the first part of a block. -/
theorem CrossingProfile.ShownAt.append {p : CrossingProfile} {l : List Byte} (h : p.ShownAt l 0) (pre : List Byte) :
    p.ShownAt (pre ++ l) pre.length := by
  simpa [CrossingProfile.ShownAt] using h

theorem StationProfile.ShownAt.append {p : StationProfile} {l : List Byte} (h : p.ShownAt l 0) (pre : List Byte) :
    p.ShownAt (pre ++ l) pre.length := by
  simpa [StationProfile.ShownAt] using h

theorem CornerProfile.ShownAt.append {p : CornerProfile} {l : List Byte} (h : p.ShownAt l 0) (pre : List Byte) :
    p.ShownAt (pre ++ l) pre.length := by
  simpa [CornerProfile.ShownAt] using h

/-! ## Station sets and speech entries -/

/-- Four places in 6 bits each (R191). -/
theorem placesShow_placesFields (set : List Station) : PlacesShow set (bytesAt (placesFields set) 0 3) := by
  have each : ∀ n, place set n < 64 := fun n => by
    unfold place
    split
    next i _ => exact i.isLt.trans (by decide)
    · decide
  have shown : ∀ n, place set n = match set[n]? with | some i => i.val | none => 63 := fun n => by
    unfold place
    cases set[n]? <;> rfl
  intro j hj
  rw [placesFields, bytesAt_bytes3]
  have h0 := each 0
  have h1 := each 1
  have h2 := each 2
  have h3 := each 3
  refine Eq.trans ?_ (shown j)
  match j, hj with
  | 0, _ => omega
  | 1, _ => omega
  | 2, _ => omega
  | 3, _ => omega

@[simp] theorem placesFields_length (set : List Station) : (placesFields set).length = 3 := rfl

theorem SpeechKind.code_le (x : SpeechKind) : x.code ≤ 1 := by cases x <;> decide

theorem speechShown_entryFields (e : Option SpeechEntry) : SpeechShown e (entryFields e) 0 := by
  cases e with
  | none => exact ⟨rfl, rfl, rfl⟩
  | some e =>
    have := e.kind.code_le
    refine ⟨?_, ?_, ?_⟩
    · simp [entryFields, Fin.val_mod_256]
    · simp [entryFields, Fin.val_mod_256]
    · simp [entryFields]
      omega

@[simp] theorem entryFields_length (e : Option SpeechEntry) : (entryFields e).length = 3 := by cases e <;> rfl

end Sys2Proof.Machine

/-! The reads (R180 to R185): the bytes that they answer, in their layout, and what they clear. -/

namespace Sys2Proof.Machine

/-! ## READ SUMMARY -/

section Summary

variable (s : State)

theorem State.summary_crossings {j : Nat} (h : j < 4) : s.summaryFields.getD (2 + j) 0 =
    (bytes4 (bitMap fun c : Crossing => s.crossingNotice c)).getD j 0 := by
  match j with
  | 0 | 1 | 2 | 3 => rfl

theorem State.summary_memos {j : Nat} (h : j < 4) : s.summaryFields.getD (6 + j) 0 =
    (bytes4 (bitMap fun c : Crossing => (look s.table.memos c).isSome)).getD j 0 := by
  match j with
  | 0 | 1 | 2 | 3 => rfl

theorem State.summary_stations {j : Nat} (h : j < 6) : s.summaryFields.getD (10 + j) 0 =
    (bytes6 (bitMap fun i : Station => s.stationNotice i)).getD j 0 := by
  match j with
  | 0 | 1 | 2 | 3 | 4 | 5 => rfl

theorem ReleaseMode.code_le (x : ReleaseMode) : x.code ≤ 2 := by cases x <;> decide

theorem testBit_iff (n i : Nat) : n.testBit i = decide (n / 2 ^ i % 2 = 1) := Nat.testBit_eq_decide_div_mod_eq

/-- A line's byte, bit by bit (R193). -/
theorem State.lineByte_shows (l : HoldLine) :
    (s.lineByte l).getLsbD 7 = lineActive s.store s.holds l ∧ (s.lineByte l).toNat / 32 % 4 = (s.store.line l).releaseMode.code ∧
      (s.lineByte l).getLsbD 4 = s.holds.anyFlag l ∧ (s.lineByte l).toNat % 16 = 0 := by
  have mode := (s.store.line l).releaseMode.code_le
  unfold State.lineByte
  generalize (s.store.line l).releaseMode.code = m at mode ⊢
  generalize lineActive s.store s.holds l = a
  generalize s.holds.anyFlag l = f
  simp only [byte_getLsbD, byte_toNat, bit_eq, testBit_iff]
  cases a <;> cases f <;> interval_cases m <;> decide

/-- Seconds of the timer in two bytes; the law of the timer keeps them within these (R114, R193). -/
theorem State.summary_seconds (h : TimerLaw s.holds) :
    (s.summaryFields.getD 18 0).toNat * 256 + (s.summaryFields.getD 19 0).toNat = s.holds.timer.getD 0 / 1000 := by
  have bound : s.holds.timer.getD 0 ≤ 3600 * 1000 := by
    cases timer : s.holds.timer with
    | none => simp
    | some t => exact h t timer
  have bytes : s.summaryFields.getD 18 0 = byte (s.holds.secondsLeft / 256) ∧ s.summaryFields.getD 19 0 = byte s.holds.secondsLeft := ⟨rfl, rfl⟩
  rw [bytes.1, bytes.2, byte_toNat, byte_toNat, HoldUnit.secondsLeft]
  omega

theorem countWhere_pos {n : Nat} {p : Fin n → Bool} : 0 < countWhere p ↔ ∃ i, p i = true := by
  simp [countWhere, List.length_pos_iff_exists_mem]

theorem State.unseen_pos : 0 < s.table.unseen ↔ ∃ i r, look s.table.records i = some r ∧ r.seen = false := by
  rw [CallTable.unseen, countWhere_pos]
  refine exists_congr fun i => ?_
  cases look s.table.records i <;> simp

theorem HoldUnit.anyFlag_iff (h : HoldUnit) (l : HoldLine) : h.anyFlag l = true ↔ ∃ c, (look h.flags c).flag l = true := anyWhere_iff

end Summary

/-- Settles O8. -/
theorem readSummaryAndAttention : Obligations.ReadSummaryAndAttention := by
  intro s
  refine ⟨⟨s.summaryFields, rfl, rfl, rfl, rfl, fun c => ?_, fun c => ?_, fun i => ?_, fun x n place => ?_, s.summary_seconds⟩,
    fun c => ?_, fun i => ?_, ?_⟩
  · rw [show 5 - c.val / 8 = 2 + (3 - c.val / 8) by omega, s.summary_crossings (by omega), bytes4_bit _ (by omega), testBit_bitMap]
  · rw [show 9 - c.val / 8 = 6 + (3 - c.val / 8) by omega, s.summary_memos (by omega), bytes4_bit _ (by omega), testBit_bitMap]
  · rw [show 15 - i.val / 8 = 10 + (5 - i.val / 8) by omega, s.summary_stations (by omega), bytes6_bit _ (by omega), testBit_bitMap]
  · have here : s.summaryFields.getD n 0 = s.lineByte x := by
      rcases place with ⟨rfl, rfl⟩ | ⟨rfl, rfl⟩ <;> rfl
    obtain ⟨active, mode, flags, rest⟩ := s.lineByte_shows x
    rw [here]
    refine ⟨active, mode.trans ?_, by rw [flags]; exact s.holds.anyFlag_iff x, rest⟩
    cases (s.store.line x).releaseMode <;> rfl
  · simp [State.crossingNotice, or_assoc]
  · simp [State.stationNotice, or_assoc]
  · simp [State.attention, s.unseen_pos, or_assoc]

/-! ## READ CALLS -/

theorem CallState.code_le (x : CallState) : x.code ≤ 3 := by cases x <;> simp [CallState.code]
theorem Origin.code_le (x : Origin) : x.code ≤ 2 := by cases x <;> decide
theorem CallKind.code_le (x : CallKind) : x.code ≤ 1 := by cases x <;> decide

theorem callEntry_length (now : StreetTime) (r : CallRecord) : (callEntry now r).length = 12 := rfl

theorem callEntry_shows (now : StreetTime) (r : CallRecord) : CallEntryShows now r (callEntry now r) := by
  have state := r.state.code_le
  have origin := r.origin.code_le
  have kind := r.kind.code_le
  have seen := (!r.seen).toNat_le
  have places := placesShow_placesFields r.stations
  refine ⟨rfl, ?_, ?_, ?_, ?_, ?_, ?_, ?_⟩
  case refine_7 => simpa [callEntry] using places
  case refine_6 =>
    cases time : r.state with
    | waiting => simp [callEntry, time, CallState.timeField]
    | granted n => simp [callEntry, time, CallState.timeField]
    | walking start | clearing start =>
      simp [callEntry, time, CallState.timeField, ageOf, Config.sinceWalkMax]
  all_goals simp [callEntry, Fin.val_mod_256, ageSeconds, ageOf, Config.ageMax]
  all_goals omega

/-- Record x is read before record y or level with it (R62). -/
def ReadsFirst (now : StreetTime) (x y : CallRecord) : Prop :=
  ageOf now y.registeredAt < ageOf now x.registeredAt ∨
    ageOf now x.registeredAt = ageOf now y.registeredAt ∧
      (x.crossing < y.crossing ∨ x.crossing = y.crossing ∧ (x.state.isServing = true ∨ y.state.isServing = false))

section Order

variable {now : StreetTime} {x y z : CallRecord}

theorem ReadsFirst.trans (h : ReadsFirst now x y) (k : ReadsFirst now y z) : ReadsFirst now x z := by
  rcases h with older | ⟨same, h⟩
  · rcases k with older' | ⟨same', -⟩
    · exact .inl (older'.trans older)
    · exact .inl (same' ▸ older)
  · rcases k with older' | ⟨same', k⟩
    · exact .inl (same ▸ older')
    · refine .inr ⟨same.trans same', ?_⟩
      rcases h with low | ⟨at_, h⟩
      · rcases k with low' | ⟨at', -⟩
        · exact .inl (low.trans low')
        · exact .inl (at' ▸ low)
      · rcases k with low' | ⟨at', k⟩
        · exact .inl (at_ ▸ low')
        · refine .inr ⟨at_.trans at', ?_⟩
          rcases h with serves | waits
          · exact .inl serves
          · rcases k with serves | waits'
            · rw [waits] at serves
              cases serves
            · exact .inr waits'

theorem readsFirst_of_listsBefore (h : listsBefore now x y = true) : ReadsFirst now x y := by
  unfold listsBefore at h
  split at h
  next => exact .inl (of_decide_eq_true h)
  next same =>
    refine .inr ⟨not_not.1 same, ?_⟩
    split at h
    next => exact .inl (of_decide_eq_true h)
    next at_ => exact .inr ⟨not_not.1 at_, .inl h⟩

theorem readsFirst_of_not_listsBefore (h : listsBefore now x y = false) : ReadsFirst now y x := by
  unfold listsBefore at h
  split at h
  next differ => exact .inl (lt_of_le_of_ne (not_lt.1 (of_decide_eq_false h)) differ)
  next same =>
    refine .inr ⟨(not_not.1 same).symm, ?_⟩
    split at h
    next differ => exact .inl (lt_of_le_of_ne (not_lt.1 (of_decide_eq_false h)) (Ne.symm differ))
    next at_ => exact .inr ⟨(not_not.1 at_).symm, .inr h⟩

theorem insertRecord_perm (r : CallRecord) (l : List CallRecord) : (insertRecord now r l).Perm (r :: l) := by
  induction l with
  | nil => exact .refl _
  | cons x l ih =>
    rw [insertRecord]
    split
    · exact .refl _
    · exact (ih.cons x).trans (.swap r x l)

theorem insertRecord_sorted {r : CallRecord} {l : List CallRecord} (h : l.Pairwise (ReadsFirst now)) :
    (insertRecord now r l).Pairwise (ReadsFirst now) := by
  induction l with
  | nil => simp [insertRecord]
  | cons x l ih =>
    obtain ⟨first, rest⟩ := List.pairwise_cons.1 h
    rw [insertRecord]
    split
    next before =>
      have leads := readsFirst_of_listsBefore before
      refine List.pairwise_cons.2 ⟨fun y hy => ?_, h⟩
      rcases List.mem_cons.1 hy with rfl | later
      · exact leads
      · exact leads.trans (first y later)
    next after =>
      refine List.pairwise_cons.2 ⟨fun y hy => ?_, ih rest⟩
      rcases List.mem_cons.1 ((insertRecord_perm r l).mem_iff.1 hy) with rfl | later
      · exact readsFirst_of_not_listsBefore (by simpa using after)
      · exact first y later

theorem CallTable.listing_perm (t : CallTable) (only : Option Crossing) :
    (t.listing now only).Perm ((t.records.toList.filterMap id).filter (asked only)) := by
  unfold CallTable.listing
  generalize (t.records.toList.filterMap id).filter (asked only) = l
  induction l with
  | nil => exact .refl _
  | cons r l ih => exact (insertRecord_perm r _).trans (ih.cons r)

theorem CallTable.listing_sorted (t : CallTable) (only : Option Crossing) : (t.listing now only).Pairwise (ReadsFirst now) := by
  unfold CallTable.listing
  generalize (t.records.toList.filterMap id).filter (asked only) = l
  induction l with
  | nil => exact .nil
  | cons r l ih => exact insertRecord_sorted ih

end Order

/-- A scope names all records or those of one crossing (R191). -/
theorem codeScope_eq {scope : Byte} {only : Option Crossing}
    (h : scope = 255 ∧ only = none ∨ ∃ c : Crossing, scope.toNat = c.val ∧ only = some c) :
    ∃ x, codeScope scope = some x ∧ x.only = only := by
  rcases h with ⟨rfl, rfl⟩ | ⟨c, at_, rfl⟩
  · exact ⟨.all, rfl, rfl⟩
  · refine ⟨.one c, ?_, rfl⟩
    have within : scope.toNat ≠ Config.emptyNumber := by
      have := c.isLt
      simp only [Config.emptyNumber]
      omega
    rw [codeScope, if_neg within, crossingOf_eq at_, Option.map_some]

/-- Settles O9: the listing is an insertion sort by the reading order, and marking changes only what it lists. -/
theorem readCalls : Obligations.ReadCalls := by
  refine ⟨callEntry_shows, fun n a b => rfl, rfl, rfl, fun s scope only h => ?_⟩
  obtain ⟨x, spelled, rfl⟩ := codeScope_eq h
  refine ⟨s.table.listing s.store.streetTime x.only,
    (s.onTable fun t => t.markSeen x.only).respond .ok (s.callsFields x.only), by simp only [exec, execReadCalls, spelled], ?_, rfl, ?_,
    s.table.listing_perm x.only, s.table.listing_sorted x.only, fun i r hr => ?_, fun i hr => ?_⟩
  · simp only [State.respond, State.onTable, CallTable.markSeen]
  · simp only [State.respond_response, State.callsFields, List.length_flatMap, callEntry_length, List.map_const', List.sum_replicate,
      smul_eq_mul, Nat.mul_comm]
  · simp only [State.respond_table, State.onTable_table, CallTable.markSeen_look, hr, Option.map_some]
  · simp only [State.respond_table, State.onTable_table, CallTable.markSeen_look, hr, Option.map_none]

end Sys2Proof.Machine

/-! READ CROSSING, READ STATION and READ CORNER (R183 to R185). -/

namespace Sys2Proof.Machine

/-! ## READ CROSSING -/

theorem exec_readCrossing {n : Byte} {c : Crossing} (h : n.toNat = c.val) (s : State) :
    exec (.readCrossing n) s = .next ((s.clearCrossingNotices c).respond .ok (s.crossingFields c)) := by
  simp only [exec, execReadCrossing, crossingOf_eq h]

@[simp] theorem memoFields_length (now : StreetTime) (m : Option Memo) : (memoFields now m).length = 7 := by
  cases m <;> rfl

/-- The five bytes of a crossing's status that stand before its memo (R193). -/
def State.crossingHead (s : State) (c : Crossing) : List Byte :=
  let x := look s.aspects c
  let g := look s.grants c
  let f := look s.holds.flags c
  [byte c.val, byte (bit x.w * 128 + bit x.d * 64 + x.observed.code), byte (faultCode x.fault),
   byte (bit x.notice * 128 + bit g.expired * 64 + bit g.truncated * 32 + bit g.unserved * 16 + bit x.further * 8 +
     g.unrecorded.code),
   byte (bits f.a f.b f.s f.held f.waitA f.waitB (look s.cues.gates c) (look s.store.crossings c).pending.isSome)]

theorem State.crossingFields_eq (s : State) (c : Crossing) :
    s.crossingFields c = s.crossingHead c ++ memoFields s.store.streetTime (look s.table.memos c) ++ (s.store.crossing c).fields := rfl

theorem Aspect.code_le (a : Aspect) : a.code ≤ 5 := by cases a <;> decide
theorem UnrecordedWalk.code_le (u : UnrecordedWalk) : u.code ≤ 2 := by cases u <;> decide
theorem faultCode_le (f : Option FaultKind) : faultCode f ≤ 5 := by
  cases f with
  | none => decide
  | some k => cases k <;> decide

/-- Eight bits in a byte. -/
theorem bits_lt (b7 b6 b5 b4 b3 b2 b1 b0 : Bool) : bits b7 b6 b5 b4 b3 b2 b1 b0 < 256 := by
  revert b7 b6 b5 b4 b3 b2 b1 b0
  decide

theorem State.crossingHead_shows (s : State) (c : Crossing) (x : AspectState) (g : GrantState) (f : HoldFlags)
    (hx : x = look s.aspects c) (hg : g = look s.grants c) (hf : f = look s.holds.flags c) :
    bytesAt (s.crossingHead c) 0 1 = c.val ∧
      bytesAt (s.crossingHead c) 1 1 = x.w.toNat * 128 + x.d.toNat * 64 + x.observed.code ∧
      bytesAt (s.crossingHead c) 2 1 = faultCode x.fault ∧
      bytesAt (s.crossingHead c) 3 1 = x.notice.toNat * 128 + g.expired.toNat * 64 + g.truncated.toNat * 32 + g.unserved.toNat * 16 +
        x.further.toNat * 8 + g.unrecorded.code ∧
      bytesAt (s.crossingHead c) 4 1 = f.a.toNat * 128 + f.b.toNat * 64 + f.s.toNat * 32 + (f.a || f.b || f.s).toNat * 16 +
        f.waitA.toNat * 8 + f.waitB.toNat * 4 + (look s.cues.gates c).toNat * 2 + (look s.store.crossings c).pending.isSome.toNat := by
  subst hx hg hf
  have observed := (look s.aspects c).observed.code_le
  have fault := faultCode_le (look s.aspects c).fault
  have walk := (look s.grants c).unrecorded.code_le
  refine ⟨?_, ?_, ?_, ?_, ?_⟩
  · simp [State.crossingHead, Fin.val_mod_256]
  · have := (look s.aspects c).w.toNat_le
    have := (look s.aspects c).d.toNat_le
    simp [State.crossingHead]
    omega
  · simp [State.crossingHead]
    omega
  · have := (look s.aspects c).notice.toNat_le
    have := (look s.grants c).expired.toNat_le
    have := (look s.grants c).truncated.toNat_le
    have := (look s.grants c).unserved.toNat_le
    have := (look s.aspects c).further.toNat_le
    simp [State.crossingHead]
    omega
  · simp only [State.crossingHead, bytesAt_cons_succ, bytesAt_cons_zero, byte_toNat_of_lt (bits_lt _ _ _ _ _ _ _ _)]
    simp [bits, HoldFlags.held]

/-- A memo's seven bytes (R55, R193). -/
theorem memoFields_none (now : StreetTime) : ((memoFields now none).getD 0 0).getLsbD 7 = false ∧ bytesAt (memoFields now none) 1 1 = 0 ∧
    bytesAt (memoFields now none) 2 2 = 0 ∧ PlacesShow [] (bytesAt (memoFields now none) 4 3) := by
  refine ⟨by simp [memoFields, byte], by simp [memoFields], by simp [memoFields], ?_⟩
  simpa [memoFields] using placesShow_placesFields []

theorem memoFields_some (now : StreetTime) {m : Memo} (origin : m.origin ≠ .recall) :
    bytesAt (memoFields now (some m)) 0 1 = 128 + m.origin.code * 64 + m.kind.code * 32 ∧
      bytesAt (memoFields now (some m)) 1 1 = m.count % 256 ∧
      bytesAt (memoFields now (some m)) 2 2 = min ((now - m.since).toNat / 10) 65535 ∧
      PlacesShow m.stations (bytesAt (memoFields now (some m)) 4 3) := by
  have kind := m.kind.code_le
  have press : m.origin.code ≤ 1 := by
    cases h : m.origin <;> simp_all [Origin.code]
  refine ⟨?_, by simp [memoFields], ?_, ?_⟩
  · simp [memoFields]
    omega
  · simp [memoFields, ageSeconds, ageOf, Config.ageMax]
  · simpa [memoFields] using placesShow_placesFields m.stations

/-- Settles O10: the status of a crossing stands in front, its memo behind it, its profile last. -/
theorem readCrossing : Obligations.ReadCrossing := by
  refine ⟨rfl, rfl, rfl, fun s n c at_ => ⟨_, exec_readCrossing at_ s, rfl, ?_, ?_, ?_, ?_, rfl, ?_⟩⟩
  · simp [State.clearCrossingNotices]
  · simp [State.clearCrossingNotices]
  · simp [State.clearCrossingNotices]
  · simp [State.clearCrossingNotices]
  · rintro l x g f rfl hx hg hf
    obtain ⟨number, lamps, fault, notices, flags⟩ := s.crossingHead_shows c x g f hx hg hf
    rw [State.respond_response, State.crossingFields_eq]
    have head : ∀ a, a < 5 → bytesAt (s.crossingHead c ++ memoFields s.store.streetTime (look s.table.memos c) ++
        (s.store.crossing c).fields) a 1 = bytesAt (s.crossingHead c) a 1 := fun a ha => by
      rw [List.append_assoc, bytesAt_left (Nat.succ_le_of_lt ha)]
    have memo : ∀ a n, a + n ≤ 7 → bytesAt (s.crossingHead c ++ memoFields s.store.streetTime (look s.table.memos c) ++
        (s.store.crossing c).fields) (5 + a) n = bytesAt (memoFields s.store.streetTime (look s.table.memos c)) a n := fun a n h => by
      rw [List.append_assoc]
      refine (bytesAt_right (s.crossingHead c) _ a n).trans (bytesAt_left ?_)
      rwa [memoFields_length]
    refine ⟨?_, (head 0 (by decide)).trans number, (head 1 (by decide)).trans lamps, (head 2 (by decide)).trans fault,
      (head 3 (by decide)).trans notices, (head 4 (by decide)).trans flags, fun none_here => ?_, fun m here origin => ?_, ?_⟩
    · simp [State.crossingHead]
    · obtain ⟨absent, count, age, places⟩ := memoFields_none s.store.streetTime
      rw [none_here] at memo ⊢
      exact ⟨absent, (memo 1 1 (by decide)).trans count, (memo 2 2 (by decide)).trans age, (memo 4 3 (by decide)).symm ▸ places⟩
    · obtain ⟨kind, count, age, places⟩ := memoFields_some s.store.streetTime origin
      rw [here] at memo ⊢
      exact ⟨(memo 0 1 (by decide)).trans kind, (memo 1 1 (by decide)).trans count, (memo 2 2 (by decide)).trans age,
        (memo 4 3 (by decide)).symm ▸ places⟩
    · have shown := (s.store.crossing c).shownAt_fields.append (s.crossingHead c ++ memoFields s.store.streetTime (look s.table.memos c))
      rwa [List.length_append, memoFields_length] at shown

end Sys2Proof.Machine

/-! READ STATION and READ CORNER (R184, R185). -/

namespace Sys2Proof.Machine

/-! ## READ STATION -/

theorem exec_readStation {n : Byte} {i : Station} (h : n.toNat = i.val) (s : State) :
    exec (.readStation n) s = .next ((s.clearStationNotices i).respond .ok (s.stationFields i)) := by
  simp only [exec, execReadStation, stationOf_eq h]

@[simp] theorem stampFields_length (t : Option Tick) : (stampFields t).length = 2 := rfl

/-- The 31 bytes of a station's status, before its profile, with their numbers named. -/
def stationHead (i : Nat) (b : StationLink) (p : PressState) (v : StationCue) (x : LevelState) (target pending : Nat) : List Byte :=
  let released := fun e : Option CaptureEntry => (e.bind CaptureEntry.release).isSome
  [byte i,
   byte (b.state.code * 64 + bit b.beyond * 32 + b.misses * 4 + bit b.silentNotice * 2 + bit b.joinedNotice),
   byte (match b.offered with
     | some o => bits true o.speaker o.tactile o.microphone false false false false
     | none => 0),
   byte (match b.offered with
     | some o => o.messages
     | none => 0),
   byte (bits b.features.speaker b.features.tactile b.features.microphone b.features.speech
     (b.features.walkCue == .speech) b.features.cueDegraded b.features.infoUsable false),
   byte (bit b.speakerFault * 128 + bit b.tactileFault * 64 + bit p.buttonFault * 32 + bit p.stuckNotice * 16 +
     bit b.lastTick.isSome * 8 + p.phase.code)] ++
    stampFields b.lastTick ++ bytes3 p.heldTime ++
    [byte (endingCode p.lastEntry * 32 + bit (released p.lastEntry) * 16 + endingCode p.previousEntry * 2 +
      bit (released p.previousEntry))] ++
    stampFields (p.lastEntry.map CaptureEntry.press) ++ stampFields (p.lastEntry.bind CaptureEntry.release) ++
    stampFields (p.previousEntry.map CaptureEntry.press) ++ stampFields (p.previousEntry.bind CaptureEntry.release) ++
    [byte v.sound.code,
     byte (bit v.armed * 128 + bit v.covering * 64 + bit v.tactile * 32 + v.indicator.code * 8 + v.result.code)] ++
    bytes2 x.ambient ++
    [byte x.level, byte x.maximum, byte x.minimum, byte target, byte (bit x.windowOpen * 128 + x.outcome.code),
     byte (x.lastSample.getD 0), byte pending]

theorem State.stationFields_eq (s : State) (i : Station) : s.stationFields i =
    stationHead i.val (look s.bus.stations i) (look s.press i) (look s.cues.stations i) (look s.levels i)
      (if (look s.bus.stations i).state = .active then (look s.levels i).target (s.store.station i) else 0)
      (bit (look s.store.stations i).pending.isSome) ++ (s.store.station i).fields := rfl

theorem LinkState.code_le (x : LinkState) : x.code ≤ 3 := by cases x <;> decide
theorem PressPhase.code_le (x : PressPhase) : x.code ≤ 4 := by cases x <;> decide
theorem Sound.code_le (x : Sound) : x.code ≤ 6 := by
  cases x with
  | speech k => cases k <;> decide
  | _ => decide
theorem Indicator.code_le (x : Indicator) : x.code ≤ 3 := by cases x <;> decide
theorem SpeechResult.code_le (x : SpeechResult) : x.code ≤ 4 := by cases x <;> decide
theorem SampleOutcome.code_le (x : SampleOutcome) : x.code ≤ 4 := by cases x <;> decide

theorem endingCode_le (e : Option CaptureEntry) : endingCode e ≤ 5 := by
  cases e with
  | none => decide
  | some e => cases h : e.ending <;> simp [endingCode, h]

theorem bits_testBit_seven (b7 b6 b5 b4 b3 b2 b1 b0 : Bool) : (bits b7 b6 b5 b4 b3 b2 b1 b0).testBit 7 = b7 := by
  revert b7 b6 b5 b4 b3 b2 b1 b0
  decide

/-- A stamp's field behind a first part of a block (R193). -/
theorem stamp_shown (t : Option Tick) : (t.getD 0).toNat % 65536 = (t.getD 0).toNat := Nat.mod_eq_of_lt (t.getD 0).isLt

section Head

variable (i : Nat) (b : StationLink) (p : PressState) (v : StationCue) (x : LevelState) (target pending : Nat)

@[simp] theorem stationHead_length : (stationHead i b p v x target pending).length = 31 := rfl

/-- The link's bytes (R158). -/
theorem stationHead_link :
    bytesAt (stationHead i b p v x target pending) 0 1 = i % 256 ∧
      ((stationHead i b p v x target pending).getD 1 0).getLsbD 1 = b.silentNotice ∧
      ((stationHead i b p v x target pending).getD 1 0).getLsbD 0 = b.joinedNotice ∧
      (b.misses < 8 → bytesAt (stationHead i b p v x target pending) 1 1 =
        b.state.code * 64 + b.beyond.toNat * 32 + b.misses * 4 + b.silentNotice.toNat * 2 + b.joinedNotice.toNat) ∧
      ((stationHead i b p v x target pending).getD 2 0).getLsbD 7 = b.offered.isSome ∧
      (∀ o, b.offered = some o →
        bytesAt (stationHead i b p v x target pending) 2 1 = 128 + o.speaker.toNat * 64 + o.tactile.toNat * 32 + o.microphone.toNat * 16 ∧
        bytesAt (stationHead i b p v x target pending) 3 1 = o.messages % 256) ∧
      bytesAt (stationHead i b p v x target pending) 4 1 = b.features.speaker.toNat * 128 + b.features.tactile.toNat * 64 +
        b.features.microphone.toNat * 32 + b.features.speech.toNat * 16 + b.features.walkCue.code * 8 + b.features.cueDegraded.toNat * 4 +
        b.features.infoUsable.toNat * 2 := by
  have state := b.state.code_le
  have silent := b.silentNotice.toNat_le
  have joined := b.joinedNotice.toNat_le
  have beyond := b.beyond.toNat_le
  refine ⟨by simp [stationHead], ?_, ?_, fun few => ?_, ?_, fun o offered => ⟨?_, ?_⟩, ?_⟩
  · have parity : (b.state.code * 64 + b.beyond.toNat * 32 + b.misses * 4 + b.silentNotice.toNat * 2 + b.joinedNotice.toNat) / 2 ^ 1 % 2 =
        b.silentNotice.toNat := by omega
    simp only [stationHead, List.getD_cons_succ, List.getD_cons_zero, List.cons_append, byte_getLsbD, bit_eq, testBit_iff, parity]
    cases b.silentNotice <;> rfl
  · have parity : (b.state.code * 64 + b.beyond.toNat * 32 + b.misses * 4 + b.silentNotice.toNat * 2 + b.joinedNotice.toNat) / 2 ^ 0 % 2 =
        b.joinedNotice.toNat := by omega
    simp only [stationHead, List.getD_cons_succ, List.getD_cons_zero, List.cons_append, byte_getLsbD, bit_eq, testBit_iff, parity]
    cases b.joinedNotice <;> rfl
  · simp [stationHead]
    omega
  · simp only [stationHead, List.getD_cons_succ, List.getD_cons_zero, List.cons_append, byte_getLsbD]
    cases b.offered with
    | none => rfl
    | some o => simp only [bits_testBit_seven]; rfl
  · have := bits_lt true o.speaker o.tactile o.microphone false false false false
    simp only [stationHead, offered, List.cons_append, bytesAt_cons_succ, bytesAt_cons_zero, byte_toNat_of_lt this]
    simp [bits]
  · simp [stationHead, offered]
  · simp only [stationHead, List.cons_append, bytesAt_cons_succ, bytesAt_cons_zero, byte_toNat_of_lt (bits_lt _ _ _ _ _ _ _ _)]
    cases cue : b.features.walkCue <;> simp [bits, WalkCue.code]

/-- The press's bytes (R18, R33). -/
theorem stationHead_press :
    bytesAt (stationHead i b p v x target pending) 5 1 = b.speakerFault.toNat * 128 + b.tactileFault.toNat * 64 + p.buttonFault.toNat * 32 +
        p.stuckNotice.toNat * 16 + b.lastTick.isSome.toNat * 8 + p.phase.code ∧
      bytesAt (stationHead i b p v x target pending) 6 2 = (b.lastTick.getD 0).toNat ∧
      bytesAt (stationHead i b p v x target pending) 8 3 = p.heldTime % 16777216 ∧
      bytesAt (stationHead i b p v x target pending) 11 1 = endingCode p.lastEntry * 32 +
        (p.lastEntry.bind CaptureEntry.release).isSome.toNat * 16 + endingCode p.previousEntry * 2 +
        (p.previousEntry.bind CaptureEntry.release).isSome.toNat ∧
      bytesAt (stationHead i b p v x target pending) 12 2 = ((p.lastEntry.map CaptureEntry.press).getD 0).toNat ∧
      bytesAt (stationHead i b p v x target pending) 14 2 = ((p.lastEntry.bind CaptureEntry.release).getD 0).toNat ∧
      bytesAt (stationHead i b p v x target pending) 16 2 = ((p.previousEntry.map CaptureEntry.press).getD 0).toNat ∧
      bytesAt (stationHead i b p v x target pending) 18 2 = ((p.previousEntry.bind CaptureEntry.release).getD 0).toNat := by
  have phase := p.phase.code_le
  have last := endingCode_le p.lastEntry
  have previous := endingCode_le p.previousEntry
  have := b.speakerFault.toNat_le
  have := b.tactileFault.toNat_le
  have := p.buttonFault.toNat_le
  have := p.stuckNotice.toNat_le
  have := b.lastTick.isSome.toNat_le
  have := (p.lastEntry.bind CaptureEntry.release).isSome.toNat_le
  have := (p.previousEntry.bind CaptureEntry.release).isSome.toNat_le
  refine ⟨?_, ?_, ?_, ?_, ?_, ?_, ?_, ?_⟩
  · simp [stationHead]
    omega
  case refine_3 => simp [stationHead, stampFields]
  case refine_4 =>
    simp [stationHead, stampFields]
    omega
  all_goals
    simp only [stationHead, stampFields, List.cons_append, List.nil_append, List.append_assoc, bytesAt_cons_succ, bytesAt_bytes2_append_succ,
      bytesAt_bytes3_append_succ, bytesAt_bytes2_append, stamp_shown]

/-- The cues' and the levels' bytes (R122, R142). -/
theorem stationHead_cues :
    bytesAt (stationHead i b p v x target pending) 20 1 = v.sound.code ∧
      bytesAt (stationHead i b p v x target pending) 21 1 = v.armed.toNat * 128 + v.covering.toNat * 64 + v.tactile.toNat * 32 +
        v.indicator.code * 8 + v.result.code ∧
      bytesAt (stationHead i b p v x target pending) 22 2 = x.ambient % 65536 ∧
      bytesAt (stationHead i b p v x target pending) 24 1 = x.output.getD 0 % 256 ∧
      bytesAt (stationHead i b p v x target pending) 25 1 = x.maximum % 256 ∧
      bytesAt (stationHead i b p v x target pending) 26 1 = x.minimum % 256 ∧
      bytesAt (stationHead i b p v x target pending) 27 1 = target % 256 ∧
      bytesAt (stationHead i b p v x target pending) 28 1 = x.windowOpen.toNat * 128 + x.outcome.code ∧
      bytesAt (stationHead i b p v x target pending) 29 1 = x.lastSample.getD 0 % 256 ∧
      bytesAt (stationHead i b p v x target pending) 30 1 = pending % 256 := by
  have sound := v.sound.code_le
  have indicator := v.indicator.code_le
  have result := v.result.code_le
  have outcome := x.outcome.code_le
  have := v.armed.toNat_le
  have := v.covering.toNat_le
  have := v.tactile.toNat_le
  have := x.windowOpen.toNat_le
  refine ⟨?_, ?_, ?_, ?_, ?_, ?_, ?_, ?_, ?_, ?_⟩ <;> simp [stationHead, stampFields, LevelState.level] <;> omega

end Head

/-! ## READ CORNER -/

/-- The 26 bytes of a corner's status, before its profile (R193). -/
def State.cornerHead (s : State) (k : Corner) : List Byte :=
  let x := look s.cues.corners k
  let v := look s.cues.speech k
  [byte k.val] ++ bytes2 x.elapsed ++ bytes2 x.period ++ bytes2 x.offset ++
    [byte (bit x.openClean * 128 + bit x.closedClean * 64 + v.channel.code * 4 + bit (look s.store.corners k).pending.isSome)] ++
    entryFields v.channel.entry ++ bytes2 v.channel.time ++ [byte v.queue.length] ++
    entryFields v.queue[0]? ++ entryFields v.queue[1]? ++ entryFields v.queue[2]? ++ entryFields v.queue[3]?

theorem State.cornerFields_eq (s : State) (k : Corner) : s.cornerFields k = s.cornerHead k ++ (s.store.corner k).fields := rfl

theorem exec_readCorner {n : Byte} {k : Corner} (h : n.toNat = k.val) (s : State) :
    exec (.readCorner n) s = .next (s.respond .ok (s.cornerFields k)) := by
  simp only [exec, execReadCorner, cornerOf_eq h]

/-- A speech entry is shown where its three bytes stand. -/
theorem speechShown_of_bytes {e : Option SpeechEntry} {l : List Byte} {a : Nat}
    (h : ∀ j, j < 3 → bytesAt l (a + j) 1 = bytesAt (entryFields e) j 1) : SpeechShown e l a := by
  have h0 : bytesAt l a 1 = bytesAt (entryFields e) 0 1 := h 0 (by decide)
  have h1 := h 1 (by decide)
  have h2 := h 2 (by decide)
  have shown := speechShown_entryFields e
  cases e <;>
  · simp only [SpeechShown, h0, h1, h2]
    exact shown

@[simp] theorem bytesAt_entryFields_append (e : Option SpeechEntry) (l : List Byte) {j : Nat} (h : j < 3) :
    bytesAt (entryFields e ++ l) j 1 = bytesAt (entryFields e) j 1 :=
  bytesAt_left (by rw [entryFields_length]; omega)

@[simp] theorem bytesAt_entryFields_append_succ (e : Option SpeechEntry) (l : List Byte) (a n : Nat) :
    bytesAt (entryFields e ++ l) (a + 3) n = bytesAt l a n := by
  have shift := bytesAt_right (entryFields e) l a n
  rwa [entryFields_length, Nat.add_comm] at shift

theorem Channel.code_le (x : Channel) : x.code ≤ 2 := by cases x <;> simp [Channel.code]

@[simp] theorem State.cornerHead_length (s : State) (k : Corner) : (s.cornerHead k).length = 26 := by simp [State.cornerHead]

theorem State.cornerHead_shows (s : State) (k : Corner) :
    bytesAt (s.cornerHead k) 0 1 = k.val ∧ bytesAt (s.cornerHead k) 1 2 = (look s.cues.corners k).elapsed % 65536 ∧
      bytesAt (s.cornerHead k) 3 2 = (look s.cues.corners k).period % 65536 ∧
      bytesAt (s.cornerHead k) 5 2 = (look s.cues.corners k).offset % 65536 ∧
      bytesAt (s.cornerHead k) 7 1 = (look s.cues.corners k).openClean.toNat * 128 + (look s.cues.corners k).closedClean.toNat * 64 +
        (look s.cues.speech k).channel.code * 4 + (look s.store.corners k).pending.isSome.toNat ∧
      bytesAt (s.cornerHead k) 11 2 = (look s.cues.speech k).channel.time % 65536 ∧
      bytesAt (s.cornerHead k) 13 1 = (look s.cues.speech k).queue.length % 256 := by
  have channel := (look s.cues.speech k).channel.code_le
  have := (look s.cues.corners k).openClean.toNat_le
  have := (look s.cues.corners k).closedClean.toNat_le
  have := (look s.store.corners k).pending.isSome.toNat_le
  refine ⟨?_, ?_, ?_, ?_, ?_, ?_, ?_⟩ <;> simp [State.cornerHead, Fin.val_mod_256]
  omega

/-- The entry that plays and the entries of the queue (R193). -/
theorem State.cornerHead_entries (s : State) (k : Corner) (rest : List Byte) :
    SpeechShown (look s.cues.speech k).channel.entry (s.cornerHead k ++ rest) 8 ∧
      ∀ j, j < 4 → SpeechShown (look s.cues.speech k).queue[j]? (s.cornerHead k ++ rest) (14 + 3 * j) := by
  refine ⟨speechShown_of_bytes fun j hj => ?_, fun n hn => speechShown_of_bytes fun j hj => ?_⟩
  · rw [Nat.add_comm]
    simp [State.cornerHead, hj]
  · rw [Nat.add_comm]
    match n, hn with
    | 0, _ | 1, _ | 2, _ | 3, _ => simp [State.cornerHead, hj]

/-- The two stamps of a capture entry, absent ones 0 (R193). -/
theorem captureShown (e : Option CaptureEntry) :
    (e = none → ((e.map CaptureEntry.press).getD 0).toNat = 0 ∧ ((e.bind CaptureEntry.release).getD 0).toNat = 0) ∧
      ∀ y, e = some y → ((e.map CaptureEntry.press).getD 0).toNat = y.press.toNat ∧
        (y.release = none → ((e.bind CaptureEntry.release).getD 0).toNat = 0) ∧
        ∀ q, y.release = some q → ((e.bind CaptureEntry.release).getD 0).toNat = q.toNat := by
  refine ⟨?_, ?_⟩
  · rintro rfl
    exact ⟨rfl, rfl⟩
  · rintro y rfl
    refine ⟨rfl, fun unreleased => ?_, fun q released => ?_⟩
    · simp [unreleased]
    · simp [released]

/-! ## The obligation -/

/-- Settles O11: a station's or a corner's status stands in front, its profile behind it. -/
theorem readStationAndCorner : Obligations.ReadStationAndCorner := by
  refine ⟨rfl, rfl, fun e => ⟨rfl, rfl⟩, rfl, rfl, rfl, rfl, rfl, rfl, rfl,
    fun s n i at_ => ⟨_, exec_readStation at_ s, rfl, ?_, ?_, ?_, ?_, rfl, ?_⟩, fun s n k at_ => ⟨_, exec_readCorner at_ s, ?_, ?_⟩⟩
  · simp [State.clearStationNotices]
  · simp [State.clearStationNotices]
  · simp [State.clearStationNotices]
  · simp [State.clearStationNotices]
  · rintro l b p v x rfl rfl rfl rfl rfl
    rw [State.respond_response, State.stationFields_eq]
    generalize shownTarget : (if (look s.bus.stations i).state = .active then (look s.levels i).target (s.store.station i) else 0) = target
    obtain ⟨number, silent, joined, link, offered, offer, features⟩ := stationHead_link i.val (look s.bus.stations i) (look s.press i)
      (look s.cues.stations i) (look s.levels i) target (bit (look s.store.stations i).pending.isSome)
    obtain ⟨flags, tick, held, capture, lastPress, lastRelease, previousPress, previousRelease⟩ := stationHead_press i.val
      (look s.bus.stations i) (look s.press i) (look s.cues.stations i) (look s.levels i) target (bit (look s.store.stations i).pending.isSome)
    obtain ⟨sound, cues, ambient, output, maximum, minimum, aim, window, sample, pending⟩ := stationHead_cues i.val
      (look s.bus.stations i) (look s.press i) (look s.cues.stations i) (look s.levels i) target (bit (look s.store.stations i).pending.isSome)
    have head : ∀ a n, a + n ≤ 31 → bytesAt (stationHead i.val (look s.bus.stations i) (look s.press i) (look s.cues.stations i)
        (look s.levels i) target (bit (look s.store.stations i).pending.isSome) ++ (s.store.station i).fields) a n =
        bytesAt (stationHead i.val (look s.bus.stations i) (look s.press i) (look s.cues.stations i) (look s.levels i) target
          (bit (look s.store.stations i).pending.isSome)) a n := fun a n h => bytesAt_left (by rwa [stationHead_length])
    have shown := (s.store.station i).shownAt_fields.append (stationHead i.val (look s.bus.stations i) (look s.press i)
      (look s.cues.stations i) (look s.levels i) target (bit (look s.store.stations i).pending.isSome))
    rw [stationHead_length] at shown
    refine ⟨by rw [List.length_append, stationHead_length, StationProfile.fields_length],
      (head 0 1 (by decide)).trans (number.trans (Fin.val_mod_256 i (by decide))), silent, joined,
      fun few => (head 1 1 (by decide)).trans (link few), offered,
      fun o here => ⟨(head 2 1 (by decide)).trans (offer o here).1, (head 3 1 (by decide)).trans (offer o here).2⟩,
      (head 4 1 (by decide)).trans features, (head 5 1 (by decide)).trans flags, fun n here => (head 6 2 (by decide)).trans ?_,
      (head 8 3 (by decide)).trans held, (head 11 1 (by decide)).trans capture, ?_, (head 20 1 (by decide)).trans sound,
      (head 21 1 (by decide)).trans cues, (head 22 2 (by decide)).trans ambient, (head 24 1 (by decide)).trans output,
      (head 25 1 (by decide)).trans maximum, (head 26 1 (by decide)).trans minimum, fun other => (head 27 1 (by decide)).trans ?_,
      fun active => (head 27 1 (by decide)).trans ?_, (head 28 1 (by decide)).trans window, (head 29 1 (by decide)).trans sample,
      (head 30 1 (by decide)).trans ?_, shown⟩
    · rw [tick, here, Option.getD_some]
    · rintro e a (⟨rfl, rfl⟩ | ⟨rfl, rfl⟩)
      · rw [head 12 2 (by decide), head 14 2 (by decide), lastPress, lastRelease]
        exact captureShown _
      · rw [head 16 2 (by decide), head 18 2 (by decide), previousPress, previousRelease]
        exact captureShown _
    · rw [aim, ← shownTarget, if_neg other]
    · rw [aim, ← shownTarget, if_pos active]
      rfl
    · rw [pending, bit_eq, bool_toNat_mod]
  · rw [State.cornerFields_eq, List.length_append, State.cornerHead_length, CornerProfile.fields_length]
  · rintro x v rfl rfl
    rw [State.cornerFields_eq]
    obtain ⟨number, elapsed, period, offset, flags, time, waiting⟩ := s.cornerHead_shows k
    obtain ⟨playing, queued⟩ := s.cornerHead_entries k (s.store.corner k).fields
    have head : ∀ a n, a + n ≤ 26 → bytesAt (s.cornerHead k ++ (s.store.corner k).fields) a n = bytesAt (s.cornerHead k) a n :=
      fun a n h => bytesAt_left (by rwa [State.cornerHead_length])
    have shown := (s.store.corner k).shownAt_fields.append (s.cornerHead k)
    rw [State.cornerHead_length] at shown
    refine ⟨(head 0 1 (by decide)).trans number, (head 1 2 (by decide)).trans elapsed, (head 3 2 (by decide)).trans period,
      (head 5 2 (by decide)).trans offset, ((head 7 1 (by decide)).trans flags).trans ?_, fun idle => ?_, fun e since m plays => ?_,
      fun left gap => ?_, (head 13 1 (by decide)).trans waiting, queued, shown⟩
    · cases (look s.cues.speech k).channel <;> rfl
    · rw [idle] at playing time
      exact ⟨playing, (head 11 2 (by decide)).trans time⟩
    · rw [plays] at playing time
      exact ⟨playing, (head 11 2 (by decide)).trans time⟩
    · rw [gap] at playing time
      exact ⟨playing, (head 11 2 (by decide)).trans time⟩

end Sys2Proof.Machine

/-! Memos and where demand goes (R41 to R56): the oldest memo, allocation and removal, presses, linked demand, registrations. -/

namespace Sys2Proof.Machine

/-! ## The oldest memo (R54) -/

/-- What the search for the oldest memo has found in the crossings of a list. -/
def OldestOf (now : StreetTime) (t : CallTable) (l : List Crossing) : Option (Crossing × Nat) → Prop
  | none => ∀ d ∈ l, look t.memos d = none
  | some (c, age) => ∃ m, look t.memos c = some m ∧ age = ageOf now m.since ∧ c ∈ l ∧
      ∀ d ∈ l, ∀ m', look t.memos d = some m' → ageOf now m'.since < age ∨ (ageOf now m'.since = age ∧ c ≤ d)

theorem OldestOf.snoc {now : StreetTime} {t : CallTable} {l : List Crossing} {best : Option (Crossing × Nat)} {d : Crossing}
    (h : OldestOf now t l best) (last : ∀ c ∈ l, c < d) : OldestOf now t (l ++ [d]) (olderMemo now t best d) := by
  unfold olderMemo
  cases here : look t.memos d with
  | none =>
    cases best with
    | none =>
      intro e he
      rcases List.mem_append.1 he with he | he
      · exact h e he
      · rwa [List.mem_singleton.1 he]
    | some best =>
      obtain ⟨c, age⟩ := best
      obtain ⟨m, hm, hage, hc, older⟩ := h
      refine ⟨m, hm, hage, List.mem_append_left _ hc, fun e he m' hm' => ?_⟩
      rcases List.mem_append.1 he with he | he
      · exact older e he m' hm'
      · rw [List.mem_singleton.1 he, here] at hm'
        cases hm'
  | some n =>
    cases best with
    | none =>
      refine ⟨n, here, rfl, by simp, fun e he m' hm' => ?_⟩
      rcases List.mem_append.1 he with he | he
      · rw [h e he] at hm'
        cases hm'
      · obtain rfl := List.mem_singleton.1 he
        obtain rfl := Option.some.inj (here.symm.trans hm')
        exact .inr ⟨rfl, le_refl _⟩
    | some best =>
      obtain ⟨c, age⟩ := best
      obtain ⟨m, hm, hage, hc, older⟩ := h
      dsimp only
      split
      case isTrue younger =>
        refine ⟨n, here, rfl, by simp, fun e he m' hm' => ?_⟩
        rcases List.mem_append.1 he with he | he
        · rcases older e he m' hm' with less | ⟨same, _⟩
          · exact .inl (less.trans younger)
          · exact .inl (same ▸ younger)
        · obtain rfl := List.mem_singleton.1 he
          obtain rfl := Option.some.inj (here.symm.trans hm')
          exact .inr ⟨rfl, le_refl _⟩
      case isFalse notYounger =>
        refine ⟨m, hm, hage, List.mem_append_left _ hc, fun e he m' hm' => ?_⟩
        rcases List.mem_append.1 he with he | he
        · exact older e he m' hm'
        · obtain rfl := List.mem_singleton.1 he
          obtain rfl := Option.some.inj (here.symm.trans hm')
          rcases Nat.lt_or_eq_of_le (Nat.le_of_not_lt notYounger) with less | same
          · exact .inl less
          · exact .inr ⟨same, (last c hc).le⟩

theorem oldestOf_foldl (now : StreetTime) (t : CallTable) (l : List Crossing) (sorted : l.Pairwise (· < ·)) :
    OldestOf now t l (l.foldl (olderMemo now t) none) := by
  induction l using List.reverseRecOn with
  | nil => exact fun d hd => by cases hd
  | append_singleton l d ih =>
    rw [List.pairwise_append] at sorted
    obtain ⟨sorted, -, last⟩ := sorted
    rw [List.foldl_append, List.foldl_cons, List.foldl_nil]
    exact (ih sorted).snoc fun c hc => last c hc d (List.mem_singleton.2 rfl)

/-- The memo the search finds is the one the statements call the oldest. -/
theorem OldestMemo.oldestMemo {now : StreetTime} {t : CallTable} {c : Crossing} {m : Memo} (h : OldestMemo now t c m) :
    t.oldestMemo now = some c := by
  have found := oldestOf_foldl now t (List.finRange 24) (List.pairwise_lt_finRange 24)
  obtain ⟨here, oldest⟩ := h
  rw [CallTable.oldestMemo]
  cases best : (List.finRange 24).foldl (olderMemo now t) none with
  | none =>
    rw [best] at found
    rw [found c (List.mem_finRange c)] at here
    cases here
  | some best' =>
    obtain ⟨d, age⟩ := best'
    rw [best] at found
    obtain ⟨m', hm', rfl, -, older⟩ := found
    have first := oldest d m' hm'
    have second := older c (List.mem_finRange c) m here
    have same : d = c := by
      apply le_antisymm
      · rcases second with less | ⟨-, le⟩
        · rcases first with less' | ⟨eq, -⟩ <;> omega
        · exact le
      · rcases first with less | ⟨-, le⟩
        · rcases second with less' | ⟨eq, -⟩ <;> omega
        · exact le
    rw [same]
    rfl

/-! ## Allocation and removal (R54 to R56) -/

theorem CallTable.allocate_none {p : ProfileStore} {t : CallTable} (h : ¬ HasFree t ∨ ∀ c, look t.memos c = none) :
    t.allocate p = t := by
  rcases allocate_cases t p with ⟨-, same⟩ | ⟨i, c, m, free, -, here, -⟩
  · exact same
  · rcases h with full | absent
    · exact absurd (freeSlot_eq_none.2 full) (by rw [free]; exact Option.some_ne_none i)
    · rw [absent c] at here
      cases here

/-- What a memo that becomes a record leaves of the table. -/
theorem CallTable.allocate_oldest {p : ProfileStore} {t : CallTable} {i : RecordSlot} {c : Crossing} {m : Memo}
    (free : t.freeSlot = some i) (oldest : OldestMemo p.streetTime t c m) :
    t.allocate p = { (t.fill i (newRecord p c .waiting m.origin m.kind m.stations m.count m.since)) with
      memos := put t.memos c none }.retarget (.memo c) (.record i) := by
  simp only [CallTable.allocate, free, oldest.oldestMemo, oldest.1]

/-- Settles O18: the free record goes to the oldest memo. -/
theorem memoAllocation : Obligations.MemoAllocation := by
  intro s
  refine ⟨fun h => ?_, fun c m hasFree oldest => ?_⟩
  · simp only [exec, execMemoAllocation, State.onTable, CallTable.allocate_none h]
  · obtain ⟨i, free⟩ := Option.isSome_iff_exists.1 (freeSlot_isSome.2 hasFree)
    refine ⟨{ s with table := s.table.allocate s.store }, i, rfl, rfl, freeSlot_some free, ?_, ?_, ?_, ?_, ?_⟩ <;>
      rw [CallTable.allocate_oldest free oldest]
    · simp only [CallTable.retarget_records, CallTable.fill_look, if_true]
      rfl
    · intro j hj
      simp only [CallTable.retarget_records, CallTable.fill_look, if_neg hj]
    · simp only [CallTable.retarget_memos, look_put_self]
    · intro d hd
      simp only [CallTable.retarget_memos, look_put_ne _ hd]
    · intro j
      simp only [CallTable.retarget_look, CallTable.fill_targets]

/-- The freed place of a full table is the one the next record takes. -/
theorem freeSlot_freed {t : CallTable} (full : ∀ j, (look t.records j).isSome = true) (i : RecordSlot) :
    { t with records := put t.records i none }.freeSlot = some i := by
  have hasFree : HasFree { t with records := put t.records i none } := ⟨i, look_put_self _ _ _⟩
  obtain ⟨j, free⟩ := Option.isSome_iff_exists.1 (freeSlot_isSome.2 hasFree)
  have empty := freeSlot_some free
  rw [free]
  by_contra other
  have hj : j ≠ i := fun h => other (h ▸ rfl)
  rw [look_put_ne _ hj] at empty
  exact absurd (full j) (by rw [empty]; exact Bool.false_ne_true)

/-- A table whose record at i is freed and whose targets naming it are none, before the place is given on (R56). -/
def CallTable.freed (t : CallTable) (i : RecordSlot) : CallTable :=
  { t with records := put t.records i none }.retarget (.record i) .none

theorem CallTable.remove_eq (p : ProfileStore) (t : CallTable) (i : RecordSlot) : t.remove p i = (t.freed i).allocate p := rfl
@[simp] theorem CallTable.freed_records (t : CallTable) (i : RecordSlot) : (t.freed i).records = put t.records i none := by
  simp [CallTable.freed]
@[simp] theorem CallTable.freed_memos (t : CallTable) (i : RecordSlot) : (t.freed i).memos = t.memos := by simp [CallTable.freed]
@[simp] theorem CallTable.freed_target (t : CallTable) (i : RecordSlot) (j : Station) :
    look (t.freed i).targets j = if look t.targets j = .record i then .none else look t.targets j := by
  simp [CallTable.freed]

/-- Settles O19: the freed place stays free without a memo, and goes to the oldest one otherwise. -/
theorem recordAndMemoRemoval : Obligations.RecordAndMemoRemoval := by
  refine ⟨fun t c => ⟨by simp, by simp, by simp, fun j => by simp [CallTable.clearMemo]⟩,
    fun p t i r here => ⟨fun absent => ?_, fun c m full oldest => ?_⟩⟩
  · have stays : t.remove p i = t.freed i := CallTable.allocate_none (.inr fun c => by simpa using absent c)
    rw [stays]
    exact ⟨by simp, by simp, by simp, t.freed_target i⟩
  · have free : (t.freed i).freeSlot = some i := by
      rw [← freeSlot_freed full i]
      simp [CallTable.freeSlot]
    have oldest' : OldestMemo p.streetTime (t.freed i) c m := by
      obtain ⟨hm, older⟩ := oldest
      exact ⟨by simpa using hm, fun d m' h => older d m' (by simpa using h)⟩
    rw [CallTable.remove_eq, CallTable.allocate_oldest free oldest']
    refine ⟨?_, ?_, ?_, ?_, ?_⟩
    · simp only [CallTable.retarget_records, CallTable.fill_look, if_true]
      rfl
    · intro j hj
      simp only [CallTable.retarget_records, CallTable.fill_look, if_neg hj, CallTable.freed_records, look_put_ne _ hj]
    · simp only [CallTable.retarget_memos, look_put_self]
    · intro d hd
      simp only [CallTable.retarget_memos, look_put_ne _ hd, CallTable.freed_memos]
    · intro j
      simp only [CallTable.retarget_look, CallTable.fill_targets, CallTable.freed_target]
      by_cases named : look t.targets j = .record i
      · simp [named]
      · simp [named]

/-! ## Where demand goes (R41 to R53) -/

theorem joinsSet_addStation (i : Station) (set : List Station) : JoinsSet i set (addStation i set) := by
  have full : (set.contains i || decide (Config.stationSetMax ≤ set.length)) = true ↔ i ∈ set ∨ 4 ≤ set.length := by
    rw [Bool.or_eq_true, decide_eq_true_iff, List.contains_iff_mem]
    rfl
  unfold JoinsSet addStation
  by_cases stays : i ∈ set ∨ 4 ≤ set.length
  · rw [if_pos stays, if_pos (full.2 stays)]
  · rw [if_neg stays, if_neg (full.not.2 stays)]
    have absent : i ∉ set := fun h => stays (.inl h)
    have above : set.filter (fun j => decide (i < j)) = set.filter (fun j => !decide (j < i)) := by
      refine List.filter_congr fun j hj => ?_
      have ne : j ≠ i := fun h => absent (h ▸ hj)
      rcases lt_or_gt_of_ne ne with h | h
      · simp [h, h.not_gt]
      · simp [h, h.not_gt]
    rw [above]
    exact List.perm_middle.trans (List.Perm.cons i (List.filter_append_perm _ set))

/-- The record demand on a crossing joins (R41): its WAITING one, else its GRANTED or WALKING one. -/
def JoinedRecord (t : CallTable) (c : Crossing) (k : RecordSlot) (r : CallRecord) : Prop :=
  OnlyRecord t c CallState.isWaiting k r ∨ (¬ HasRecord t c CallState.isWaiting ∧ OnlyRecord t c CallState.isJoinable k r)

section Demand

variable {p : ProfileStore} {t : CallTable} {i : Station} {c : Crossing} {k : RecordSlot} {r : CallRecord}

theorem JoinedRecord.here (h : JoinedRecord t c k r) : look t.records k = some r := by
  rcases h with only | ⟨-, only⟩
  · exact only.1.1
  · exact only.1.1

theorem JoinedRecord.placePress (h : JoinedRecord t c k r) : t.placePress p i c = (t.edit k (mergePress i), .record k) := by
  rcases h with only | ⟨absent, only⟩
  · simp only [CallTable.placePress, only.waitingSlot]
  · simp only [CallTable.placePress, waitingSlot_eq_none.2 absent, only.joinableSlot]

theorem JoinedRecord.placeLinked {kind : CallKind} (h : JoinedRecord t c k r) :
    t.placeLinked p kind c = t.edit k (mergeLinked p kind) := by
  rcases h with only | ⟨absent, only⟩
  · simp only [CallTable.placeLinked, only.waitingSlot]
  · simp only [CallTable.placeLinked, waitingSlot_eq_none.2 absent, only.joinableSlot]

variable (noWaiting : ¬ HasRecord t c CallState.isWaiting) (noJoinable : ¬ HasRecord t c CallState.isJoinable)
include noWaiting noJoinable

theorem placePress_free (free : t.freeSlot = some k) :
    t.placePress p i c = (t.fill k (newRecord p c .waiting .press .standard [i] 1 p.streetTime), .record k) := by
  simp only [CallTable.placePress, waitingSlot_eq_none.2 noWaiting, joinableSlot_eq_none.2 noJoinable, free]

theorem placePress_full (full : ¬ HasFree t) :
    t.placePress p i c = ({ t with memos := change t.memos c (foldPress p.streetTime i) }, .memo c) := by
  simp only [CallTable.placePress, waitingSlot_eq_none.2 noWaiting, joinableSlot_eq_none.2 noJoinable, freeSlot_eq_none.2 full]

theorem placeLinked_free {kind : CallKind} (free : t.freeSlot = some k) :
    t.placeLinked p kind c = t.fill k (newRecord p c .waiting .linked kind [] 0 p.streetTime) := by
  simp only [CallTable.placeLinked, waitingSlot_eq_none.2 noWaiting, joinableSlot_eq_none.2 noJoinable, free]

theorem placeLinked_full {kind : CallKind} (full : ¬ HasFree t) :
    t.placeLinked p kind c = { t with memos := change t.memos c (foldLinked p.streetTime kind) } := by
  simp only [CallTable.placeLinked, waitingSlot_eq_none.2 noWaiting, joinableSlot_eq_none.2 noJoinable, freeSlot_eq_none.2 full]

end Demand

theorem CallTable.edit_beside (t : CallTable) (k : RecordSlot) (f : CallRecord → CallRecord) :
    Beside t.records (t.edit k f).records k := beside_change _ _ _

theorem CallTable.fill_beside (t : CallTable) (k : RecordSlot) (r : CallRecord) : Beside t.records (t.fill k r).records k :=
  beside_put _ _ _

/-- Settles O20: by the record the press joins, the free record, or the memo. -/
theorem pressPlaced : Obligations.PressPlaced := by
  intro p t i c
  refine ⟨fun k r joined => ?_, fun noWaiting noJoinable hasFree => ?_, fun noWaiting noJoinable full => ?_⟩
  · refine ⟨t.edit k (mergePress i), addStation i r.stations, JoinedRecord.placePress joined, rfl, joinsSet_addStation i r.stations, ?_,
      t.edit_beside k _⟩
    rw [CallTable.edit_look, if_pos rfl, JoinedRecord.here joined]
    rfl
  · obtain ⟨k, free⟩ := Option.isSome_iff_exists.1 (freeSlot_isSome.2 hasFree)
    refine ⟨_, k, placePress_free noWaiting noJoinable free, rfl, freeSlot_some free, ?_, t.fill_beside k _⟩
    rw [CallTable.fill_look, if_pos rfl]
    rfl
  · refine ⟨_, placePress_full noWaiting noJoinable full, rfl, beside_change _ _ _, fun absent => ?_, fun m here => ?_⟩
    · rw [look_change_self, absent]
      rfl
    · refine ⟨addStation i m.stations, joinsSet_addStation i m.stations, ?_⟩
      rw [look_change_self, here]
      rfl

/-- EXTENDED demand raises a STANDARD record; other demand leaves the record (R50). -/
theorem mergeLinked_eq (p : ProfileStore) (kind : CallKind) (r : CallRecord) : mergeLinked p kind r =
    if kind = .extended ∧ r.kind = .standard then
      { r with kind := .extended, clearance := (p.crossing r.crossing).clearance .extended,
               extension := (p.crossing r.crossing).extension .extended, seen := false }
    else r := by
  cases kind with
  | standard => rfl
  | extended => cases h : r.kind <;> simp [mergeLinked, extendRecord, h]

theorem foldLinked_some (now : StreetTime) (kind : CallKind) (m : Memo) :
    foldLinked now kind (some m) = some { m with kind := if kind = .extended then .extended else m.kind } := by
  cases kind <;> rfl

/-- Settles O21: by the record the demand joins, the free record, or the memo. -/
theorem linkedDemandPlaced : Obligations.LinkedDemandPlaced := by
  intro p t kind c
  refine ⟨fun k r joined => ?_, fun noWaiting noJoinable hasFree => ?_, fun noWaiting noJoinable full => ?_⟩
  · have crossing : r.crossing = c := by
      rcases joined with only | ⟨-, only⟩
      · exact only.1.2
      · exact only.1.2
    rw [JoinedRecord.placeLinked joined]
    refine ⟨rfl, t.edit_beside k _, ?_⟩
    rw [CallTable.edit_look, if_pos rfl, JoinedRecord.here joined, Option.map_some, mergeLinked_eq, crossing, apply_ite some]
  · obtain ⟨k, free⟩ := Option.isSome_iff_exists.1 (freeSlot_isSome.2 hasFree)
    rw [placeLinked_free noWaiting noJoinable free]
    refine ⟨k, rfl, freeSlot_some free, ?_, t.fill_beside k _⟩
    rw [CallTable.fill_look, if_pos rfl]
    rfl
  · rw [placeLinked_full noWaiting noJoinable full]
    refine ⟨rfl, beside_change _ _ _, fun absent => ?_, fun m here => ?_⟩
    · rw [look_change_self, absent]
      rfl
    · rw [look_change_self, here, foldLinked_some]

/-! ## Registrations and upgrades (R39, R45, R47 to R49) -/

theorem mem_carriedTo (p : ProfileStore) (c d : Crossing) : d ∈ carriedTo p c ↔
    (p.crossing c).propagate = true ∧ d ≠ c ∧ (p.crossing d).enabled = true ∧ (p.crossing c).linkGroup.isSome = true ∧
      (p.crossing d).linkGroup = (p.crossing c).linkGroup := by
  unfold carriedTo
  cases group : (p.crossing c).linkGroup with
  | none => simp
  | some g =>
    cases propagates : (p.crossing c).propagate with
    | false => simp
    | true => simp [and_assoc]

theorem members_sorted {n : Nat} (q : Fin n → Bool) : (members q).Pairwise (· < ·) :=
  (List.pairwise_lt_finRange n).filter _

theorem carriedTo_sorted (p : ProfileStore) (c : Crossing) : (carriedTo p c).Pairwise (fun x y => x < y) := by
  unfold carriedTo
  split
  · exact members_sorted _
  · exact List.Pairwise.nil

theorem CallTable.kindOf_record {t : CallTable} {k : RecordSlot} {r : CallRecord} (h : look t.records k = some r) :
    t.kindOf (.record k) = r.kind := by
  simp only [CallTable.kindOf, h]

theorem CallTable.kindOf_memo {t : CallTable} {c : Crossing} {m : Memo} (h : look t.memos c = some m) :
    t.kindOf (.memo c) = m.kind := by
  simp only [CallTable.kindOf, h]

/-- An EXTENDED record stays; a STANDARD one becomes EXTENDED with new advice (R45). -/
theorem extendRecord_eq (p : ProfileStore) (r : CallRecord) : extendRecord p r =
    if r.kind = .extended then r
    else { r with kind := .extended, clearance := (p.crossing r.crossing).clearance .extended,
                  extension := (p.crossing r.crossing).extension .extended, seen := false } := by
  cases h : r.kind <;> simp [extendRecord, h]

theorem CallTable.edit_eq_put {t : CallTable} {k : RecordSlot} {r : CallRecord} (h : look t.records k = some r)
    (f : CallRecord → CallRecord) : t.edit k f = { t with records := put t.records k (some (f r)) } := by
  simp only [CallTable.edit, change_eq_put, h, Option.map_some]

/-- Settles O22: the press is placed, the target set, and the demand carried on. -/
theorem registrationAndUpgrade : Obligations.RegistrationAndUpgrade := by
  intro p t i c
  refine ⟨fun disabled => ?_, fun enabled => ⟨(t.placePress p i c).1, (t.placePress p i c).2,
    (t.placePress p i c).1.kindOf (t.placePress p i c).2, rfl, ?_, ?_, ?_⟩, mem_carriedTo p c,
    carriedTo_sorted p c, fun untargeted => ?_, fun k r targeted here => ?_, fun d m targeted here => ?_⟩
  · rw [CallTable.register, disabled]
    rfl
  · rw [CallTable.register, if_pos enabled]
    rfl
  · intro k r went here
    rw [went]
    exact CallTable.kindOf_record here
  · intro m went here
    rw [went]
    exact CallTable.kindOf_memo here
  · simp only [CallTable.upgrade, untargeted]
  · simp only [CallTable.upgrade, targeted, here, CallTable.edit_eq_put here, extendRecord_eq, CallTable.carry]
  · simp only [CallTable.upgrade, targeted, here, CallTable.carry]

end Sys2Proof.Machine

/-! Service: GRANT, CANCEL, CLEAR FAULT, GRANT_WINDOW_EXPIRY, and what accepted declarations do to the records (R60 to R78). -/

namespace Sys2Proof.Machine

/-! ## Gates that an event leaves alone -/

/-- A gate already as its condition asks is found as it stands. -/
theorem State.findGate_stays {t : State} {c : Crossing} (h : look t.cues.gates c = t.gateCondition c) : t.findGate c = t := by
  unfold State.findGate
  rw [h]
  split <;> simp_all

theorem State.gateCondition_unwalked {t : State} {c : Crossing} (h : ¬ HasRecord t.table c CallState.isWalking) :
    t.gateCondition c = false := by
  simp [State.gateCondition, walkingSlot_eq_none.2 h]

/-- A crossing without a WALKING record before and after has its gate as it was. -/
theorem GateLaw.findGate_unwalked {s t : State} {c : Crossing} (h : GateLaw s) (before : ¬ HasRecord s.table c CallState.isWalking)
    (after : ¬ HasRecord t.table c CallState.isWalking) (gates : look t.cues.gates c = look s.cues.gates c) : t.findGate c = t := by
  apply State.findGate_stays
  rw [gates, h.look_eq c, State.gateCondition_unwalked before, State.gateCondition_unwalked after]

theorem GateLaw.findGate_onTable {s : State} {c : Crossing} (h : GateLaw s) (before : ¬ HasRecord s.table c CallState.isWalking)
    {f : CallTable → CallTable} (after : ¬ HasRecord (f s.table) c CallState.isWalking) : (s.onTable f).findGate c = s.onTable f :=
  h.findGate_unwalked before after rfl

/-- A crossing with a record that is not WALKING has no WALKING one: that would stand alone (R36). -/
theorem ServiceLaw.unwalked {s : State} {c : Crossing} {i : RecordSlot} {r : CallRecord} (h : ServiceLaw s) (hr : RecordAt s.table c i r)
    (still : r.state.isWalking = false) : ¬ HasRecord s.table c CallState.isWalking := by
  rintro ⟨j, q, hq, walks⟩
  have same := h.joinableAlone j i q r hq.1 hr.1 (hq.2.trans hr.2.symm) (CallState.isJoinable_of_isWalking walks)
  subst same
  obtain rfl := Option.some.inj (hq.1.symm.trans hr.1)
  rw [still] at walks
  cases walks

theorem CallState.isWalking_of_isGranted {x : CallState} (h : x.isGranted = true) : x.isWalking = false := by
  cases x <;> simp_all [CallState.isGranted, CallState.isWalking]

section Unwalked

variable {t : CallTable} {c : Crossing} {i : RecordSlot}

/-- A record that changes into one that is not WALKING adds no WALKING record. -/
theorem unwalked_edit (h : ¬ HasRecord t c CallState.isWalking) {f : CallRecord → CallRecord} (still : ∀ r, (f r).state.isWalking = false) :
    ¬ HasRecord (t.edit i f) c CallState.isWalking := by
  rintro ⟨j, q, ⟨hq, hc⟩, walks⟩
  rw [CallTable.edit_look] at hq
  split at hq
  · obtain ⟨r, -, rfl⟩ := Option.map_eq_some_iff.1 hq
    rw [still] at walks
    cases walks
  · exact h ⟨j, q, ⟨hq, hc⟩, walks⟩

theorem unwalked_fill (h : ¬ HasRecord t c CallState.isWalking) {r : CallRecord} (still : r.state.isWalking = false) :
    ¬ HasRecord (t.fill i r) c CallState.isWalking := by
  rintro ⟨j, q, ⟨hq, hc⟩, walks⟩
  rw [CallTable.fill_look] at hq
  split at hq
  · obtain rfl := Option.some.inj hq
    rw [still] at walks
    cases walks
  · exact h ⟨j, q, ⟨hq, hc⟩, walks⟩

theorem unwalked_remove (h : ¬ HasRecord t c CallState.isWalking) (p : ProfileStore) : ¬ HasRecord (t.remove p i) c CallState.isWalking := by
  rintro ⟨j, q, ⟨hq, hc⟩, walks⟩
  rcases t.remove_record p hq with waiting | ⟨-, r, was, crossing, state⟩
  · rw [CallState.isWaiting_iff.1 waiting] at walks
    cases walks
  · exact h ⟨j, r, ⟨was, crossing.symm.trans hc⟩, state ▸ walks⟩

end Unwalked

/-- Without a pending copy, what ends an event at a crossing is the finding of its gate. -/
theorem State.settleCrossing_idle {s : State} {c : Crossing} (h : (look s.store.crossings c).pending = none) :
    s.settleCrossing c = s.findGate c := by
  simp only [State.settleCrossing, State.testTransfer, h]

/-! ## GRANT (R66 to R68) -/

theorem exec_grant {n : Byte} {c : Crossing} (h : n.toNat = c.val) (w : Byte) (s : State) :
    exec (.grant n w) s = .next (s.grant c w.toNat) := by
  simp only [exec, execGrant, crossingOf_eq h]

theorem clamp_window (w : Nat) : clamp Config.windowMin Config.windowMax w = max 1 (min w 30) := by
  rw [clamp_eq (by decide), min_comm]
  rfl

/-- The grant that passes every check, and its answer. -/
theorem State.grant_waiting {s : State} {c : Crossing} {w : Nat} (on : (s.store.crossing c).enabled = true)
    (clear : (look s.aspects c).fault = none) (idle : s.table.servingSlot c = none) (shows : (look s.aspects c).observed = .dontWalk)
    {i : RecordSlot} (waits : s.table.waitingSlot c = some i) :
    s.grant c w = ((s.onTable fun t => t.edit i (moveTo (.granted (max 1 (min w 30) * 1000)))).findGate c).answer (okOr (max 1 (min w 30) != w)) := by
  simp [State.grant, on, clear, idle, shows, waits, clamp_window]

theorem State.grant_recall {s : State} {c : Crossing} {w : Nat} (on : (s.store.crossing c).enabled = true)
    (clear : (look s.aspects c).fault = none) (idle : s.table.servingSlot c = none) (shows : (look s.aspects c).observed = .dontWalk)
    (none_waits : s.table.waitingSlot c = none) {i : RecordSlot} (free : s.table.freeSlot = some i) :
    s.grant c w = ((s.onTable fun t => t.fill i (newRecord s.store c (.granted (max 1 (min w 30) * 1000)) .recall .standard [] 0
      s.store.streetTime)).findGate c).answer (okOr (max 1 (min w 30) != w)) := by
  simp [State.grant, on, clear, idle, shows, none_waits, CallTable.makeRecall, free, clamp_window]
  rfl

theorem State.grant_full {s : State} {c : Crossing} {w : Nat} (on : (s.store.crossing c).enabled = true)
    (clear : (look s.aspects c).fault = none) (idle : s.table.servingSlot c = none) (shows : (look s.aspects c).observed = .dontWalk)
    (none_waits : s.table.waitingSlot c = none) (full : s.table.freeSlot = none) : s.grant c w = s.answer .full := by
  simp [State.grant, on, clear, idle, shows, none_waits, CallTable.makeRecall, full]

theorem okOr_window (w : Nat) : okOr (max 1 (min w 30) != w) = if 1 ≤ w ∧ w ≤ 30 then .ok else .adjusted := by
  by_cases inside : 1 ≤ w ∧ w ≤ 30
  · rw [if_pos inside]
    have same : max 1 (min w 30) = w := by omega
    simp [same, okOr]
  · rw [if_neg inside]
    have other : max 1 (min w 30) ≠ w := by omega
    simp [other, okOr]

theorem unwalked_of_idle {t : CallTable} {c : Crossing} (h : ¬ HasRecord t c CallState.isServing) :
    ¬ HasRecord t c CallState.isWalking := fun walks => h (walks.mono fun _ => CallState.isServing_of_isWalking)

/-- Settles O14: the checks one after another; no WALKING record stands at a crossing that is granted, so its gate stays. -/
theorem grant : Obligations.Grant := by
  intro s n w c service gates at_
  rw [exec_grant at_]
  refine ⟨fun off => ?_, fun on => ⟨fun faulted => ?_, fun clear => ⟨fun serves => ?_, fun idle => ⟨fun other => ?_, fun shows =>
    ⟨fun i r here waits => ?_, fun none_waits full => ?_, fun none_waits hasFree => ?_⟩⟩⟩⟩⟩
  · simp [State.grant, off]
  · simp [State.grant, on, faulted]
  · simp [State.grant, on, clear, servingSlot_isSome.2 serves]
  · simp [State.grant, on, clear, servingSlot_eq_none.2 idle, other]
  · have unwalked := unwalked_of_idle idle
    rw [State.grant_waiting on clear (servingSlot_eq_none.2 idle) shows (service.onlyWaiting here waits).waitingSlot,
      gates.findGate_onTable unwalked (unwalked_edit unwalked fun _ => rfl), okOr_window]
    refine ⟨_, rfl, rfl, ?_, CallTable.edit_beside _ _ _⟩
    simp only [State.answer_table, State.onTable_table, CallTable.edit_look, if_true, here.1]
    rfl
  · rw [State.grant_full on clear (servingSlot_eq_none.2 idle) shows (waitingSlot_eq_none.2 none_waits) (freeSlot_eq_none.2 full)]
  · obtain ⟨i, free⟩ := Option.isSome_iff_exists.1 (freeSlot_isSome.2 hasFree)
    have unwalked := unwalked_of_idle idle
    rw [State.grant_recall on clear (servingSlot_eq_none.2 idle) shows (waitingSlot_eq_none.2 none_waits) free,
      gates.findGate_onTable unwalked (unwalked_fill unwalked rfl), okOr_window]
    refine ⟨_, i, rfl, rfl, freeSlot_some free, ?_, CallTable.fill_beside _ _ _⟩
    simp only [State.answer_table, State.onTable_table, CallTable.fill_look, if_true]
    rfl

/-! ## CANCEL (R60, R61) -/

theorem exec_cancel_waiting {n : Byte} {c : Crossing} (h : n.toNat = c.val) (s : State) :
    exec (.cancel n 0) s = .next (s.cancelWaiting c) := by
  simp only [exec, execCancel, crossingOf_eq h]
  rfl

theorem exec_cancel_serving {n : Byte} {c : Crossing} (h : n.toNat = c.val) (s : State) :
    exec (.cancel n 1) s = .next (s.cancelServing c) := by
  simp only [exec, execCancel, crossingOf_eq h]
  rfl

section Cancel

variable {s : State} {c : Crossing} {i : RecordSlot} {r : CallRecord}

theorem State.cancelWaiting_eq (service : ServiceLaw s) (here : RecordAt s.table c i r) (waits : r.state = .waiting) :
    s.cancelWaiting c = ((s.removeRecord i).settleCrossing c).answer .ok := by
  simp only [State.cancelWaiting, (service.onlyWaiting here waits).waitingSlot]

theorem State.cancelServing_eq (service : ServiceLaw s) (here : RecordAt s.table c i r) (granted : r.state.isGranted = true) :
    s.cancelServing c = ((s.removeRecord i).settleCrossing c).answer .ok := by
  simp only [State.cancelServing, (service.onlyGranted here granted).grantedSlot,
    (service.onlyServing here (CallState.isServing_of_isGranted granted)).servingSlot]

/-- A removal at a crossing without a WALKING record and without a pending copy changes the table alone. -/
theorem State.removeRecord_settled (gates : GateLaw s) (unwalked : ¬ HasRecord s.table c CallState.isWalking)
    (idle : (look s.store.crossings c).pending = none) : (s.removeRecord i).settleCrossing c = s.removeRecord i := by
  rw [State.settleCrossing_idle (by rwa [State.removeRecord_store])]
  exact gates.findGate_unwalked unwalked (unwalked_remove unwalked _) rfl

end Cancel

/-- Settles O15: by the record, the memo, or none that the crossing has. -/
theorem cancel : Obligations.Cancel := by
  intro s n c service gates at_
  refine ⟨fun i r target pending here which => ⟨(s.removeRecord i).settleCrossing c, rfl, ?_⟩, fun idle i r here waits => ?_,
    fun none_waits memo => ?_, fun none_waits absent => ?_, fun idle i r here granted => ?_, fun i r here serves other => ?_,
    fun none_serves => ?_⟩
  · rcases which with ⟨waits, rfl⟩ | ⟨granted, rfl⟩
    · rw [exec_cancel_waiting at_, State.cancelWaiting_eq service here waits]
      rfl
    · rw [exec_cancel_serving at_, State.cancelServing_eq service here granted]
      rfl
  · rw [exec_cancel_waiting at_, State.cancelWaiting_eq service here waits,
      State.removeRecord_settled gates (service.unwalked here (by rw [waits]; rfl)) idle]
    rfl
  · obtain ⟨m, hm⟩ := Option.isSome_iff_exists.1 memo
    rw [exec_cancel_waiting at_]
    simp only [State.cancelWaiting, waitingSlot_eq_none.2 none_waits, hm]
    rfl
  · rw [exec_cancel_waiting at_]
    simp only [State.cancelWaiting, waitingSlot_eq_none.2 none_waits, absent]
  · rw [exec_cancel_serving at_, State.cancelServing_eq service here granted,
      State.removeRecord_settled gates (service.unwalked here (CallState.isWalking_of_isGranted granted)) idle]
    rfl
  · have only := service.onlyServing here serves
    rw [exec_cancel_serving at_]
    simp only [State.cancelServing, only.servingSlot,
      grantedSlot_eq_none.2 (only.no_other (fun _ => CallState.isServing_of_isGranted) other)]
  · rw [exec_cancel_serving at_]
    simp only [State.cancelServing, servingSlot_eq_none.2 none_serves]

/-! ## CLEAR FAULT (R98) -/

/-- Settles O16: by the fault and the observed aspect. -/
theorem clearFault : Obligations.ClearFault := by
  intro s n c at_
  refine ⟨fun faulted shows => ?_, fun faulted other => ?_, fun clear => ?_⟩
  · obtain ⟨k, hk⟩ := Option.isSome_iff_exists.1 faulted
    refine ⟨(s.onAspect c AspectState.clearFault).answer .ok, ?_, rfl, beside_change _ _ _, ?_⟩
    · simp only [exec, execClearFault, crossingOf_eq at_, hk, shows, if_true]
    · simp only [State.answer_aspects, State.onAspect_aspects, look_change_self, AspectState.clearFault, AspectState.atLimit]
      cases (look s.aspects c).undecodable <;> rfl
  · obtain ⟨k, hk⟩ := Option.isSome_iff_exists.1 faulted
    simp only [exec, execClearFault, crossingOf_eq at_, hk, if_neg other]
  · simp only [exec, execClearFault, crossingOf_eq at_, clear]

/-! ## GRANT_WINDOW_EXPIRY (R70) -/

/-- The state in which a GRANTED record at i has returned to WAITING with the notice (R70). -/
def State.expired (s : State) (c : Crossing) (i : RecordSlot) : State :=
  (s.onTable fun t => t.edit i (moveTo .waiting)).onGrant c fun g => { g with expired := true }

/-- At a transfer point a pending copy becomes the active one (R5). -/
theorem State.settleCrossing_profile {s : State} {c : Crossing} {new : CrossingProfile}
    (pending : (look s.store.crossings c).pending = some new) (point : s.crossingTransferPoint c = true) :
    look (s.settleCrossing c).store.crossings c = { active := new, pending := none } := by
  have made : (s.settleCrossing c).store = (s.takeProfile c new).store := by
    simp only [State.settleCrossing, State.testTransfer, pending, point, if_true, State.findGate_store, State.transferCrossing_eq]
    split <;> simp
  rw [made, State.takeProfile_store, look_put_self]

/-- A crossing whose only serving record was GRANTED is at its transfer point once that record waits. -/
theorem State.expired_transferPoint {s : State} {c : Crossing} {i : RecordSlot} {r : CallRecord} (service : ServiceLaw s)
    (here : RecordAt s.table c i r) (granted : r.state.isGranted = true) : (s.expired c i).crossingTransferPoint c = true := by
  obtain ⟨-, -, fits⟩ := service.servingFits i r here.1 (by
    cases h : r.state <;> simp_all [CallState.isGranted, CallState.isWaiting])
  have quiet : (look s.aspects c).observed.isQuiet = true := by
    rw [here.2] at fits
    cases h : r.state <;> simp only [h, CallState.isGranted, Bool.false_eq_true] at granted
    rw [h] at fits
    rcases fits with shows | shows <;> rw [shows] <;> rfl
  have unserved : (s.expired c i).table.servingSlot c = none := by
    rw [servingSlot_eq_none]
    rintro ⟨j, q, hq, serves⟩
    have alone : ∀ j q, RecordAt s.table c j q → j = i := fun j q h =>
      (service.joinableAlone i j r q here.1 h.1 (here.2.trans h.2.symm) (CallState.isJoinable_of_isGranted granted)).symm
    rw [CallTable.edit_alone (f := moveTo .waiting) here alone (fun _ => rfl) hq] at serves
    cases serves
  have lamps : (s.expired c i).aspects = s.aspects := rfl
  simp [State.crossingTransferPoint, unserved, lamps, quiet]

/-- Settles O17: the record waits again, the notice is set, and the transfer point holds for a pending copy. -/
theorem grantWindowExpiry : Obligations.GrantWindowExpiry := by
  intro s c service gates
  refine ⟨fun i r here granted => ?_, fun idle => exec_grantWindowExpiry_none (grantedSlot_eq_none.2 idle)⟩
  have expires : exec (.grantWindowExpiry c) s = .next ((s.expired c i).settleCrossing c) :=
    exec_grantWindowExpiry_some (service.onlyGranted here granted).grantedSlot
  have record : look (s.expired c i).table.records i = some { r with state := .waiting, seen := false } := by
    simp only [State.expired, State.onGrant_table, State.onTable_table, CallTable.edit_look, if_true, here.1]
    rfl
  have notice : look (s.expired c i).grants c = { look s.grants c with expired := true } := by
    simp only [State.expired, State.onGrant_grants, look_change_self, State.onTable_grants]
  refine ⟨fun idle => ?_, fun new pending => ?_⟩
  · have unwalked := service.unwalked here (CallState.isWalking_of_isGranted granted)
    have settled : (s.expired c i).settleCrossing c = s.expired c i := by
      rw [State.settleCrossing_idle (s := s.expired c i) idle]
      exact gates.findGate_unwalked unwalked (unwalked_edit unwalked fun _ => rfl) rfl
    rw [settled] at expires
    exact ⟨_, expires, rfl, record, CallTable.edit_beside _ _ _, notice, beside_change _ _ _⟩
  · exact ⟨s.expired c i, _, expires, rfl, rfl, record, CallTable.edit_beside _ _ _, notice, beside_change _ _ _,
      State.settleCrossing_profile pending (State.expired_transferPoint service here granted)⟩

/-! ## Accepted declarations (R73 to R78) -/

/-- Settles O24: by the record that the crossing has. -/
theorem declarationsMoveRecords : Obligations.DeclarationsMoveRecords := by
  intro s c
  refine ⟨fun i r takes => ?_, fun none_granted none_waits => ⟨fun hasFree => ?_, fun full => ?_⟩, fun i r start only walks => ?_,
    fun none_walks => ?_, fun i r only => ?_, fun none_serves => ?_⟩
  · rcases takes with only | ⟨none_granted, only⟩
    · simp only [State.walkDeclared, only.grantedSlot]
      exact congrArg (fun t => { s with table := t }) (CallTable.edit_eq_put only.1.1 _)
    · simp only [State.walkDeclared, grantedSlot_eq_none.2 none_granted, only.waitingSlot]
      exact congrArg (fun t => { s with table := t }) (CallTable.edit_eq_put only.1.1 _)
  · obtain ⟨k, free⟩ := Option.isSome_iff_exists.1 (freeSlot_isSome.2 hasFree)
    refine ⟨k, freeSlot_some free, ?_⟩
    simp only [State.walkDeclared, grantedSlot_eq_none.2 none_granted, waitingSlot_eq_none.2 none_waits, CallTable.makeRecall, free]
    rfl
  · simp only [State.walkDeclared, grantedSlot_eq_none.2 none_granted, waitingSlot_eq_none.2 none_waits, CallTable.makeRecall,
      freeSlot_eq_none.2 full]
    rfl
  · have cleared : toClearing r = { r with state := .clearing start, seen := false } := by
      simp only [toClearing, walks, moveTo]
    simp only [State.clearanceDeclared, only.walkingSlot]
    rw [← cleared]
    exact congrArg (fun t => { s with table := t }) (CallTable.edit_eq_put only.1.1 _)
  · simp only [State.clearanceDeclared, walkingSlot_eq_none.2 none_walks]
    cases h : (look s.grants c).unrecorded <;> simp
    rfl
  · have walking : r.state.isWalking = true → s.table.walkingSlot c = some i := fun h =>
      (only.narrow (fun _ => CallState.isServing_of_isWalking) h).walkingSlot
    have no_walking : r.state.isWalking = false → s.table.walkingSlot c = none := fun h =>
      walkingSlot_eq_none.2 (only.no_other (fun _ => CallState.isServing_of_isWalking) h)
    cases granted : r.state.isGranted with
    | true =>
      have found := (only.narrow (fun _ => CallState.isServing_of_isGranted) granted).grantedSlot
      simp only [State.dontWalkDeclared, only.servingSlot, no_walking (CallState.isWalking_of_isGranted granted), found, if_true]
    | false =>
      have none_granted := grantedSlot_eq_none.2 (only.no_other (fun _ => CallState.isServing_of_isGranted) granted)
      cases walks : r.state.isWalking with
      | true =>
        simp only [State.dontWalkDeclared, only.servingSlot, walking walks]
        rfl
      | false =>
        simp only [State.dontWalkDeclared, only.servingSlot, no_walking walks, none_granted]
        rfl
  · simp only [State.dontWalkDeclared, servingSlot_eq_none.2 none_serves]
    cases h : (look s.grants c).unrecorded <;> simp <;> rfl

end Sys2Proof.Machine

/-! Lamps: what stays of a crossing's lamps, what a fault leaves, and what a judgement leaves, in the words of the statements
(R86 to R98). LAMP_LINE_CHANGE, UNDECODABLE_LIMIT and the granted walk. -/

namespace Sys2Proof.Machine

/-! ## Operations one after another -/

section Compose

variable (s : State) (c : Crossing) (f g : AspectState → AspectState) (a : Aspect)

/-- Two changes of a crossing's lamps are one. -/
theorem State.onAspect_onAspect : (s.onAspect c f).onAspect c g = s.onAspect c (fun x => g (f x)) := by
  simp only [State.onAspect, change_eq_put, look_put_self, put_put]

/-- What changes the lamps depends on the lamps as they stand alone. -/
theorem State.onAspect_const : s.onAspect c f = s.onAspect c fun _ => f (look s.aspects c) := rfl

/-- The Grant Controller does not read the lamps. -/
theorem State.walkDeclared_onAspect : (s.onAspect c f).walkDeclared c = (s.walkDeclared c).onAspect c f := by
  simp only [State.walkDeclared, State.onAspect_table, State.onAspect_store]
  split
  · rfl
  · split
    · rfl
    · split <;> rfl

theorem State.clearanceDeclared_onAspect : (s.onAspect c f).clearanceDeclared c = (s.clearanceDeclared c).onAspect c f := by
  simp only [State.clearanceDeclared, State.onAspect_table, State.onAspect_grants]
  split
  · rfl
  · split <;> rfl

theorem State.dontWalkDeclared_onAspect : (s.onAspect c f).dontWalkDeclared c = (s.dontWalkDeclared c).onAspect c f := by
  simp only [State.dontWalkDeclared, State.onAspect_table, State.onAspect_grants]
  split
  · split <;> rfl
  · split <;> rfl

theorem State.handDeclaration_onAspect : (s.onAspect c f).handDeclaration c a = (s.handDeclaration c a).onAspect c f := by
  cases a with
  | unknown => rfl
  | dark => rfl
  | conflict => rfl
  | walk => exact s.walkDeclared_onAspect c f
  | clearance => exact s.clearanceDeclared_onAspect c f
  | dontWalk => exact s.dontWalkDeclared_onAspect c f

end Compose

/-! ## The lines' own part of the lamps -/

/-- The lines' levels, steady times and flash run are the same (R86). -/
def AspectState.SameLines (x y : AspectState) : Prop :=
  y.w = x.w ∧ y.d = x.d ∧ y.wSteady = x.wSteady ∧ y.dSteady = x.dSteady ∧ y.run = x.run ∧ y.dSeen = x.dSeen

namespace AspectState.SameLines

variable {x y z : AspectState}

theorem refl (x : AspectState) : SameLines x x := ⟨rfl, rfl, rfl, rfl, rfl, rfl⟩

theorem of_eq (h : y = x) : SameLines x y := h ▸ refl x

theorem trans (h : SameLines x y) (k : SameLines y z) : SameLines x z := by
  obtain ⟨h1, h2, h3, h4, h5, h6⟩ := h
  obtain ⟨k1, k2, k3, k4, k5, k6⟩ := k
  exact ⟨k1.trans h1, k2.trans h2, k3.trans h3, k4.trans h4, k5.trans h5, k6.trans h6⟩

/-- The qualifying aspect reads the lines alone. -/
theorem qualifying (h : SameLines x y) (n : Nat) : y.qualifying n = x.qualifying n := by
  obtain ⟨h1, h2, h3, h4, h5, -⟩ := h
  simp only [AspectState.qualifying, h1, h2, h3, h4, h5]

end AspectState.SameLines

section Lines

variable (s : State) (c : Crossing)

theorem State.onAspect_lines {f : AspectState → AspectState} (h : ∀ x, AspectState.SameLines x (f x)) :
    (look s.aspects c).SameLines (look (s.onAspect c f).aspects c) := by
  rw [State.onAspect_aspects, look_change_self]
  exact h _

theorem State.raiseFault_lines (k : FaultKind) : (look s.aspects c).SameLines (look (s.raiseFault c k).aspects c) := by
  rw [State.raiseFault, State.onGrant_aspects, State.dropService_aspects]
  exact s.onAspect_lines c fun _ => .refl _

theorem State.judge_lines (a : Aspect) : (look s.aspects c).SameLines (look (s.judge c a).aspects c) := by
  have shown := s.onAspect_lines c (f := fun x => { x with observed := a }) fun _ => .refl _
  unfold State.judge
  dsimp only
  split
  · split
    · split
      · rwa [State.handDeclaration_aspects]
      · exact shown.trans (State.raiseFault_lines _ c _)
    · split
      · exact shown
      · exact shown.trans (State.onAspect_lines _ c fun _ => .refl _)
  · exact shown

theorem State.declare_lines (a : Aspect) : (look s.aspects c).SameLines (look (s.declare c a).aspects c) := by
  rw [State.declare_eq]
  split
  · rw [State.completeWaits_aspects]
    exact s.judge_lines c a
  · exact s.judge_lines c a

theorem AspectState.startMeasure_lines (x : AspectState) : x.SameLines x.startMeasure := by
  unfold AspectState.startMeasure
  split <;> exact .refl _

theorem State.retest_lines : (look s.aspects c).SameLines (look (s.retest c).aspects c) := by
  unfold State.retest
  split
  · exact s.onAspect_lines c AspectState.startMeasure_lines
  · have stopped := s.onAspect_lines c (f := fun x => { x with undecodable := none }) fun _ => .refl _
    dsimp only
    split
    · exact stopped
    · exact stopped.trans (State.declare_lines _ c _)

theorem State.enablingCheck_lines : (look s.aspects c).SameLines (look (s.enablingCheck c).aspects c) := by
  unfold State.enablingCheck
  split
  · exact .refl _
  · split
    · exact .refl _
    · split
      · rw [State.handDeclaration_aspects]
        exact .refl _
      · exact s.raiseFault_lines c _

theorem State.enablingLimit_lines : (look s.aspects c).SameLines (look (s.enablingLimit c).aspects c) := by
  unfold State.enablingLimit
  split
  · split
    next m _ _ _ =>
      have marked := s.onAspect_lines c (f := fun x => { x with undecodable := some { m with acted := true } }) fun _ => .refl _
      exact marked.trans (State.raiseFault_lines _ c _)
    next => exact .refl _
  · exact .refl _

theorem State.transferCrossing_lines (new : CrossingProfile) :
    (look s.aspects c).SameLines (look (s.transferCrossing c new).aspects c) := by
  have taken : (look s.aspects c).SameLines (look (s.takeProfile c new).aspects c) := by
    rw [State.takeProfile_aspects]
    exact .refl _
  rw [State.transferCrossing_eq]
  split
  · exact ((taken.trans (State.enablingCheck_lines _ c)).trans (State.retest_lines _ c)).trans (State.enablingLimit_lines _ c)
  · exact taken.trans (State.retest_lines _ c)

theorem State.settleCrossing_lines : (look s.aspects c).SameLines (look (s.settleCrossing c).aspects c) := by
  rw [State.settleCrossing, State.findGate_aspects]
  unfold State.testTransfer
  split
  · exact .refl _
  · split
    · exact s.transferCrossing_lines c _
    · exact .refl _

end Lines

/-- What a change of the two levels makes of the lines (R86, log 11). -/
theorem AspectState.changeLines_run (w d : Bool) (x : AspectState) :
    (d ≠ x.d → (x.changeLines w d).run =
      if w = x.w ∧ x.wSteady ≠ 0 ∧ x.dSeen = true ∧ 200 ≤ x.dSteady ∧ x.dSteady ≤ 1200 then x.run.grow else .one) ∧
    (d = x.d → w = x.w ∨ x.dSteady ≠ 0 → (x.changeLines w d).run = x.run) := by
  by_cases hw : x.w = w <;> by_cases hd : x.d = d
  · simp [AspectState.changeLines, hw, hd]
  · refine ⟨fun _ => ?_, fun same => absurd same.symm hd⟩
    simp only [AspectState.changeLines, hw, hd, if_true, if_false, AspectState.changeD, Config.flashMin, Config.flashMax]
    refine if_congr ?_ rfl rfl
    tauto
  · refine ⟨fun differs => absurd hd.symm differs, fun _ stays => ?_⟩
    have later : x.dSteady ≠ 0 := stays.resolve_left fun same => hw same.symm
    simp [AspectState.changeLines, hw, hd, AspectState.changeW, later]
  · refine ⟨fun _ => ?_, fun same => absurd same.symm hd⟩
    have other : ¬ w = x.w := fun same => hw same.symm
    simp [AspectState.changeLines, hw, hd, AspectState.changeW, AspectState.changeD, other]

theorem AspectState.changeLines_levels (w d : Bool) (x : AspectState) :
    (x.changeLines w d).w = w ∧ (x.changeLines w d).d = d ∧
      (x.changeLines w d).wSteady = (if w = x.w then x.wSteady else 0) ∧
      (x.changeLines w d).dSteady = (if d = x.d then x.dSteady else 0) := by
  by_cases hw : x.w = w
  · subst hw
    by_cases hd : x.d = d
    · subst hd
      simp [AspectState.changeLines]
    · simp [AspectState.changeLines, AspectState.changeD, hd, Ne.symm hd]
  · by_cases hd : x.d = d
    · subst hd
      simp [AspectState.changeLines, AspectState.changeW, hw, Ne.symm hw]
    · simp [AspectState.changeLines, AspectState.changeW, AspectState.changeD, hw, hd, Ne.symm hw, Ne.symm hd]

/-- Settles O27: what follows the change of the levels leaves the lines as they are. -/
theorem lampLineChange : Obligations.LampLineChange := by
  intro s c w d
  have kept := (((s.onAspect c (AspectState.changeLines w d)).retest_lines c).trans (State.settleCrossing_lines _ c))
  rw [State.onAspect_aspects, look_change_self] at kept
  obtain ⟨level_w, level_d, steady_w, steady_d⟩ := (look s.aspects c).changeLines_levels w d
  obtain ⟨moved, stayed⟩ := (look s.aspects c).changeLines_run w d
  obtain ⟨k1, k2, k3, k4, k5, -⟩ := kept
  exact ⟨_, exec_lampLineChange c w d s, k1.trans level_w, k2.trans level_d, k3.trans steady_w, k4.trans steady_d,
    fun h => k5.trans (moved h), fun h h' => k5.trans (stayed h h'),
    (((OnlyAt.onAspect _).trans (.retest _)).trans (.settleCrossing _)).lamps⟩

/-! ## Faults (R81, R95) -/

theorem State.dropService_unserved {s : State} {c : Crossing} (h : ¬ HasRecord s.table c CallState.isServing) : s.dropService c = s := by
  simp only [State.dropService, servingSlot_eq_none.2 h]

theorem State.dropService_table {s : State} {c : Crossing} {k : RecordSlot} {r : CallRecord}
    (only : OnlyRecord s.table c CallState.isServing k r) :
    (s.dropService c).table =
      if r.state.isGranted then { s.table with records := put s.table.records k (some { r with state := .waiting, seen := false }) }
      else s.table.remove s.store k := by
  cases granted : r.state.isGranted with
  | true =>
    simp only [State.dropService, only.servingSlot, (only.narrow (fun _ => CallState.isServing_of_isGranted) granted).grantedSlot]
    exact CallTable.edit_eq_put only.1.1 _
  | false =>
    simp only [State.dropService, only.servingSlot, grantedSlot_eq_none.2 (only.no_other (fun _ => CallState.isServing_of_isGranted) granted)]
    rfl

/-- A fault raised after a change of the lamps, in the words of the statements. -/
theorem faultRaised_onAspect (s : State) (c : Crossing) (k : FaultKind) (x : AspectState) :
    FaultRaised s c k x ((s.onAspect c fun _ => x).raiseFault c k) := by
  refine ⟨?_, ?_, ?_, ?_, fun unserved => ?_, fun i r only => ?_⟩
  · simp [State.raiseFault]
  · exact ((OnlyAt.onAspect _).trans (.raiseFault _ _)).lamps
  · simp [State.raiseFault]
  · exact ((OnlyAt.onAspect (fun _ => x)).trans (.raiseFault _ _)).grants
  · rw [State.raiseFault, State.onGrant_table, State.dropService_unserved (by exact unserved)]
    rfl
  · exact State.dropService_table (s := (s.onAspect c fun _ => x).onAspect c fun x => { x with fault := some k, further := false, notice := true }) only

theorem faultRaised (s : State) (c : Crossing) (k : FaultKind) : FaultRaised s c k (look s.aspects c) (s.raiseFault c k) := by
  have same : (s.onAspect c fun _ => look s.aspects c) = s := by
    simp [State.onAspect, change_eq_put]
  have raised := faultRaised_onAspect s c k (look s.aspects c)
  rwa [same] at raised

/-- A faulted crossing's gate is found closed (R121). -/
theorem State.findGate_faulted {s : State} {c : Crossing} {k : FaultKind} (h : (look s.aspects c).fault = some k) :
    look (s.findGate c).cues.gates c = false := by
  rw [State.findGate_look]
  simp [State.gateCondition, h]

/-! ## The Profile Store's pending copies -/

/-- Two stores with the same active profiles of crossings and the same street time. -/
def SameCrossings (p q : ProfileStore) : Prop := (∀ c, q.crossing c = p.crossing c) ∧ q.streetTime = p.streetTime

/-- The state with another store. -/
def State.withStore (q : ProfileStore) (s : State) : State := { s with store := q }

section WithStore

variable {s : State} {q : ProfileStore} {c : Crossing}

theorem newRecord_congr {p q : ProfileStore} (h : SameCrossings p q) : newRecord q = newRecord p := by
  funext c x o k l n d
  simp only [newRecord, h.1]

theorem CallTable.allocate_congr {p q : ProfileStore} (h : SameCrossings p q) (t : CallTable) : t.allocate q = t.allocate p := by
  simp only [CallTable.allocate, h.2, newRecord_congr h]

theorem CallTable.remove_congr {p q : ProfileStore} (h : SameCrossings p q) (t : CallTable) (i : RecordSlot) : t.remove q i = t.remove p i :=
  CallTable.allocate_congr h _

theorem CallTable.makeRecall_congr {p q : ProfileStore} (h : SameCrossings p q) (t : CallTable) (x : CallState) :
    t.makeRecall q c x = t.makeRecall p c x := by
  simp only [CallTable.makeRecall, h.2, newRecord_congr h]

variable (h : SameCrossings s.store q)
include h

theorem State.withStore_removeRecord (i : RecordSlot) : (s.withStore q).removeRecord i = (s.removeRecord i).withStore q := by
  simp only [State.removeRecord, State.onTable, State.withStore, CallTable.remove_congr h]

theorem State.withStore_dropService : (s.withStore q).dropService c = (s.dropService c).withStore q := by
  simp only [State.dropService, State.withStore_removeRecord h]
  simp only [State.withStore]
  split
  · rfl
  · split <;> rfl

omit h in
theorem State.withStore_onAspect (s : State) (q : ProfileStore) (c : Crossing) (f : AspectState → AspectState) :
    (s.withStore q).onAspect c f = (s.onAspect c f).withStore q := rfl

theorem State.withStore_raiseFault (k : FaultKind) : (s.withStore q).raiseFault c k = (s.raiseFault c k).withStore q := by
  simp only [State.raiseFault, State.withStore_onAspect]
  rw [State.withStore_dropService (by exact h)]
  rfl

theorem State.withStore_walkDeclared : (s.withStore q).walkDeclared c = (s.walkDeclared c).withStore q := by
  simp only [State.walkDeclared, State.withStore, h.2, CallTable.makeRecall_congr h]
  split
  · rfl
  · split
    · rfl
    · split <;> rfl

omit h in
theorem State.withStore_clearanceDeclared (s : State) (q : ProfileStore) (c : Crossing) :
    (s.withStore q).clearanceDeclared c = (s.clearanceDeclared c).withStore q := by
  simp only [State.clearanceDeclared, State.withStore]
  split
  · rfl
  · split <;> rfl

theorem State.withStore_dontWalkDeclared : (s.withStore q).dontWalkDeclared c = (s.dontWalkDeclared c).withStore q := by
  simp only [State.dontWalkDeclared, State.withStore_removeRecord h]
  simp only [State.withStore]
  split
  · split <;> rfl
  · split <;> rfl

theorem State.withStore_handDeclaration (a : Aspect) : (s.withStore q).handDeclaration c a = (s.handDeclaration c a).withStore q := by
  cases a with
  | unknown => rfl
  | dark => rfl
  | conflict => rfl
  | walk => exact State.withStore_walkDeclared h
  | clearance => exact State.withStore_clearanceDeclared s q c
  | dontWalk => exact State.withStore_dontWalkDeclared h

theorem State.withStore_checkSequence (x a : Aspect) : (s.withStore q).checkSequence c x a = s.checkSequence c x a := by
  simp only [State.checkSequence, State.withStore, h.1]

theorem State.withStore_judge (a : Aspect) : (s.withStore q).judge c a = (s.judge c a).withStore q := by
  have shown : SameCrossings (s.onAspect c fun x => { x with observed := a }).store q := h
  simp only [State.judge, State.withStore_onAspect, State.withStore_checkSequence shown, State.withStore_handDeclaration shown,
    State.withStore_raiseFault shown]
  simp only [State.withStore, h.1]
  split
  · split
    · split <;> rfl
    · split <;> rfl
  · rfl

theorem State.withStore_declare (a : Aspect) : (s.withStore q).declare c a = (s.declare c a).withStore q := by
  rw [State.declare_eq, State.declare_eq, State.withStore_judge h]
  split <;> rfl

theorem State.withStore_retest : (s.withStore q).retest c = (s.retest c).withStore q := by
  have stopped : SameCrossings (s.onAspect c fun x => { x with undecodable := none }).store q := h
  have profile : (s.withStore q).store.crossing c = s.store.crossing c := h.1 c
  cases shows : (look s.aspects c).qualifying (s.store.crossing c).settle with
  | none =>
    rw [State.retest_none shows, State.retest_none (s := s.withStore q) (by rwa [profile]), State.withStore_onAspect]
  | some a =>
    by_cases same : a = (look s.aspects c).observed
    · rw [State.retest_same shows same, State.retest_same (s := s.withStore q) (by rwa [profile]) same, State.withStore_onAspect]
    · rw [State.retest_declares shows same, State.retest_declares (s := s.withStore q) (by rwa [profile]) same, State.withStore_onAspect,
        State.withStore_declare stopped]

theorem State.withStore_limitReached : (s.withStore q).limitReached c = (s.limitReached c).withStore q := by
  simp only [State.limitReached, State.withStore_raiseFault h]
  simp only [State.withStore, h.1]
  split
  · split <;> rfl
  · rfl

end WithStore

/-- The store with crossing c's pending copy taken away. -/
def ProfileStore.unpend (c : Crossing) (p : ProfileStore) : ProfileStore :=
  { p with crossings := put p.crossings c { look p.crossings c with pending := none } }

theorem ProfileStore.unpend_pending (c : Crossing) (p : ProfileStore) : (look (p.unpend c).crossings c).pending = none := by
  simp [ProfileStore.unpend]

theorem sameCrossings_unpend (c : Crossing) (p : ProfileStore) : SameCrossings p (p.unpend c) := by
  refine ⟨fun d => ?_, rfl⟩
  simp only [ProfileStore.crossing, ProfileStore.unpend, look_put]
  split
  next hd => rw [hd]
  next => rfl

/-- What an event at a crossing does before its transfer test is what it does without a pending copy (log 36). -/
theorem State.settle_unpended {s t : State} {c : Crossing} (settled : (s.withStore (s.store.unpend c)).settleCrossing c = t) :
    s.settleCrossing c = State.settleCrossing c { t with store := s.store, cues := s.cues } := by
  rw [← settled, State.settleCrossing_idle (s := s.withStore (s.store.unpend c)) (ProfileStore.unpend_pending c s.store)]
  congr 1
  simp [State.withStore]

end Sys2Proof.Machine

/-! What a lamp event declares, and what the undecodable limit does (R87 to R98). -/

namespace Sys2Proof.Machine

/-! ## A judgement, case by case -/

section Judged

variable {s : State} {c : Crossing} {a : Aspect} {y : AspectState}

/-- The state in which crossing c's lamps are y. -/
def State.withLamps (s : State) (c : Crossing) (y : AspectState) : State := s.onAspect c fun _ => y

@[simp] theorem State.withLamps_aspects (s : State) (c : Crossing) (y : AspectState) : look (s.withLamps c y).aspects c = y :=
  look_change_self _ _ _

@[simp] theorem State.withLamps_store (s : State) (c : Crossing) (y : AspectState) : (s.withLamps c y).store = s.store := rfl

@[simp] theorem State.withLamps_onAspect (s : State) (c : Crossing) (y : AspectState) (f : AspectState → AspectState) :
    (s.withLamps c y).onAspect c f = s.withLamps c (f y) := State.onAspect_onAspect s c _ _

theorem State.judge_holds (s : State) (c : Crossing) (a : Aspect) : (s.judge c a).holds = s.holds := by
  unfold State.judge
  dsimp only
  split
  · split
    · split <;> simp
    · split <;> simp
  · rfl

theorem State.declare_table (s : State) (c : Crossing) (a : Aspect) : (s.declare c a).table = (s.judge c a).table := by
  rw [State.declare_eq]
  split <;> simp

theorem State.declare_grants (s : State) (c : Crossing) (a : Aspect) : (s.declare c a).grants = (s.judge c a).grants := by
  rw [State.declare_eq]
  split <;> simp

theorem State.declare_aspects (s : State) (c : Crossing) (a : Aspect) : (s.declare c a).aspects = (s.judge c a).aspects := by
  rw [State.declare_eq]
  split <;> simp

theorem State.declare_holds_eq (s : State) (c : Crossing) (a : Aspect) :
    (s.declare c a).holds = if a = .dontWalk then { s.holds with flags := change s.holds.flags c HoldFlags.completeWaits } else s.holds := by
  rw [State.declare_eq]
  split
  · simp only [State.completeWaits, State.onHolds, State.judge_holds]
  · exact s.judge_holds c a

/-- On a disabled crossing a declaration changes the observed aspect alone (R100). -/
theorem judged_disabled (off : (s.store.crossing c).enabled = false) :
    (s.withLamps c y).judge c a = s.withLamps c { y with observed := a } := by
  rw [State.judge_disabled (s := s.withLamps c y) off, State.withLamps_onAspect]

/-- On a FAULTED crossing a declaration may be a further fault (R97). -/
theorem judged_faulted {k : FaultKind} (on : (s.store.crossing c).enabled = true) (faulted : y.fault = some k) {again : Bool}
    (check : again = (sequenceFault y.observed a false (s.store.crossing c).recallPermitted (s.store.crossing c).darkPermitted).isSome) :
    (s.withLamps c y).judge c a =
      s.withLamps c { y with observed := a, further := y.further || again, notice := y.notice || again } := by
  cases found : sequenceFault y.observed a false (s.store.crossing c).recallPermitted (s.store.crossing c).darkPermitted with
  | none =>
    obtain rfl : again = false := by rw [check, found]; rfl
    rw [State.judge_faulted (s := s.withLamps c y) on (by simpa using faulted) (by simpa using found), State.withLamps_onAspect]
    simp
  | some f =>
    obtain rfl : again = true := by rw [check, found]; rfl
    rw [State.judge_further (s := s.withLamps c y) on (by simpa using faulted) (by simpa using found), State.furtherFault,
      State.withLamps_onAspect, State.withLamps_onAspect]
    simp

/-- The sequence check raises its fault (R93, R95). -/
theorem judged_fault {k : FaultKind} (on : (s.store.crossing c).enabled = true) (clear : y.fault = none)
    (check : s.checkSequence c y.observed a = some k) :
    (s.withLamps c y).judge c a = (s.withLamps c { y with observed := a }).raiseFault c k := by
  rw [State.judge_fault (s := s.withLamps c y) on (by simpa using clear) (by rw [State.withLamps_aspects]; exact check),
    State.withLamps_onAspect]

/-- An accepted declaration is handed on (R92). -/
theorem judged_accepted (on : (s.store.crossing c).enabled = true) (clear : y.fault = none)
    (check : s.checkSequence c y.observed a = none) :
    (s.withLamps c y).judge c a = (s.handDeclaration c a).withLamps c { y with observed := a } := by
  rw [State.judge_accepted (s := s.withLamps c y) on (by simpa using clear) (by rw [State.withLamps_aspects]; exact check),
    State.withLamps_onAspect]
  exact State.handDeclaration_onAspect s c _ a

/-- Whatever a judgement finds, the aspect declared is the one observed and the measure stands. -/
theorem judged_lamps : (look ((s.withLamps c y).judge c a).aspects c).observed = a ∧
    (look ((s.withLamps c y).judge c a).aspects c).undecodable = y.undecodable := by
  cases on : (s.store.crossing c).enabled with
  | false => simp [judged_disabled on]
  | true =>
    cases fault : y.fault with
    | some k => simp [judged_faulted on fault rfl]
    | none =>
      cases check : s.checkSequence c y.observed a with
      | some k => simp [judged_fault on fault check, State.raiseFault]
      | none => simp [judged_accepted on fault check]

/-- The Grant Controller's answer in the check, in the words of the statements. -/
theorem checkSequence_eq {granted : Bool} (h : granted = true ↔ HasRecord s.table c CallState.isGranted) (x : Aspect) :
    s.checkSequence c x a = sequenceFault x a granted (s.store.crossing c).recallPermitted (s.store.crossing c).darkPermitted := by
  have same : (s.table.grantedSlot c).isSome = granted := by rw [Bool.eq_iff_iff, grantedSlot_isSome, h]
  rw [State.checkSequence, same]

end Judged

/-! ## The two rows that test the lamps -/

/-- Row i at crossing c tests its lamps, which it first leaves as y (R86, R87). -/
def LampRow (s : State) (c : Crossing) (i : Instr) (y : AspectState) : Prop :=
  (∃ w d, i = .lampLineChange c w d ∧ y = (look s.aspects c).changeLines w d) ∨
    ∃ m n, n = (if m = .settle then (s.store.crossing c).settle else 1500) ∧
      (i = .steadyTimeReached c .walk m ∧ y = { look s.aspects c with wSteady := max (look s.aspects c).wSteady n } ∨
        i = .steadyTimeReached c .dontWalk m ∧ y = { look s.aspects c with dSteady := max (look s.aspects c).dSteady n })

/-- What is not of the lines is the same. -/
def AspectState.SameFinding (x y : AspectState) : Prop :=
  y.observed = x.observed ∧ y.undecodable = x.undecodable ∧ y.fault = x.fault ∧ y.further = x.further ∧ y.notice = x.notice

theorem AspectState.changeLines_finding (w d : Bool) (x : AspectState) : x.SameFinding (x.changeLines w d) := by
  have changed : ∀ y : AspectState, x.SameFinding y → x.SameFinding (if y.d = d then y else y.changeD d) := fun y same => by
    split
    · exact same
    · exact same
  refine changed _ ?_
  split <;> exact ⟨rfl, rfl, rfl, rfl, rfl⟩

section Row

variable {s : State} {c : Crossing} {i : Instr} {y : AspectState}

theorem markTime_eq (m : SteadyMark) (n : Nat) : markTime m n = if m = .settle then n else 1500 := by cases m <;> rfl

theorem LampRow.exec_eq (row : LampRow s c i y) :
    exec i s = .next (((s.withLamps c y).retest c).settleCrossing c) := by
  rcases row with ⟨w, d, rfl, rfl⟩ | ⟨m, n, rfl, ⟨rfl, rfl⟩ | ⟨rfl, rfl⟩⟩
  · exact exec_lampLineChange c w d s
  · rw [exec_steadyTimeReached, markTime_eq]
    rfl
  · rw [exec_steadyTimeReached, markTime_eq]
    rfl

theorem LampRow.finding (row : LampRow s c i y) : (look s.aspects c).SameFinding y := by
  rcases row with ⟨w, d, rfl, rfl⟩ | ⟨m, n, rfl, ⟨rfl, rfl⟩ | ⟨rfl, rfl⟩⟩
  · exact (look s.aspects c).changeLines_finding w d
  · exact ⟨rfl, rfl, rfl, rfl, rfl⟩
  · exact ⟨rfl, rfl, rfl, rfl, rfl⟩

/-- A row that tests the lamps without a pending copy, before its transfer. -/
theorem LampRow.unpended (t : State) (row : (∃ w d, i = .lampLineChange c w d) ∨ ∃ l m, i = .steadyTimeReached c l m)
    (next : exec i (s.withStore (s.store.unpend c)) = .next t) :
    exec i s = exec (.crossingTransfer c) { t with store := s.store, cues := s.cues } := by
  have before : ∀ f : AspectState → AspectState, ∀ t,
      (((s.withStore (s.store.unpend c)).onAspect c f).retest c).settleCrossing c = t →
      ((s.onAspect c f).retest c).settleCrossing c = State.settleCrossing c { t with store := s.store, cues := s.cues } := by
    intro f t settled
    have stored : SameCrossings (s.onAspect c f).store (s.store.unpend c) := sameCrossings_unpend c s.store
    rw [State.withStore_onAspect, State.withStore_retest stored] at settled
    have ended := State.settle_unpended (s := (s.onAspect c f).retest c) (c := c) (t := t) (by simpa using settled)
    simpa using ended
  rcases row with ⟨w, d, rfl⟩ | ⟨l, m, rfl⟩
  · rw [exec_lampLineChange] at next ⊢
    rw [before _ t (next_inj next)]
    rfl
  · rw [exec_steadyTimeReached] at next ⊢
    have profile : (s.withStore (s.store.unpend c)).store.crossing c = s.store.crossing c := (sameCrossings_unpend c s.store).1 c
    rw [profile] at next
    rw [before _ t (next_inj next)]
    rfl

/-- Without a declaration the lamps alone change. -/
theorem GateLaw.findGate_withLamps (gates : GateLaw s) {y : AspectState} (observed : y.observed = (look s.aspects c).observed)
    (fault : y.fault = (look s.aspects c).fault) (m : Option Undecodable) :
    (s.withLamps c { y with undecodable := m }).findGate c = s.withLamps c { y with undecodable := m } :=
  (gates.of_lamps (fun _ => { y with undecodable := m }) (by rw [observed, fault])).findGate_eq c

theorem AspectState.startMeasure_eq (x : AspectState) : x.startMeasure =
    { x with undecodable := if x.undecodable.isSome then x.undecodable else some { time := 0, acted := false } } := by
  obtain ⟨w, d, wSteady, dSteady, dSeen, run, observed, undecodable, fault, further, notice, lapsed⟩ := x
  cases undecodable <;> rfl

theorem State.retest_withLamps_none (h : y.qualifying (s.store.crossing c).settle = none) :
    (s.withLamps c y).retest c = s.withLamps c { y with
      undecodable := if y.undecodable.isSome then y.undecodable else some { time := 0, acted := false } } := by
  rw [State.retest_none (by rw [State.withLamps_aspects]; exact h), State.withLamps_onAspect, AspectState.startMeasure_eq]

theorem State.retest_withLamps_same (h : y.qualifying (s.store.crossing c).settle = some y.observed) :
    (s.withLamps c y).retest c = s.withLamps c { y with undecodable := none } := by
  rw [State.retest_same (a := y.observed) (by rw [State.withLamps_aspects]; exact h) (by rw [State.withLamps_aspects]),
    State.withLamps_onAspect]

theorem State.retest_withLamps_declares {a : Aspect} (h : y.qualifying (s.store.crossing c).settle = some a) (differs : a ≠ y.observed) :
    (s.withLamps c y).retest c = (s.withLamps c { y with undecodable := none }).declare c a := by
  rw [State.retest_declares (a := a) (by rw [State.withLamps_aspects]; exact h) (by rwa [State.withLamps_aspects]),
    State.withLamps_onAspect]

end Row

/-! ## The qualifying aspect (R87) -/

/-- What the lines must show for each aspect. -/
theorem AspectState.qualifying_iff (x : AspectState) (settle : Nat) :
    (x.qualifying settle = some .walk ↔ x.w = true ∧ x.d = false ∧ settle ≤ x.wSteady ∧ settle ≤ x.dSteady) ∧
    (x.qualifying settle = some .conflict ↔ x.w = true ∧ x.d = true ∧ settle ≤ x.wSteady ∧ settle ≤ x.dSteady) ∧
    (x.qualifying settle = some .clearance ↔ x.w = false ∧ x.run = .twoOrMore ∧ x.dSteady < 1500) ∧
    (x.qualifying settle = some .dontWalk ↔ x.w = false ∧ x.d = true ∧ 1500 ≤ x.dSteady) ∧
    (x.qualifying settle = some .dark ↔ x.w = false ∧ x.d = false ∧ 1500 ≤ x.wSteady ∧ 1500 ≤ x.dSteady) ∧
    x.qualifying settle ≠ some .unknown := by
  unfold AspectState.qualifying Config.flashLoss
  cases w : x.w with
  | true =>
    by_cases steady : settle ≤ x.wSteady ∧ settle ≤ x.dSteady
    · cases d : x.d <;> simp [steady]
    · simp [steady]
  | false =>
    by_cases flashes : x.run = .twoOrMore ∧ x.dSteady < 1500
    · simp [flashes]
    · by_cases long : 1500 ≤ x.dSteady
      · cases d : x.d <;> by_cases dark : 1500 ≤ x.wSteady <;> simp [long, dark, Nat.not_lt.2 long]
      · have still : x.run ≠ .twoOrMore := fun h => flashes ⟨h, by omega⟩
        cases d : x.d <;> simp [still, long]

/-! ## A declaration made by a lamp event -/

section Declared

variable {s : State} {c : Crossing} {a : Aspect} {x y : AspectState}

/-- What a lamp event that declares a leaves, from lamps y (R87, R92, R121). -/
def State.afterDeclaring (s : State) (c : Crossing) (a : Aspect) (y : AspectState) : State :=
  ((s.withLamps c { y with undecodable := none }).declare c a).findGate c

/-- What the judgement in it makes of the table, the grants and the lamps. -/
theorem State.afterDeclaring_judge (s : State) (c : Crossing) (a : Aspect) (y : AspectState) :
    (s.afterDeclaring c a y).table = ((s.withLamps c { y with undecodable := none }).judge c a).table ∧
      (s.afterDeclaring c a y).grants = ((s.withLamps c { y with undecodable := none }).judge c a).grants ∧
      (s.afterDeclaring c a y).aspects = ((s.withLamps c { y with undecodable := none }).judge c a).aspects := by
  refine ⟨?_, ?_, ?_⟩ <;> rw [State.afterDeclaring]
  · rw [State.findGate_table, State.declare_table]
  · rw [State.findGate_grants, State.declare_grants]
  · rw [State.findGate_aspects, State.declare_aspects]

theorem State.afterDeclaring_lamps : (look (s.afterDeclaring c a y).aspects c).observed = a ∧
    (look (s.afterDeclaring c a y).aspects c).undecodable = none := by
  obtain ⟨-, -, lamps⟩ := s.afterDeclaring_judge c a y
  rw [lamps]
  exact judged_lamps

theorem State.afterDeclaring_holds : (s.afterDeclaring c a y).holds =
    if a = .dontWalk then { s.holds with flags := change s.holds.flags c HoldFlags.completeWaits } else s.holds := by
  rw [State.afterDeclaring, State.findGate_holds, State.declare_holds_eq]
  rfl

/-- A DONT_WALK declaration completes the cycle waits (R108). -/
theorem HoldFlags.completeWaits_line (f : HoldFlags) (l : HoldLine) :
    f.completeWaits.s = f.s ∧ f.completeWaits.wait l = false ∧
      (f.completeWaits.flag l = true ↔ f.flag l = true ∧ f.wait l = false) := by
  cases l <;> simp [HoldFlags.completeWaits, HoldFlags.wait, HoldFlags.flag]

theorem State.afterDeclaring_disabled (off : (s.store.crossing c).enabled = false) :
    look (s.afterDeclaring c a y).aspects c = { y with observed := a, undecodable := none } ∧
      (s.afterDeclaring c a y).table = s.table ∧ (s.afterDeclaring c a y).grants = s.grants := by
  obtain ⟨table, grants, lamps⟩ := s.afterDeclaring_judge c a y
  rw [table, grants, lamps, judged_disabled off]
  exact ⟨State.withLamps_aspects _ _ _, rfl, rfl⟩

theorem State.afterDeclaring_faulted {k : FaultKind} (on : (s.store.crossing c).enabled = true) (faulted : y.fault = some k) {again : Bool}
    (check : again = (sequenceFault y.observed a false (s.store.crossing c).recallPermitted (s.store.crossing c).darkPermitted).isSome) :
    look (s.afterDeclaring c a y).aspects c =
        { y with observed := a, undecodable := none, further := y.further || again, notice := y.notice || again } ∧
      (s.afterDeclaring c a y).table = s.table ∧ (s.afterDeclaring c a y).grants = s.grants := by
  obtain ⟨table, grants, lamps⟩ := s.afterDeclaring_judge c a y
  rw [table, grants, lamps, judged_faulted (y := { y with undecodable := none }) on faulted check]
  exact ⟨State.withLamps_aspects _ _ _, rfl, rfl⟩

theorem State.afterDeclaring_fault {k : FaultKind} (on : (s.store.crossing c).enabled = true) (clear : y.fault = none)
    (check : s.checkSequence c y.observed a = some k) :
    FaultRaised s c k { y with observed := a, undecodable := none } (s.afterDeclaring c a y) ∧
      look (s.afterDeclaring c a y).cues.gates c = false := by
  obtain ⟨table, grants, lamps⟩ := s.afterDeclaring_judge c a y
  have raised := faultRaised_onAspect s c k { y with observed := a, undecodable := none }
  have judged := judged_fault (y := { y with undecodable := none }) on clear check
  have made : FaultRaised s c k { y with observed := a, undecodable := none } (s.afterDeclaring c a y) := by
    unfold FaultRaised
    rw [table, grants, lamps, judged]
    exact raised
  refine ⟨made, ?_⟩
  have faulted : (look (s.afterDeclaring c a y).aspects c).fault = some k := by rw [made.1]
  rw [State.afterDeclaring, State.findGate_aspects] at faulted
  exact State.findGate_faulted faulted

theorem State.afterDeclaring_accepted (on : (s.store.crossing c).enabled = true) (clear : y.fault = none)
    (check : s.checkSequence c y.observed a = none) :
    look (s.afterDeclaring c a y).aspects c = { y with observed := a, undecodable := none } ∧
      (s.afterDeclaring c a y).table = (s.handDeclaration c a).table ∧
      (s.afterDeclaring c a y).grants = (s.handDeclaration c a).grants := by
  obtain ⟨table, grants, lamps⟩ := s.afterDeclaring_judge c a y
  rw [table, grants, lamps, judged_accepted (y := { y with undecodable := none }) on clear check]
  exact ⟨State.withLamps_aspects _ _ _, rfl, rfl⟩

/-- What a DONT_WALK that is handed on leaves of a served crossing (R78). -/
theorem State.dontWalkDeclared_served {k : RecordSlot} {r : CallRecord} (only : OnlyRecord s.table c CallState.isServing k r) :
    (∀ start, r.state = .clearing start →
      (s.dontWalkDeclared c).table = s.table.remove s.store k ∧ (s.dontWalkDeclared c).grants = s.grants) ∧
    ∀ start, r.state = .walking start → (s.dontWalkDeclared c).table = s.table.remove s.store k ∧
      look (s.dontWalkDeclared c).grants c = { look s.grants c with truncated := true } := by
  obtain ⟨-, -, -, -, served, -⟩ := declarationsMoveRecords s c
  rw [served k r only]
  refine ⟨fun start clears => ?_, fun start walks => ?_⟩
  · simp [clears, CallState.isGranted, CallState.isWalking]
  · simp [walks, CallState.isGranted, CallState.isWalking]

theorem State.clearanceDeclared_walking {k : RecordSlot} {r : CallRecord} {start : StreetTime}
    (only : OnlyRecord s.table c CallState.isWalking k r) (walks : r.state = .walking start) :
    (s.clearanceDeclared c).grants = s.grants ∧
      (s.clearanceDeclared c).table =
        { s.table with records := put s.table.records k (some { r with state := .clearing start, seen := false }) } := by
  obtain ⟨-, -, clears, -⟩ := declarationsMoveRecords s c
  rw [clears k r start only walks]
  exact ⟨rfl, rfl⟩

end Declared

/-! ## The obligations -/

/-- An event that keeps to its crossing and leaves the Profile Store, in the words of the statements. -/
theorem OnlyAt.frame_of_store {s t : State} {c : Crossing} (at_ : OnlyAt c s t) (store : t.store = s.store) :
    t = { s with table := t.table, grants := t.grants, aspects := t.aspects, holds := { s.holds with flags := t.holds.flags },
                 cues := t.cues } := by
  have frame := at_.frame
  rw [State.withCrossings, store] at frame
  exact frame

/-- Settles O26: no aspect, the observed one, or another one qualifies, and another one is judged. -/
theorem lampEventDeclares : Obligations.LampEventDeclares := by
  refine ⟨AspectState.qualifying_iff, fun s u t c i row hu next => LampRow.unpended (c := c) t row ?_,
    fun s c i x y hx gates idle row => ?_⟩
  · rw [← next, hu]
    rfl
  subst hx
  replace row : LampRow s c i y := row
  obtain ⟨observed, undecodable, fault, further, notice⟩ := row.finding
  have only : OnlyAt c s ((s.withLamps c y).retest c) := (OnlyAt.onAspect _).trans (.retest _)
  have store : ((s.withLamps c y).retest c).store = s.store := by simp
  have settled : exec i s = .next (((s.withLamps c y).retest c).findGate c) := by
    rw [row.exec_eq, State.settleCrossing_idle (by rwa [store])]
  have ended := only.trans (.findGate _)
  refine ⟨_, settled, ended.frame_of_store (by simp), gates.findGate_of_onlyAt only, ended.corners, ended.lamps, ended.grants, ended.flags,
    fun none_qualifies => ?_, fun same => ?_, fun a qualifies differs => ?_⟩
  · rw [State.retest_withLamps_none none_qualifies, gates.findGate_withLamps observed fault, State.withLamps_aspects, undecodable]
    exact ⟨rfl, rfl⟩
  · rw [State.retest_withLamps_same (same.trans (congrArg some observed.symm)), gates.findGate_withLamps observed fault,
      State.withLamps_aspects]
    exact ⟨rfl, rfl⟩
  · have made : ((s.withLamps c y).retest c).findGate c = s.afterDeclaring c a y := by
      rw [State.retest_withLamps_declares qualifies (observed ▸ differs), State.afterDeclaring]
    obtain ⟨shows, stopped⟩ := State.afterDeclaring_lamps (s := s) (c := c) (a := a) (y := y)
    rw [made]
    refine ⟨shows, stopped, fun other => ?_, fun dontWalk => ?_, State.afterDeclaring_disabled, fun on f faulted => ?_,
      fun on clear granted answer => ?_⟩
    · rw [State.afterDeclaring_holds, if_neg other]
    · rw [State.afterDeclaring_holds, if_pos dontWalk]
      simp only [look_change_self]
      exact ⟨(HoldFlags.completeWaits_line _ .a).1, fun l => ((look s.holds.flags c).completeWaits_line l).2⟩
    · have further_fault := State.afterDeclaring_faulted (a := a) (y := y) on (fault.trans faulted) rfl
      rw [observed, further, notice] at further_fault
      exact further_fault
    · have check := checkSequence_eq answer (look s.aspects c).observed (a := a)
      refine ⟨fun f raises => ?_, fun accepted => ?_⟩
      · obtain ⟨⟨lamps, -, grants, -, unserved, served⟩, closed⟩ :=
          State.afterDeclaring_fault (a := a) on (fault.trans clear) (observed ▸ check.trans raises)
        exact ⟨lamps, grants, closed, unserved, served⟩
      · obtain ⟨lamps, table, grants⟩ := State.afterDeclaring_accepted (a := a) on (fault.trans clear) (observed ▸ check.trans accepted)
        rw [table, grants]
        refine ⟨lamps, ?_, ?_, ?_, ?_, ?_, ?_⟩
        · rintro rfl
          exact ⟨rfl, rfl⟩
        · rintro rfl
          exact ⟨rfl, rfl⟩
        · rintro rfl
          exact ⟨rfl, rfl⟩
        · rintro rfl
          exact ⟨rfl, rfl⟩
        · rintro rfl k r start walking walks
          exact State.clearanceDeclared_walking walking walks
        · rintro rfl k r serving
          exact State.dontWalkDeclared_served serving

end Sys2Proof.Machine

/-! The granted walk and the undecodable limit (R73, R91). -/

namespace Sys2Proof.Machine

/-- The finding of a gate changes the Cue Generator alone. -/
theorem State.findGate_frame (s : State) (c : Crossing) : s.findGate c = { s with cues := (s.findGate c).cues } := by
  unfold State.findGate
  split <;> split <;> rfl

/-- Away from the transfer point nothing transfers (R5). -/
theorem State.testTransfer_away {s : State} {c : Crossing} (h : s.crossingTransferPoint c = false) : s.testTransfer c = s := by
  unfold State.testTransfer
  split
  · rfl
  · rw [h]
    rfl

/-- Settles O25: the WALK is accepted over the GRANTED record, and WALK is no transfer point. -/
theorem grantedWalk : Obligations.GrantedWalk := by
  intro s c i r service gates here granted shows w d steady
  obtain ⟨on, clear, -⟩ := service.servingFits i r here.1 (CallState.isWaiting_of_isGranted granted)
  rw [here.2] at on clear
  generalize hy : { look s.aspects c with wSteady := max (look s.aspects c).wSteady (s.store.crossing c).settle } = y
  have row : LampRow s c (.steadyTimeReached c .walk .settle) y := .inr ⟨.settle, _, rfl, .inl ⟨rfl, hy.symm⟩⟩
  have qualifies : y.qualifying (s.store.crossing c).settle = some .walk := by
    obtain ⟨walk, -⟩ := y.qualifying_iff (s.store.crossing c).settle
    rw [walk, ← hy]
    exact ⟨w, d, le_max_right _ _, steady⟩
  have observed : y.observed = .dontWalk := by rw [← hy]; exact shows
  have fault : y.fault = none := by rw [← hy]; exact clear
  have only := service.onlyGranted here granted
  have check : s.checkSequence c y.observed .walk = none := by
    rw [checkSequence_eq (granted := true) (by simpa using only.hasRecord), observed]
    rfl
  obtain ⟨takes, -⟩ := declarationsMoveRecords s c
  have judged : (s.withLamps c y).retest c = (s.walkDeclared c).withLamps c { y with observed := .walk, undecodable := none } := by
    rw [State.retest_withLamps_declares qualifies (by rw [observed]; decide), State.declare_eq, if_neg (by decide)]
    exact judged_accepted (y := { y with undecodable := none }) on fault check
  rw [takes i r (.inl only)] at judged
  generalize hJ : (s.withLamps c y).retest c = J at judged
  have records : look J.table.records i = some { r with state := .walking s.store.streetTime, seen := false } := by
    rw [judged]
    exact look_put_self _ _ _
  have walks : HasRecord J.table c CallState.isWalking := ⟨i, _, ⟨records, here.2⟩, rfl⟩
  have lamps : look J.aspects c = { y with observed := .walk, undecodable := none } := by rw [judged, State.withLamps_aspects]
  have profile : J.store.crossing c = s.store.crossing c := by rw [judged, State.withLamps_store]
  have flags : J.holds = s.holds := by rw [judged]; rfl
  have away : J.crossingTransferPoint c = false := by
    simp [State.crossingTransferPoint, lamps, profile, on, Aspect.isQuiet]
  have only_here : OnlyAt c s (J.findGate c) := by
    rw [← hJ]
    exact ((OnlyAt.onAspect _).trans (.retest _)).trans (.findGate _)
  refine ⟨J.findGate c, ?_, ?_, ?_, ?_, ?_, only_here.lamps, ?_, only_here.gates, only_here.corners⟩
  · rw [row.exec_eq, hJ, State.settleCrossing, State.testTransfer_away away]
  · rw [State.findGate_frame, judged]
    rfl
  · rwa [State.findGate_table]
  · rw [State.findGate_table, judged]
    exact beside_put _ _ _
  · rw [State.findGate_aspects, lamps, ← hy]
  · rw [State.findGate_look]
    simp [State.gateCondition, walkingSlot_isSome.2 walks, lamps, profile, flags, on, fault]

/-! ## The undecodable limit (R91) -/

section Limit

variable {s : State} {c : Crossing} {y : AspectState}

/-- What the limit makes of a crossing whose lamps are y. -/
theorem State.limitReached_fault (on : (s.store.crossing c).enabled = true) (clear : y.fault = none) :
    (s.withLamps c y).limitReached c = (s.withLamps c y).raiseFault c .undecodable := by
  simp only [State.limitReached, State.withLamps_store, on, State.withLamps_aspects, clear, if_true]

theorem State.limitReached_further {k : FaultKind} (on : (s.store.crossing c).enabled = true) (faulted : y.fault = some k) :
    (s.withLamps c y).limitReached c = s.withLamps c { y with further := true, notice := true } := by
  simp only [State.limitReached, State.withLamps_store, on, State.withLamps_aspects, faulted, if_true, State.furtherFault,
    State.withLamps_onAspect]

theorem State.limitReached_disabled (off : (s.store.crossing c).enabled = false) : (s.withLamps c y).limitReached c = s.withLamps c y := by
  simp [State.limitReached, off]

theorem exec_undecodableLimit_acts {m : Undecodable} (taken : (look s.aspects c).limitLapsed = false)
    (runs : (look s.aspects c).undecodable = some m) (fresh : m.acted = false) :
    exec (.undecodableLimit c) s = .next (((s.withLamps c { look s.aspects c with
      undecodable := some { time := max m.time 3000, acted := true } }).limitReached c).settleCrossing c) := by
  rw [exec_undecodableLimit, taken, State.takeLimit, runs]
  simp only [fresh, Bool.false_eq_true, if_false]
  rfl

/-- The limit reached without a pending copy, before its transfer. -/
theorem State.limit_unpended {t : State} (y : AspectState)
    (settled : (((s.withStore (s.store.unpend c)).withLamps c y).limitReached c).settleCrossing c = t) :
    ((s.withLamps c y).limitReached c).settleCrossing c = State.settleCrossing c { t with store := s.store, cues := s.cues } := by
  have stored : SameCrossings (s.withLamps c y).store (s.store.unpend c) := sameCrossings_unpend c s.store
  have reached : ((s.withStore (s.store.unpend c)).withLamps c y).limitReached c =
      ((s.withLamps c y).limitReached c).withStore (s.store.unpend c) := State.withStore_limitReached stored
  have same : ((s.withLamps c y).limitReached c).store = s.store := State.limitReached_store _ c
  have cues : ((s.withLamps c y).limitReached c).cues = s.cues := by
    unfold State.limitReached
    split
    · split <;> simp [State.withLamps]
    · rfl
  rw [reached] at settled
  have ended := State.settle_unpended (s := (s.withLamps c y).limitReached c) (c := c) (t := t) (by rwa [same])
  rwa [same, cues] at ended

/-- Settles O28: by the mark, the measure, and the state of the crossing. -/
theorem undecodableLimit : Obligations.UndecodableLimit := by
  intro s c
  refine ⟨fun lapsed => ⟨s.onAspect c fun x => { x with limitLapsed := false }, ?_, rfl, look_change_self _ _ _, beside_change _ _ _⟩,
    fun taken stopped => ?_, fun m taken runs acted => ?_, fun m u t taken runs fresh hu next => ?_, fun m taken runs fresh idle => ?_⟩
  · rw [exec_undecodableLimit, lapsed, if_pos rfl]
  · rw [exec_undecodableLimit, taken, State.takeLimit, stopped]
    rfl
  · rw [exec_undecodableLimit, taken, State.takeLimit, runs]
    simp [acted]
  · obtain rfl : u = s.withStore (s.store.unpend c) := hu
    rw [exec_undecodableLimit_acts (s := s.withStore (s.store.unpend c)) taken runs fresh] at next
    rw [exec_undecodableLimit_acts taken runs fresh]
    exact congrArg Host.Outcome.next (State.limit_unpended _ (next_inj next))
  · generalize hy : { look s.aspects c with undecodable := some { time := max m.time 3000, acted := true } } = y
    have fault : y.fault = (look s.aspects c).fault := by rw [← hy]
    have only : OnlyAt c s ((s.withLamps c y).limitReached c) := (OnlyAt.onAspect _).trans (.limitReached _)
    have store := State.limitReached_store (s.withLamps c y) c
    have settled : exec (.undecodableLimit c) s = .next (((s.withLamps c y).limitReached c).findGate c) := by
      rw [exec_undecodableLimit_acts taken runs fresh, hy, State.settleCrossing_idle (by rwa [store])]
    have ended := only.trans (.findGate _)
    have frame := ended.frame_of_store (by rw [State.findGate_store, store]; rfl)
    have flags : (((s.withLamps c y).limitReached c).findGate c).holds = s.holds := by
      rw [State.findGate_holds, State.limitReached_holds]
      rfl
    rw [flags] at frame
    refine ⟨_, settled, frame, ended.lamps, ended.grants, ?_⟩
    simp only [State.findGate_aspects, State.findGate_table, State.findGate_grants]
    cases on : (s.store.crossing c).enabled with
    | false =>
      rw [State.limitReached_disabled on, State.withLamps_aspects, ← hy]
      exact ⟨rfl, rfl, fun h => absurd h (by decide), fun h => absurd h (by decide), fun _ => ⟨rfl, rfl, rfl, rfl, rfl⟩⟩
    | true =>
      cases faulted : y.fault with
      | none =>
        obtain ⟨lamps, -, grants, -, unserved, served⟩ := faultRaised_onAspect s c .undecodable y
        have closed : look (((s.withLamps c y).raiseFault c .undecodable).findGate c).cues.gates c = false :=
          State.findGate_faulted (k := .undecodable) (by rw [State.withLamps, lamps])
        rw [State.limitReached_fault on faulted]
        simp only [State.withLamps] at closed ⊢
        rw [lamps, ← hy] at *
        refine ⟨rfl, rfl, fun _ _ => ⟨rfl, rfl, rfl, grants, closed, unserved, served⟩, fun _ f again => ?_,
          fun h => absurd h (by decide)⟩
        rw [fault, again] at faulted
        cases faulted
      | some k =>
        rw [State.limitReached_further on faulted, State.withLamps_aspects, ← hy]
        refine ⟨rfl, rfl, fun _ clear => ?_, fun _ f again => ⟨again, rfl, rfl, rfl, rfl⟩, fun h => absurd h (by decide)⟩
        rw [fault, clear] at faulted
        cases faulted

end Limit

end Sys2Proof.Machine

/-! The crossing transfer (R5, R6, R101). -/

namespace Sys2Proof.Machine

/-! ## The transfer point -/

theorem Aspect.isQuiet_iff (a : Aspect) : a.isQuiet = true ↔ a = .dontWalk ∨ a = .dark ∨ a = .unknown := by
  cases a <;> simp [Aspect.isQuiet]

theorem crossingTransferPoint_iff {s : State} {c : Crossing} : s.crossingTransferPoint c = true ↔ AtTransferPoint s c := by
  simp only [State.crossingTransferPoint, AtTransferPoint, Bool.or_eq_true, Bool.and_eq_true, Option.isNone_iff_eq_none, servingSlot_eq_none,
    Aspect.isQuiet_iff, Bool.not_eq_true']
  exact or_comm

theorem State.testTransfer_made {s : State} {c : Crossing} {new : CrossingProfile} (pending : (look s.store.crossings c).pending = some new)
    (point : AtTransferPoint s c) : s.testTransfer c = s.transferCrossing c new := by
  simp only [State.testTransfer, pending, crossingTransferPoint_iff.2 point, if_true]

/-! ## At the Call Table -/

/-- The advice computed again: unseen exactly where a value changes (R6). -/
theorem readvise_eq (p : ProfileStore) (r : CallRecord) : readvise p r =
    { r with clearance := (p.crossing r.crossing).clearance r.kind, extension := (p.crossing r.crossing).extension r.kind
             seen := r.seen && decide (r.clearance = (p.crossing r.crossing).clearance r.kind ∧
               r.extension = (p.crossing r.crossing).extension r.kind) } := by
  obtain ⟨crossing, state, origin, kind, stations, count, since, clearance, extension, seen⟩ := r
  unfold readvise
  dsimp only
  split
  next same =>
    obtain ⟨rfl, rfl⟩ := same
    simp
  next differs => simp only [decide_eq_false differs, Bool.and_false]

section Table

variable {p : ProfileStore} {t : CallTable} {c : Crossing} {was : Bool}

theorem CallTable.transfer_enabled (on : (p.crossing c).enabled = true) :
    (¬ HasRecord t c CallState.isWaiting → t.transfer p c was = t) ∧
      ∀ k r, OnlyRecord t c CallState.isWaiting k r →
        t.transfer p c was = { t with records := put t.records k (some (readvise p r)) } := by
  refine ⟨fun none_waits => ?_, fun k r only => ?_⟩
  · simp only [CallTable.transfer, on, if_true, waitingSlot_eq_none.2 none_waits]
  · simp only [CallTable.transfer, on, if_true, only.waitingSlot]
    exact CallTable.edit_eq_put only.1.1 _

theorem CallTable.clearMemo_waitingSlot (t : CallTable) (c d : Crossing) : (t.clearMemo d).waitingSlot c = t.waitingSlot c := by
  simp [CallTable.waitingSlot]

theorem CallTable.transfer_disabled (off : (p.crossing c).enabled = false) :
    (¬ HasRecord t c CallState.isWaiting → t.transfer p c true = t.clearMemo c) ∧
      (∀ k r, OnlyRecord t c CallState.isWaiting k r → t.transfer p c true = (t.clearMemo c).remove p k) ∧
      t.transfer p c false = t := by
  refine ⟨fun none_waits => ?_, fun k r only => ?_, ?_⟩
  · simp [CallTable.transfer, off, CallTable.clearMemo_waitingSlot, waitingSlot_eq_none.2 none_waits]
  · simp [CallTable.transfer, off, CallTable.clearMemo_waitingSlot, only.waitingSlot]
  · simp [CallTable.transfer, off]

/-- A transfer moves no record to another state, and an enabled copy removes none. -/
theorem CallTable.transfer_granted (on : (p.crossing c).enabled = true) :
    HasRecord (t.transfer p c was) c CallState.isGranted ↔ HasRecord t c CallState.isGranted := by
  rw [← grantedSlot_isSome, ← grantedSlot_isSome]
  have same : (t.transfer p c was).grantedSlot c = t.grantedSlot c := firstWhere_congr fun i => by
    unfold CallTable.transfer
    rw [if_pos on]
    split
    · rw [CallTable.edit_look]
      split
      · cases look t.records i <;> simp [recordIs]
      · rfl
    · rfl
  rw [same]

/-- A transfer that disables leaves no record and no memo of an unserved crossing (R57). -/
theorem CallTable.transfer_empties (off : (p.crossing c).enabled = false) (unserved : t.Unserved c)
    (one : ∀ i j r q, RecordAt t c i r → RecordAt t c j q → i = j) :
    (∀ i r, look (t.transfer p c true).records i = some r → r.crossing ≠ c) ∧ look (t.transfer p c true).memos c = none := by
  obtain ⟨none_waits, waits, -⟩ := CallTable.transfer_disabled (t := t) off
  by_cases has : HasRecord t c CallState.isWaiting
  · obtain ⟨k, r, here, state⟩ := has
    rw [waits k r ⟨here, state, fun j q hq _ => one j k q r hq here⟩]
    rcases allocate_cases ((t.clearMemo c).freed k) p with ⟨-, same⟩ | ⟨i, d, m, free, -, memo, given⟩
    · rw [CallTable.remove_eq, same]
      refine ⟨fun j q hq hc => ?_, by simp⟩
      rw [CallTable.freed_records, look_put] at hq
      split at hq
      · cases hq
      next ne =>
        rw [CallTable.clearMemo_records] at hq
        exact ne (one j k q r ⟨hq, hc⟩ here)
    · have other : d ≠ c := by
        rintro rfl
        simp at memo
      rw [CallTable.remove_eq, given]
      refine ⟨fun j q hq hc => ?_, ?_⟩
      · rw [CallTable.retarget_records] at hq
        simp only [CallTable.fill_look] at hq
        split at hq
        · obtain rfl := Option.some.inj hq
          exact other hc
        next =>
          rw [CallTable.freed_records, look_put] at hq
          split at hq
          · cases hq
          next ne =>
            rw [CallTable.clearMemo_records] at hq
            exact ne (one j k q r ⟨hq, hc⟩ here)
      · rw [CallTable.retarget_memos, look_put_ne _ other.symm]
        simp
  · rw [none_waits has]
    refine ⟨fun i r hr hc => has ⟨i, r, ⟨by simpa using hr, hc⟩, unserved i r ⟨by simpa using hr, hc⟩⟩, by simp⟩

end Table

/-! ## The check of an enabling transfer (R101) -/

section Enabling

variable {s : State} {c : Crossing}

theorem State.enablingCheck_idle (h : (look s.aspects c).fault ≠ none ∨ (look s.aspects c).observed = .unknown) : s.enablingCheck c = s := by
  unfold State.enablingCheck
  split
  · rfl
  next clear =>
    rw [h.resolve_left fun faulted => faulted clear]

theorem State.enablingCheck_fault {k : FaultKind} (clear : (look s.aspects c).fault = none) (known : (look s.aspects c).observed ≠ .unknown)
    (check : s.checkSequence c .unknown (look s.aspects c).observed = some k) : s.enablingCheck c = s.raiseFault c k := by
  unfold State.enablingCheck
  rw [clear]
  dsimp only
  split
  · contradiction
  · rw [check]

theorem State.enablingCheck_accepted (clear : (look s.aspects c).fault = none) (known : (look s.aspects c).observed ≠ .unknown)
    (check : s.checkSequence c .unknown (look s.aspects c).observed = none) :
    s.enablingCheck c = s.handDeclaration c (look s.aspects c).observed := by
  unfold State.enablingCheck
  rw [clear]
  dsimp only
  split
  · contradiction
  · rw [check]

theorem State.enablingLimit_raises {m : Undecodable} (clear : (look s.aspects c).fault = none) (runs : (look s.aspects c).undecodable = some m)
    (long : 3000 ≤ m.time) :
    s.enablingLimit c = (s.withLamps c { look s.aspects c with undecodable := some { m with acted := true } }).raiseFault c .undecodable := by
  unfold State.enablingLimit
  split
  next m' _ here =>
    obtain rfl := Option.some.inj (here.symm.trans runs)
    exact if_pos long
  next other => exact absurd runs (other m clear)

theorem State.enablingLimit_idle (h : (look s.aspects c).fault ≠ none ∨ ∀ m, (look s.aspects c).undecodable = some m → m.time < 3000) :
    s.enablingLimit c = s := by
  unfold State.enablingLimit
  split
  next m clear runs =>
    have short := (h.resolve_left fun faulted => faulted clear) m runs
    rw [if_neg (by simp only [Config.undecodableLimit]; omega)]
  · rfl

/-- The check changes no more than the table, the grants and the lamps. -/
theorem State.enablingCheck_frame (s : State) (c : Crossing) : s.enablingCheck c =
    { s with table := (s.enablingCheck c).table, grants := (s.enablingCheck c).grants, aspects := (s.enablingCheck c).aspects } := by
  have frame := (OnlyAt.enablingCheck (c := c) s).frame_of_store (by simp)
  rwa [State.enablingCheck_holds, State.enablingCheck_cues] at frame

theorem State.enablingCheck_undecodable (s : State) (c : Crossing) :
    (look (s.enablingCheck c).aspects c).undecodable = (look s.aspects c).undecodable := by
  unfold State.enablingCheck
  split
  · rfl
  · split
    · rfl
    · split
      · rw [State.handDeclaration_aspects]
      · simp [State.raiseFault]

theorem State.withLamps_look (s : State) (c : Crossing) : s.withLamps c (look s.aspects c) = s := by
  simp [State.withLamps, State.onAspect, change_eq_put]

theorem State.retest_holds_none (h : (look s.aspects c).qualifying (s.store.crossing c).settle = none) : (s.retest c).holds = s.holds := by
  rw [State.retest_none h, State.onAspect_holds]

/-- A test that finds an aspect stops the undecodable measure (R91). -/
theorem State.retest_stops {a : Aspect} (h : (look s.aspects c).qualifying (s.store.crossing c).settle = some a) :
    (look (s.retest c).aspects c).undecodable = none := by
  by_cases same : a = (look s.aspects c).observed
  · rw [State.retest_same h same, State.onAspect_aspects, look_change_self]
  · rw [State.retest_declares h same, State.declare_aspects]
    exact judged_lamps.2

/-- Where no other aspect qualifies, a test changes the lamps alone. -/
theorem State.retest_undeclared (h : (look s.aspects c).qualifying (s.store.crossing c).settle = none ∨
    (look s.aspects c).qualifying (s.store.crossing c).settle = some (look s.aspects c).observed) :
    (s.retest c).table = s.table ∧ (s.retest c).grants = s.grants := by
  rcases h with none_qualifies | same
  · rw [State.retest_none none_qualifies]
    exact ⟨rfl, rfl⟩
  · rw [State.retest_same same rfl]
    exact ⟨rfl, rfl⟩

theorem State.retest_disabled (off : (s.store.crossing c).enabled = false) : (s.retest c).table = s.table := by
  cases q : (look s.aspects c).qualifying (s.store.crossing c).settle with
  | none => exact (State.retest_undeclared (.inl q)).1
  | some a =>
    by_cases same : a = (look s.aspects c).observed
    · exact (State.retest_undeclared (.inr (same ▸ q))).1
    · rw [State.retest_declares q same, State.declare_table]
      rw [State.judge_disabled (s := s.onAspect c fun x => { x with undecodable := none }) off]
      rfl

/-- A change of no line tests the lamps as they stand. -/
theorem exec_lampLineChange_same (idle : (look s.store.crossings c).pending = none) {x : AspectState} (same : x.SameLines (look s.aspects c)) :
    exec (.lampLineChange c x.w x.d) s = .next ((s.retest c).findGate c) := by
  obtain ⟨w, d, -⟩ := same
  have still : s.onAspect c (AspectState.changeLines x.w x.d) = s := by
    have unchanged : (look s.aspects c).changeLines x.w x.d = look s.aspects c := by simp [AspectState.changeLines, w, d]
    simp [State.onAspect, change_eq_put, unchanged]
  rw [exec_lampLineChange, still, State.settleCrossing_idle (by rwa [State.retest_store])]

end Enabling

/-! ## The obligation -/

section Transfer

variable {s : State} {c : Crossing} {new : CrossingProfile}

/-- The state after the check of a transfer that enables, or after the transfer itself where it enables nothing (R6, R101). -/
def State.checkedProfile (c : Crossing) (new : CrossingProfile) (s : State) : State :=
  if new.enabled = true ∧ ¬ (s.store.crossing c).enabled = true then (s.takeProfile c new).enablingCheck c else s.takeProfile c new

theorem State.takeProfile_frame (s : State) (c : Crossing) (new : CrossingProfile) : s.takeProfile c new =
    { s with store := { s.store with crossings := put s.store.crossings c { active := new, pending := none } },
             table := (s.takeProfile c new).table, grants := (s.takeProfile c new).grants } := by
  unfold State.takeProfile
  dsimp only
  split <;> rfl

theorem State.takeProfile_grants (s : State) (c : Crossing) (new : CrossingProfile) :
    Beside s.grants (s.takeProfile c new).grants c ∧ look (s.takeProfile c new).grants c =
      if new.enabled then look s.grants c else { look s.grants c with unrecorded := .none } := by
  unfold State.takeProfile
  dsimp only
  split
  · exact ⟨.refl _ _, rfl⟩
  · exact ⟨beside_change _ _ _, look_change_self _ _ _⟩

theorem State.checkedProfile_store : (s.checkedProfile c new).store =
    { s.store with crossings := put s.store.crossings c { active := new, pending := none } } := by
  unfold State.checkedProfile
  split <;> simp

theorem State.checkedProfile_lines : (look s.aspects c).SameLines (look (s.checkedProfile c new).aspects c) := by
  have taken : (look s.aspects c).SameLines (look (s.takeProfile c new).aspects c) := by
    rw [State.takeProfile_aspects]
    exact .refl _
  unfold State.checkedProfile
  split
  · exact taken.trans (State.enablingCheck_lines _ c)
  · exact taken

theorem State.checkedProfile_undecodable : (look (s.checkedProfile c new).aspects c).undecodable = (look s.aspects c).undecodable := by
  unfold State.checkedProfile
  split
  · rw [State.enablingCheck_undecodable, State.takeProfile_aspects]
  · rw [State.takeProfile_aspects]

theorem State.checkedProfile_settle : ((s.checkedProfile c new).store.crossing c) = new := by
  rw [State.checkedProfile_store]
  exact ProfileStore.crossing_put c new s.store

theorem State.settleCrossing_transfers (pending : (look s.store.crossings c).pending = some new) (point : AtTransferPoint s c) :
    s.settleCrossing c =
      (if new.enabled = true ∧ ¬ (s.store.crossing c).enabled = true then ((s.checkedProfile c new).retest c).enablingLimit c
        else (s.checkedProfile c new).retest c).findGate c := by
  rw [State.settleCrossing, State.testTransfer_made pending point, State.transferCrossing_eq]
  unfold State.checkedProfile
  split <;> rfl

section Made

variable (pending : (look s.store.crossings c).pending = some new) (point : AtTransferPoint s c)
include pending point

/-- A transfer that disables an enabled crossing leaves it no record and no memo. -/
theorem State.settleCrossing_disables (service : ServiceLaw s) (was : (s.store.crossing c).enabled = true) (off : new.enabled = false) :
    (∀ i r, look (s.settleCrossing c).table.records i = some r → r.crossing ≠ c) ∧ look (s.settleCrossing c).table.memos c = none := by
  have idle : ¬ HasRecord s.table c CallState.isServing := by
    rcases point with disabled | ⟨idle, -⟩
    · rw [was] at disabled
      cases disabled
    · exact idle
  have unserved := CallTable.unserved_iff.2 idle
  have table : (s.settleCrossing c).table = (s.takeProfile c new).table := by
    rw [State.settleCrossing_transfers pending point, if_neg (by simp [off]), State.findGate_table,
      State.retest_disabled (by rw [State.checkedProfile_settle, off])]
    simp [State.checkedProfile, off]
  rw [table, State.takeProfile_table, was]
  refine CallTable.transfer_empties (by rw [ProfileStore.crossing_put, off]) unserved fun i j r q hr hq => ?_
  exact service.oneOfGroup i j r q hr.1 hq.1 (hr.2.trans hq.2.symm) ((unserved i r hr).trans (unserved j q hq).symm)

/-- Where the transfer enables nothing, or an aspect qualifies after it, its end is the test that a change of no line makes. -/
theorem State.settleCrossing_as_lampLineChange
    (h : (s.store.crossing c).enabled = true ∨ new.enabled = false ∨ (look s.aspects c).qualifying new.settle ≠ none) :
    exec (.lampLineChange c (look s.aspects c).w (look s.aspects c).d) (s.checkedProfile c new) = .next (s.settleCrossing c) := by
  have unpended : (look (s.checkedProfile c new).store.crossings c).pending = none := by
    rw [State.checkedProfile_store, look_put_self]
  rw [exec_lampLineChange_same unpended State.checkedProfile_lines, State.settleCrossing_transfers pending point]
  split
  next enables =>
    obtain ⟨on, off⟩ := enables
    have qualifies : (look s.aspects c).qualifying new.settle ≠ none := by
      rcases h with was | disables | qualifies
      · exact absurd was off
      · rw [on] at disables
        cases disables
      · exact qualifies
    obtain ⟨a, ha⟩ := Option.ne_none_iff_exists'.1 qualifies
    have stops := State.retest_stops (s := s.checkedProfile c new) (c := c) (a := a)
      (by rwa [State.checkedProfile_settle, State.checkedProfile_lines.qualifying])
    rw [State.enablingLimit_idle (.inr fun m runs => by rw [stops] at runs; cases runs)]
  next => rfl

/-- Where no aspect qualifies after a transfer that enables, an undecodable measure at its limit raises UNDECODABLE (R91, log 15). -/
theorem State.settleCrossing_enables (was : (s.store.crossing c).enabled = false) (on : new.enabled = true)
    (none_qualifies : (look s.aspects c).qualifying new.settle = none) :
    s.settleCrossing c = { s.checkedProfile c new with
        table := (s.settleCrossing c).table, grants := (s.settleCrossing c).grants
        aspects := (s.settleCrossing c).aspects, cues := (s.settleCrossing c).cues } ∧
    (∀ m, (look s.aspects c).undecodable = some m → 3000 ≤ m.time → (look (s.checkedProfile c new).aspects c).fault = none →
      FaultRaised (s.checkedProfile c new) c .undecodable
        { look (s.checkedProfile c new).aspects c with undecodable := some { m with acted := true } } (s.settleCrossing c)) ∧
    ((∀ m, (look s.aspects c).undecodable = some m → m.time < 3000) ∨ (look (s.checkedProfile c new).aspects c).fault ≠ none →
      s.settleCrossing c = { s.checkedProfile c new with aspects := (s.settleCrossing c).aspects, cues := (s.settleCrossing c).cues } ∧
      Beside (s.checkedProfile c new).aspects (s.settleCrossing c).aspects c ∧
      look (s.settleCrossing c).aspects c = { look (s.checkedProfile c new).aspects c with
        undecodable := if (look s.aspects c).undecodable.isSome then (look s.aspects c).undecodable
          else some { time := 0, acted := false } }) := by
  have measure : (look (s.checkedProfile c new).aspects c).undecodable = (look s.aspects c).undecodable := State.checkedProfile_undecodable
  have waits : (look (s.checkedProfile c new).aspects c).qualifying ((s.checkedProfile c new).store.crossing c).settle = none := by
    rwa [State.checkedProfile_settle, State.checkedProfile_lines.qualifying]
  have made := State.settleCrossing_transfers pending point
  rw [if_pos ⟨on, by simp [was]⟩] at made
  generalize s.checkedProfile c new = v at *
  have tested := State.retest_withLamps_none waits
  rw [State.withLamps_look] at tested
  rw [tested] at made
  have only : OnlyAt c v (s.settleCrossing c) := made ▸ ((OnlyAt.onAspect _).trans (.enablingLimit _)).trans (.findGate _)
  refine ⟨?_, fun m runs long clear => ?_, fun idle => ?_⟩
  · have frame := only.frame_of_store (by rw [made]; simp)
    have holds : (s.settleCrossing c).holds = v.holds := by rw [made]; simp [State.withLamps]
    rwa [holds] at frame
  · have raised := faultRaised_onAspect v c .undecodable { look v.aspects c with undecodable := some { m with acted := true } }
    rw [State.enablingLimit_raises (m := m) (by simpa using clear) (by simp [measure, runs]) long] at made
    have again : ∀ x y : AspectState, (v.withLamps c x).withLamps c y = v.withLamps c y := fun x y => State.withLamps_onAspect v c x fun _ => y
    rw [again, State.withLamps_aspects] at made
    unfold FaultRaised
    rw [made, State.findGate_aspects, State.findGate_grants, State.findGate_table]
    exact raised
  · rw [State.enablingLimit_idle] at made
    · refine ⟨?_, only.lamps, ?_⟩
      · rw [made, State.findGate_frame]
        rfl
      · rw [made, State.findGate_aspects, State.withLamps_aspects, measure]
    · rcases idle with short | faulted
      · refine .inr fun m runs => ?_
        rw [State.withLamps_aspects, measure] at runs
        cases known : (look s.aspects c).undecodable with
        | none =>
          simp [known] at runs
          obtain rfl := runs
          decide
        | some m' =>
          simp [known] at runs
          exact short m (known.trans (congrArg some runs))
      · exact .inl (by simpa using faulted)

end Made

/-- Settles O29: the transfer as it is made, the check of R101, and the test at the new settle time. -/
theorem crossingTransfer : Obligations.CrossingTransfer := by
  intro s c
  refine ⟨fun gates idle => ?_, fun gates on busy => ?_, fun new x was pending point hx hwas => ?_, fun p i r was on only => ?_⟩
  · rw [exec_crossingTransfer, State.settleCrossing_idle idle, gates.findGate_eq]
  · have away : s.crossingTransferPoint c = false := by
      rw [Bool.eq_false_iff, ne_eq, crossingTransferPoint_iff]
      rintro (off | ⟨idle, quiet⟩)
      · rw [on] at off
        cases off
      · rcases busy with serves | walk | clearance | conflict
        · exact idle serves
        · simp [walk] at quiet
        · simp [clearance] at quiet
        · simp [conflict] at quiet
    rw [exec_crossingTransfer, State.settleCrossing, State.testTransfer_away away, gates.findGate_eq]
  · subst hx hwas
    have profile : (s.takeProfile c new).store.crossing c = new := by
      rw [State.takeProfile_store]
      exact ProfileStore.crossing_put c new s.store
    obtain ⟨beside_grants, grants⟩ := s.takeProfile_grants c new
    have table := State.takeProfile_table c new s
    have lamps := State.takeProfile_aspects c new s
    have check : new.enabled = true → ∀ granted, (granted = true ↔ HasRecord s.table c CallState.isGranted) →
        (s.takeProfile c new).checkSequence c .unknown (look s.aspects c).observed =
          sequenceFault .unknown (look s.aspects c).observed granted new.recallPermitted new.darkPermitted := fun on granted answer => by
      rw [checkSequence_eq (granted := granted), profile]
      rw [table, CallTable.transfer_granted (by rwa [ProfileStore.crossing_put]), answer]
    refine ⟨s.takeProfile c new, s.checkedProfile c new, s.settleCrossing c, exec_crossingTransfer c s, ?_,
      fun service was off => State.settleCrossing_disables pending point service was off, s.takeProfile_frame c new, beside_grants, grants,
      fun on => ⟨fun none_waits => ?_, fun k r only => ?_⟩, fun off was => ⟨fun none_waits => ?_, fun k r only => ?_⟩, fun off was => ?_,
      fun plain => ?_, fun was on => ⟨?_, fun idle => ?_, fun clear known granted answer => ⟨fun f raises => ?_, fun accepted => ?_⟩⟩,
      fun h => State.settleCrossing_as_lampLineChange pending point h, fun plain unchanged => ?_, fun was on none_qualifies => ?_⟩
    · rw [State.settleCrossing_transfers pending point, State.findGate_store]
      split <;> simp [State.checkedProfile_store]
    · rw [table]
      exact (CallTable.transfer_enabled (by rwa [ProfileStore.crossing_put])).1 none_waits
    · rw [table, (CallTable.transfer_enabled (by rwa [ProfileStore.crossing_put])).2 k r only, readvise_eq, only.1.2,
        ProfileStore.crossing_put]
    · rw [table, was]
      exact (CallTable.transfer_disabled (by rwa [ProfileStore.crossing_put])).1 none_waits
    · rw [table, was, State.takeProfile_store]
      exact (CallTable.transfer_disabled (by rwa [ProfileStore.crossing_put])).2.1 k r only
    · rw [table, was]
      exact (CallTable.transfer_disabled (by rwa [ProfileStore.crossing_put])).2.2
    · rw [State.checkedProfile, if_neg]
      rintro ⟨on, off⟩
      rcases plain with was | disabled
      · exact off was
      · rw [on] at disabled
        cases disabled
    · rw [State.checkedProfile, if_pos ⟨on, by simp [was]⟩]
      exact State.enablingCheck_frame _ c
    · rw [State.checkedProfile, if_pos ⟨on, by simp [was]⟩]
      exact State.enablingCheck_idle (by rwa [State.takeProfile_aspects])
    · rw [State.checkedProfile, if_pos ⟨on, by simp [was]⟩,
        State.enablingCheck_fault (by rwa [lamps]) (by rwa [lamps]) (by rw [lamps]; exact (check on granted answer).trans raises)]
      have raised := faultRaised (s.takeProfile c new) c f
      rwa [lamps] at raised
    · rw [State.checkedProfile, if_pos ⟨on, by simp [was]⟩,
        State.enablingCheck_accepted (by rwa [lamps]) (by rwa [lamps])
          (by rw [lamps]; exact (check on granted answer).trans accepted), lamps]
      refine ⟨fun shows => ?_, fun shows => ?_, fun shows => ?_, fun shows => ?_⟩ <;> rw [shows] <;> rfl
    · have made := State.settleCrossing_transfers pending point
      have undone : ¬ (new.enabled = true ∧ ¬ (s.store.crossing c).enabled = true) := by
        rintro ⟨on, off⟩
        rcases plain with was | disabled
        · exact off was
        · rw [on] at disabled
          cases disabled
      have taken : s.checkedProfile c new = s.takeProfile c new := by rw [State.checkedProfile, if_neg undone]
      rw [if_neg undone, taken] at made
      obtain ⟨same_table, same_grants⟩ := State.retest_undeclared (s := s.takeProfile c new) (c := c)
        (by rwa [profile, State.takeProfile_aspects])
      rw [made, State.findGate_table, State.findGate_grants]
      exact ⟨same_table, same_grants⟩
    · obtain ⟨frame, raises, rests⟩ := State.settleCrossing_enables pending point was on none_qualifies
      exact ⟨frame, fun gates => gates.settle_of_onlyAt (OnlyAt.refl c s), (OnlyAt.settleCrossing (c := c) s).corners, raises, rests⟩
  · rw [(CallTable.transfer_enabled on).2 i r only, readvise_eq, only.1.2]
    exact ⟨rfl, beside_put _ _ _, look_put_self _ _ _⟩

end Transfer

end Sys2Proof.Machine

/-! Holds (R103 to R116): the hold lines, the software hold, and WRITE STREET. -/

namespace Sys2Proof.Machine

/-! ## Finding every gate -/

theorem State.findGate_corners (s : State) (c : Crossing) : (s.findGate c).cues.corners = s.cues.corners := (OnlyAt.findGate (c := c) s).corners

theorem State.findGates_corners (s : State) : s.findGates.cues.corners = s.cues.corners := by
  unfold State.findGates
  exact foldl_keeps (fun s : State => s.cues.corners) _ (fun s c => State.findGate_corners s c) _ s

/-- The finding of the gates changes the Cue Generator alone. -/
theorem State.findGates_frame (s : State) : s.findGates = { s with cues := s.findGates.cues } := by
  have all : ∀ (l : List Crossing) (s : State), l.foldl (fun s c => s.findGate c) s =
      { s with cues := (l.foldl (fun s c => s.findGate c) s).cues } := by
    intro l
    induction l with
    | nil => exact fun s => rfl
    | cons c l ih =>
      intro s
      rw [List.foldl_cons, ih, State.findGate_frame]
  exact all _ s

/-- A change of the Hold Unit after which every gate is found, and the same with an answer. -/
theorem State.findGates_onHolds (s : State) (f : HoldUnit → HoldUnit) : (s.onHolds f).findGates =
    { s with holds := f s.holds, cues := ((s.onHolds f).findGates).cues } := State.findGates_frame _

theorem State.findGates_answer (s : State) (f : HoldUnit → HoldUnit) (x : Status) : ((s.onHolds f).findGates).answer x =
    { s with holds := f s.holds, cues := ((s.onHolds f).findGates).cues, response := { status := x, fields := [] } } := by
  have frame := s.findGates_onHolds f
  generalize (s.onHolds f).findGates = t at frame ⊢
  rw [frame]
  rfl

theorem State.findGates_answer_corners (s : State) (f : HoldUnit → HoldUnit) (x : Status) :
    (((s.onHolds f).findGates).answer x).cues.corners = s.cues.corners := by
  rw [State.answer_cues, State.findGates_corners, State.onHolds_cues]

/-! ## What each change of a line leaves of the flags -/

theorem HoldFlags.withLine_beside (f : HoldFlags) (l : HoldLine) (x y : Bool) : f.BesideLine l (f.withLine l x y) :=
  ⟨fun _ hm => ⟨f.withLine_flag_ne _ _ _ hm, f.withLine_wait_ne _ _ _ hm⟩, f.withLine_s _ _ _⟩

theorem HoldFlags.BesideLine.refl (f : HoldFlags) (l : HoldLine) : f.BesideLine l f := ⟨fun _ _ => ⟨rfl, rfl⟩, rfl⟩

section Lines

variable (h : HoldUnit) (p : ProfileStore) (l : HoldLine) (a : Vector AspectState 24) (c : Crossing)

theorem HoldUnit.activate_activated :
    (look h.flags c).Activated (p.crossing c) l (look (h.activate p l).flags c) ∧
      (look h.flags c).BesideLine l (look (h.activate p l).flags c) := by
  rw [HoldUnit.activate_look]
  exact ⟨⟨by simp, by simp⟩, HoldFlags.withLine_beside _ _ _ _⟩

theorem Aspect.not_isQuiet {x : Aspect} (h : x = .walk ∨ x = .clearance ∨ x = .conflict) : ¬ x.isQuiet = true := by
  rcases h with rfl | rfl | rfl <;> decide

/-- A release under CYCLE (R107). -/
theorem HoldUnit.cycleRelease_released :
    (look h.flags c).Released .cycle (look a c).observed l (look (h.cycleRelease a l).flags c) ∧
      (look h.flags c).BesideLine l (look (h.cycleRelease a l).flags c) := by
  rw [HoldUnit.cycleRelease_look]
  cases flag : (look h.flags c).flag l with
  | false => exact ⟨⟨fun _ => rfl, fun bad => absurd bad (by simp [flag])⟩, .refl _ _⟩
  | true =>
    refine ⟨⟨fun bad => absurd bad (by simp [flag]), fun _ => ⟨fun quiet => ?_, fun shows => ?_⟩⟩, ?_⟩
    · rw [if_pos rfl, if_pos ((Aspect.isQuiet_iff _).2 quiet)]
      simp
    · rw [if_pos rfl, if_neg (Aspect.not_isQuiet shows)]
      simp
    · rw [if_pos rfl]
      split <;> exact HoldFlags.withLine_beside _ _ _ _

theorem HoldUnit.goInactive_released (mode : ReleaseMode) :
    (look h.flags c).Released mode (look a c).observed l (look (h.goInactive a mode l).flags c) ∧
      (look h.flags c).BesideLine l (look (h.goInactive a mode l).flags c) := by
  cases mode with
  | level =>
    rw [HoldUnit.goInactive, HoldUnit.clearLine_look]
    exact ⟨⟨by simp, by simp⟩, HoldFlags.withLine_beside _ _ _ _⟩
  | cycle => exact h.cycleRelease_released l a c
  | latch => exact ⟨rfl, .refl _ _⟩

end Lines

/-! ## HOLD_LINE_CHANGE (R104) -/

section Change

variable (s : State) (l : HoldLine) (x : Level)

/-- What a change of level makes of the flags: as its line becomes ACTIVE, INACTIVE, or neither. -/
theorem State.changeLevel_holds : (s.changeLevel l x).holds =
    if lineActive s.store s.holds l = false ∧ lineActive s.store (s.holds.sense l x) l = true then (s.holds.sense l x).activate s.store l
    else if lineActive s.store s.holds l = true ∧ lineActive s.store (s.holds.sense l x) l = false then
      (s.holds.sense l x).goInactive s.aspects (s.store.line l).releaseMode l
    else s.holds.sense l x := by
  unfold State.changeLevel
  split
  next same =>
    have still : s.holds.sense l x = s.holds := by
      cases l <;> subst same <;> rfl
    rw [still]
    cases lineActive s.store s.holds l <;> simp
  next =>
    dsimp only [State.onHolds]
    cases lineActive s.store s.holds l <;> cases lineActive s.store (s.holds.sense l x) l <;> simp

theorem State.changeLevel_frame : s.changeLevel l x = { s with holds := (s.changeLevel l x).holds } := by
  unfold State.changeLevel
  split
  · rfl
  · dsimp only
    split <;> rfl

/-- The lines' levels alone decide whether a line is ACTIVE (R103). -/
theorem lineActive_flags (p : ProfileStore) (h : HoldUnit) (v : Vector HoldFlags 24) (m : HoldLine) :
    lineActive p { h with flags := v } m = lineActive p h m := by cases m <;> rfl

theorem HoldUnit.goInactive_frame (h : HoldUnit) (a : Vector AspectState 24) (mode : ReleaseMode) (l : HoldLine) :
    h.goInactive a mode l = { h with flags := (h.goInactive a mode l).flags } := by cases mode <;> rfl

theorem State.changeLevel_flags : (s.changeLevel l x).holds = { s.holds.sense l x with flags := (s.changeLevel l x).holds.flags } := by
  rw [State.changeLevel_holds]
  split
  · rfl
  · split
    · exact HoldUnit.goInactive_frame _ _ _ _
    · rfl

theorem HoldUnit.sense_levels (h : HoldUnit) (l : HoldLine) (x : Level) :
    (h.sense l x).sensed l = x ∧ ∀ m, m ≠ l → (h.sense l x).sensed m = h.sensed m := by
  refine ⟨by cases l <;> rfl, fun m hm => ?_⟩
  cases l <;> cases m <;> simp_all [HoldUnit.sense, HoldUnit.sensed]

theorem HoldUnit.sense_stands (h : HoldUnit) (l : HoldLine) (x : Level) :
    (h.sense l x).timer = h.timer ∧ (h.sense l x).softwareSet = h.softwareSet ∧ (h.sense l x).expiryLapsed = h.expiryLapsed ∧
      (h.sense l x).flags = h.flags := by
  cases l <;> exact ⟨rfl, rfl, rfl, rfl⟩

/-- The flags after a change of level. -/
theorem State.changeLevel_effect (c : Crossing) :
    (look s.holds.flags c).BesideLine l (look (s.changeLevel l x).holds.flags c) ∧
    (lineActive s.store s.holds l = false → lineActive s.store (s.holds.sense l x) l = true →
      (look s.holds.flags c).Activated (s.store.crossing c) l (look (s.changeLevel l x).holds.flags c)) ∧
    (lineActive s.store s.holds l = true → lineActive s.store (s.holds.sense l x) l = false →
      (look s.holds.flags c).Released (s.store.line l).releaseMode (look s.aspects c).observed l
        (look (s.changeLevel l x).holds.flags c)) := by
  obtain ⟨-, -, -, flags⟩ := s.holds.sense_stands l x
  have activated := (s.holds.sense l x).activate_activated s.store l c
  have released := (s.holds.sense l x).goInactive_released l s.aspects c (s.store.line l).releaseMode
  rw [flags] at activated released
  rw [State.changeLevel_holds]
  split
  next rises =>
    obtain ⟨off, on⟩ := rises
    exact ⟨activated.2, fun _ _ => activated.1, fun bad => absurd (off.symm.trans bad) (by decide)⟩
  next =>
    split
    next rises falls =>
      obtain ⟨on, off⟩ := falls
      exact ⟨released.2, fun bad => absurd (on.symm.trans bad) (by decide), fun _ _ => released.1⟩
    next rises falls =>
      rw [flags]
      exact ⟨.refl _ _, fun off on => absurd ⟨off, on⟩ rises, fun on off => absurd ⟨on, off⟩ falls⟩

end Change

/-- Settles O31: by whether the line becomes ACTIVE, INACTIVE, or neither. -/
theorem holdLineChange : Obligations.HoldLineChange := by
  intro s l x
  have holds : (s.changeLevel l x).findGates.holds = (s.changeLevel l x).holds := State.findGates_holds _
  have active : ∀ m, lineActive s.store (s.changeLevel l x).holds m = lineActive s.store (s.holds.sense l x) m := fun m => by
    rw [State.changeLevel_flags, lineActive_flags]
  obtain ⟨level, others⟩ := s.holds.sense_levels l x
  obtain ⟨timer, set, lapsed, flags⟩ := s.holds.sense_stands l x
  refine ⟨_, rfl, ?_, GateLaw.findGates _, ?_, ?_, fun m hm => ?_, ?_, ?_, ?_, fun c => ?_, fun same => ?_, fun off on c => ?_,
    fun on off c => ?_⟩
  · rw [State.findGates_frame, State.changeLevel_frame]
  · rw [State.findGates_corners, State.changeLevel_frame]
  · rw [holds, State.changeLevel_flags]
    exact level
  · rw [holds, State.changeLevel_flags]
    exact others m hm
  · rw [holds, State.changeLevel_flags, timer]
  · rw [holds, State.changeLevel_flags, set]
  · rw [holds, State.changeLevel_flags, lapsed]
  · rw [holds]
    exact (s.changeLevel_effect l x c).1
  · rw [holds, active] at same
    rw [holds, State.changeLevel_holds, same]
    cases lineActive s.store s.holds l <;> simp [flags]
  · rw [holds, active] at on
    rw [holds]
    exact (s.changeLevel_effect l x c).2.1 off on
  · rw [holds, active] at off
    rw [holds]
    exact (s.changeLevel_effect l x c).2.2 on off

/-! ## CYCLE_WAIT_COMPLETE and SOFTWARE_HOLD_EXPIRY (R108, R114) -/

/-- Settles O32: over DONT_WALK no gate stands open, so none changes. -/
theorem holdReleases : Obligations.HoldReleases := by
  refine ⟨fun s c gates => ⟨fun shows => ?_, fun other => ?_⟩, fun s => ⟨fun lapsed => ?_, fun taken stopped => ?_, fun taken runs => ?_⟩⟩
  · have closed : (s.completeWaits c).findGate c = s.completeWaits c := by
      apply State.findGate_stays
      rw [State.completeWaits_cues, gates.look_eq]
      have dark : (Aspect.dontWalk == Aspect.walk) = false := rfl
      simp [State.gateCondition, shows, dark]
    refine ⟨s.completeWaits c, ?_, rfl, beside_change _ _ _, ?_⟩
    · rw [exec_cycleWaitComplete, if_pos shows, closed]
    · rw [State.completeWaits_look, if_pos rfl]
      exact ⟨((look s.holds.flags c).completeWaits_line .a).1, fun l => ((look s.holds.flags c).completeWaits_line l).2⟩
  · rw [exec_cycleWaitComplete, if_neg other]
  · simp only [exec, execSoftwareHoldExpiry, lapsed, if_true]
    rfl
  · simp [exec, execSoftwareHoldExpiry, taken, stopped]
  · obtain ⟨n, hn⟩ := Option.isSome_iff_exists.1 runs
    refine ⟨(s.onHolds HoldUnit.stopSoftware).findGates, by simp [exec, execSoftwareHoldExpiry, taken, hn], ?_, GateLaw.findGates _,
      State.findGates_corners _, fun c => ?_⟩
    · rw [State.findGates_holds, State.onHolds_holds]
      exact s.findGates_onHolds _
    · rw [State.findGates_holds]
      exact HoldUnit.stopSoftware_look _ c

/-! ## SET HOLD (R113) -/

/-- A set of crossings names no member past 23 exactly when it is less than 2^24. -/
theorem set_lt {set : BitVec 32} (h : ∀ n, 24 ≤ n → set.getLsbD n = false) : set.toNat < 2 ^ 24 :=
  Nat.lt_pow_two_of_testBit _ fun n hn => by rw [BitVec.testBit_toNat, h n hn]

theorem exec_setHold {set : BitVec 32} (h : ∀ n, 24 ≤ n → set.getLsbD n = false) (time : Word16) (s : State) :
    exec (.setHold set time) s = .next (s.setHold (members fun c : Crossing => set.getLsbD c.val) time.toNat) := by
  simp only [exec, execSetHold, if_pos (set_lt h)]

theorem okOr_capped (n : Nat) : okOr (min n 3600 != n) = if n ≤ 3600 then .ok else .adjusted := by
  by_cases inside : n ≤ 3600
  · rw [if_pos inside, Nat.min_eq_left inside]
    simp [okOr]
  · have other : min n 3600 ≠ n := by omega
    rw [if_neg inside]
    simp [okOr, other]

/-- Settles O33: a time of 0 ends the hold, another one starts it over the set. -/
theorem setHold : Obligations.SetHold := by
  refine fun s set time => ⟨fun n h member => exec_setHold_range h member, fun inside => ⟨_, exec_setHold inside time s, ?_⟩⟩
  by_cases zero : time = 0
  · subst zero
    have ended : s.setHold (members fun c : Crossing => set.getLsbD c.val) (0 : Word16).toNat =
        ((s.onHolds fun h => h.lapseExpiry.stopSoftware).findGates).answer (if s.holds.timer.isSome then .ok else .none) := by
      cases runs : s.holds.timer <;> simp [State.setHold, runs]
    have flags : ∀ c, look (s.holds.lapseExpiry.stopSoftware).flags c = { look s.holds.flags c with s := false } := fun c =>
      HoldUnit.stopSoftware_look _ c
    rw [ended]
    refine ⟨?_, (GateLaw.findGates _).answer _, State.findGates_answer_corners _ _ _, rfl, fun c => ?_, fun h => absurd rfl h, fun _ => ⟨?_, fun c => ?_, ?_, rfl⟩⟩
    · simp only [State.answer_holds, State.answer_cues, State.findGates_holds, State.onHolds_holds]
      exact s.findGates_answer _ _
    · simp only [State.answer_holds, State.findGates_holds, State.onHolds_holds, flags]
    · simp only [State.answer_holds, State.findGates_holds, State.onHolds_holds]
      rfl
    · simp only [State.answer_holds, State.findGates_holds, State.onHolds_holds, flags]
    · simp only [State.answer_holds, State.findGates_holds, State.onHolds_holds]
      rfl
  · have seconds : time.toNat ≠ 0 := fun h => zero (BitVec.eq_of_toNat_eq h)
    have started : s.setHold (members fun c : Crossing => set.getLsbD c.val) time.toNat =
        ((s.onHolds fun h => h.lapseExpiry.startSoftware (members fun c : Crossing => set.getLsbD c.val) (min time.toNat 3600)).findGates).answer
          (okOr (min time.toNat 3600 != time.toNat)) := by
      simp only [State.setHold, if_neg seconds, Config.softwareHoldMax]
    have flags : ∀ c, look (s.holds.lapseExpiry.startSoftware (members fun c : Crossing => set.getLsbD c.val) (min time.toNat 3600)).flags c =
        { look s.holds.flags c with s := set.getLsbD c.val } := fun c => by
      rw [HoldUnit.startSoftware_look]
      have member : (members fun c : Crossing => set.getLsbD c.val).contains c = set.getLsbD c.val := by
        rw [Bool.eq_iff_iff, List.contains_iff_mem, mem_members]
      rw [member]
      rfl
    rw [started]
    refine ⟨?_, (GateLaw.findGates _).answer _, State.findGates_answer_corners _ _ _, rfl, fun c => ?_,
      fun _ => ⟨?_, fun c => ?_, fun c => ?_, okOr_capped _⟩, fun h => absurd h zero⟩
    · simp only [State.answer_holds, State.answer_cues, State.findGates_holds, State.onHolds_holds]
      exact s.findGates_answer _ _
    · simp only [State.answer_holds, State.findGates_holds, State.onHolds_holds, flags]
    · simp only [State.answer_holds, State.findGates_holds, State.onHolds_holds]
      rfl
    · simp only [State.answer_holds, State.findGates_holds, State.onHolds_holds, flags]
    · simp only [State.answer_holds, State.findGates_holds, State.onHolds_holds]
      exact mem_members (fun c : Crossing => set.getLsbD c.val) c

/-! ## RELEASE LINE HOLD (R109) -/

theorem exec_releaseLineHold {n : Byte} {l : HoldLine} (h : n = 0 ∧ l = .a ∨ n = 1 ∧ l = .b) (s : State) :
    exec (.releaseLineHold n) s = .next (s.releaseHold l) := by
  rcases h with ⟨rfl, rfl⟩ | ⟨rfl, rfl⟩ <;> rfl

/-- Settles O34: a LATCH line keeps its flags, and a release clears those of an INACTIVE line. -/
theorem releaseLineHold : Obligations.ReleaseLineHold := by
  refine fun s n => ⟨fun l x t latch active next => ?_, fun large => ?_, fun l which => ⟨fun active => ?_, fun inactive =>
    ⟨fun unset => ?_, fun c set => ?_⟩⟩⟩
  · obtain rfl := next_inj next
    rw [State.findGates_holds, State.changeLevel_holds]
    obtain ⟨-, -, -, flags⟩ := s.holds.sense_stands l x
    split
    next rises =>
      rw [active] at rises
      cases rises.1
    next =>
      split
      · rw [latch]
        exact flags
      · exact flags
  · have undefined : codeLine n = none := by
      unfold codeLine
      split
      · omega
      · omega
      · rfl
    simp only [exec, execReleaseLineHold, undefined]
  · rw [exec_releaseLineHold which, State.releaseHold, active, if_pos rfl]
  · have none_set : s.holds.anyFlag l = false := by
      rw [Bool.eq_false_iff, ne_eq, HoldUnit.anyFlag_iff]
      rintro ⟨c, hc⟩
      rw [unset c] at hc
      cases hc
    simp [exec_releaseLineHold which, State.releaseHold, inactive, none_set]
  · have any_set : s.holds.anyFlag l = true := (s.holds.anyFlag_iff l).2 ⟨c, set⟩
    refine ⟨((s.onHolds (HoldUnit.clearLine l)).findGates).answer .ok, by simp [exec_releaseLineHold which, State.releaseHold, inactive, any_set],
      ?_, (GateLaw.findGates _).answer _, State.findGates_answer_corners _ _ _, fun d => ?_⟩
    · simp only [State.answer_holds, State.answer_cues, State.findGates_holds, State.onHolds_holds]
      exact s.findGates_answer _ _
    · simp only [State.answer_holds, State.findGates_holds, State.onHolds_holds, HoldUnit.clearLine_look]
      exact ⟨by simp, by simp, HoldFlags.withLine_beside _ _ _ _⟩

end Sys2Proof.Machine

/-! Writes (R2 to R15, R149): the street mode, the profiles, and the street settings. -/

namespace Sys2Proof.Machine

/-! ## SET STREET MODE (R14, R149) -/

theorem isRange_effective (p : StationProfile) (m : StreetMode) : IsRange p m (effectiveMin p m) (effectiveMax p m) := by
  cases m
  · exact ⟨fun _ => rfl, fun bad => absurd bad (by decide), rfl⟩
  · exact ⟨fun bad => absurd bad (by decide), fun _ => rfl, rfl⟩

theorem effectiveMin_le (p : StationProfile) (m : StreetMode) : effectiveMin p m ≤ effectiveMax p m := Nat.min_le_right _ _

/-- What a new range makes of a level (R149, R150). -/
theorem LevelState.setRange_eq (p : StationProfile) (m : StreetMode) (x : LevelState) : x.setRange p m =
    { x with minimum := effectiveMin p m, maximum := effectiveMax p m,
             output := x.output.map fun o => max (effectiveMin p m) (min (effectiveMax p m) o) } := by
  have clamped : clamp (effectiveMin p m) (effectiveMax p m) = fun o => max (effectiveMin p m) (min (effectiveMax p m) o) :=
    funext fun o => clamp_eq (effectiveMin_le p m)
  rw [LevelState.setRange, clamped]

theorem exec_setStreetMode {n : Byte} {m : StreetMode} (h : n = 0 ∧ m = .day ∨ n = 1 ∧ m = .night) (s : State) :
    exec (.setStreetMode n) s = .next ((s.setMode m).answer .ok) := by
  rcases h with ⟨rfl, rfl⟩ | ⟨rfl, rfl⟩ <;> rfl

/-- Settles O35. -/
theorem setStreetMode : Obligations.SetStreetMode := by
  refine fun s n m which => ⟨fun same => ?_, fun differs => ⟨((s.onStore fun p => { p with mode := m }).rangeAll).answer .ok, ?_, rfl,
    fun i => ⟨effectiveMin (s.store.station i) m, effectiveMax (s.store.station i) m, isRange_effective _ m, ?_⟩⟩⟩
  · rw [exec_setStreetMode which, State.setMode, if_pos same]
  · rw [exec_setStreetMode which, State.setMode, if_neg differs]
  · rw [State.answer_levels, State.rangeAll, look_mapAll, LevelState.setRange_eq]
    rfl

/-! ## The fields of the profile writes (R3, R4, R8, R12) -/

theorem roundDown_eq (step v : Nat) : roundDown step v = v / step * step := by
  rw [roundDown, Nat.mul_comm]
  have := Nat.div_add_mod v step
  omega

theorem bring_eq {step lo hi : Nat} (h : lo ≤ hi) (v : Nat) : bring step lo hi v = max lo (min hi (v / step * step)) := by
  rw [bring, roundDown_eq, clamp_eq h]

/-- The double-press window (R8). -/
theorem bringDoubleWindow_eq (v : Nat) :
    bringDoubleWindow v = if v < 100 then 0 else max 200 (min 1500 (v / 100 * 100)) := by
  rw [bringDoubleWindow, bring_eq (by decide)]
  split <;> split <;> omega

theorem codeBool_eq {b : Byte} (h : b.toNat < 2) : codeBool b = some (decide (b = 1)) := by
  obtain rfl | rfl : b = 0 ∨ b = 1 := by bv_omega
  · rfl
  · rfl

theorem codeGroup_eq {b : Byte} (h : b.toNat < 8 ∨ b = 255) :
    ∃ g, codeGroup b = some g ∧ g.map Fin.val = if b = 255 then none else some b.toNat := by
  rcases h with small | rfl
  · have other : b ≠ 255 := by bv_omega
    have number : b.toNat ≠ Config.emptyNumber := by
      simp only [Config.emptyNumber]
      omega
    exact ⟨some ⟨b.toNat, small⟩, by rw [codeGroup, if_neg number, dif_pos small], by rw [if_neg other]; rfl⟩
  · exact ⟨none, rfl, rfl⟩

theorem codeMessage_eq {b : Byte} (h : b.toNat < 16) : codeMessage b = some ⟨b.toNat, h⟩ := by rw [codeMessage, dif_pos h]

theorem codeInfo_eq {b : Byte} (h : b.toNat < 16 ∨ b = 255) :
    ∃ m, codeInfo b = some m ∧ m.map Fin.val = if b = 255 then none else some b.toNat := by
  rcases h with small | rfl
  · have other : b ≠ 255 := by bv_omega
    have number : b.toNat ≠ Config.emptyNumber := by
      simp only [Config.emptyNumber]
      omega
    exact ⟨some ⟨b.toNat, small⟩, by rw [codeInfo, if_neg number, codeMessage_eq small]; rfl, by rw [if_neg other]; rfl⟩
  · exact ⟨none, rfl, rfl⟩

theorem codeWalkCue_eq {b : Byte} (h : b.toNat < 2) : ∃ x, codeWalkCue b = some x ∧ x.code = b.toNat := by
  obtain rfl | rfl : b = 0 ∨ b = 1 := by bv_omega
  · exact ⟨.tone, rfl, rfl⟩
  · exact ⟨.speech, rfl, rfl⟩

theorem codeIndicator_eq {b : Byte} (h : b.toNat < 7) : ∃ x, codeIndicator b = some x ∧ x.code = b.toNat := by
  obtain rfl | rfl | rfl | rfl | rfl | rfl | rfl : b = 0 ∨ b = 1 ∨ b = 2 ∨ b = 3 ∨ b = 4 ∨ b = 5 ∨ b = 6 := by bv_omega
  · exact ⟨.off, rfl, rfl⟩
  · exact ⟨.on, rfl, rfl⟩
  · exact ⟨.callWaiting, rfl, rfl⟩
  · exact ⟨.serving, rfl, rfl⟩
  · exact ⟨.walk, rfl, rfl⟩
  · exact ⟨.callOrWalk, rfl, rfl⟩
  · exact ⟨.stationFault, rfl, rfl⟩

/-- Settles O36: each code is named, each number brought into its range. -/
theorem writtenFields : Obligations.WrittenFields := by
  refine ⟨fun f enabled group propagate recallOk darkOk a b => ?_, fun f enabled crossing corner cue message info indicator invert blink => ?_,
    fun f night => ?_⟩
  · obtain ⟨g, hg, shown⟩ := codeGroup_eq group
    refine ⟨_, _, by
      simp only [crossingProfileOf, codeBool_eq enabled, hg, codeBool_eq propagate, codeBool_eq recallOk, codeBool_eq darkOk,
        codeBool_eq a, codeBool_eq b]
      rfl, rfl, rfl, rfl, rfl, rfl, rfl, shown, ?_, ?_, ?_, ?_, ?_⟩ <;> dsimp only
    · exact clamp_eq (by decide)
    · exact clamp_eq (by decide)
    · rw [clamp_eq (by decide)]
    · exact bring_eq (by decide) _
    · simp [and_assoc]
  · obtain ⟨w, hw, cue_shown⟩ := codeWalkCue_eq cue
    obtain ⟨m, hm, info_shown⟩ := codeInfo_eq info
    obtain ⟨x, hx, indicator_shown⟩ := codeIndicator_eq indicator
    have at_crossing : crossingOf f.crossing = some ⟨f.crossing.toNat, crossing⟩ := crossingOf_eq rfl
    have at_corner : cornerOf f.corner = some ⟨f.corner.toNat, corner⟩ := cornerOf_eq rfl
    have byte_bound := f.stuckLimit.isLt
    refine ⟨_, _, by
      simp only [stationProfileOf, codeBool_eq enabled, at_crossing, at_corner, hw, codeMessage_eq message, hm, hx, codeBool_eq invert,
        codeBool_eq blink]
      rfl, rfl, rfl, rfl, cue_shown, rfl, info_shown, rfl, rfl, rfl, rfl, indicator_shown, rfl, rfl, ?_, ?_, ?_, ?_, ?_, ?_, ?_, ?_, ?_, ?_⟩ <;>
      dsimp only
    · rw [clamp_eq (by decide), Nat.zero_max]
    · exact bring_eq (by decide) _
    · rw [clamp_eq (by decide), Nat.min_eq_right (by omega)]
    · exact bringDoubleWindow_eq _
    · rw [clamp_eq (by decide), Nat.zero_max]
    · exact clamp_eq (by decide)
    · rw [clamp_eq (by decide)]
    · exact clamp_eq (by decide)
    · rw [clamp_eq (by decide), Nat.zero_max]
    · simp
      tauto
  · refine ⟨_, _, by
      simp only [cornerProfileOf, codeBool_eq night]
      rfl, rfl, ?_, ?_, ?_, ?_⟩ <;> dsimp only
    · exact bring_eq (by decide) _
    · have long : 500 ≤ bring 50 500 2000 f.period.toNat := le_clamp (by decide)
      exact bring_eq (by omega) _
    · rw [bring_eq (by decide), Nat.zero_max]
    · simp [and_assoc]

/-! ## WRITE CROSSING, WRITE STATION and WRITE CORNER (R2 to R13) -/

/-- The state in which crossing c's pending copy is a written profile. -/
def State.withPending (s : State) (c : Crossing) (new : CrossingProfile) : State :=
  { s with store := { s.store with
      crossings := put s.store.crossings c { look s.store.crossings c with pending := some new } } }

theorem exec_writeCrossing {n : Byte} {c : Crossing} {f : CrossingFields} {new : CrossingProfile} {adjusted : Bool} (at_ : n.toNat = c.val)
    (h : crossingProfileOf f = some (new, adjusted)) (s : State) :
    exec (.writeCrossing n f) s = .next (((s.withPending c new).settleCrossing c).answer (okOr adjusted)) := by
  simp only [exec, execWriteCrossing, crossingOf_eq at_, h]
  rfl

theorem State.withPending_crossing (s : State) (c : Crossing) (new : CrossingProfile) (d : Crossing) :
    (s.withPending c new).store.crossing d = s.store.crossing d := by
  simp only [State.withPending, ProfileStore.crossing, look_put]
  split
  next hd => rw [hd]
  next => rfl

theorem withPending_atTransferPoint {s : State} {c : Crossing} {new : CrossingProfile} :
    AtTransferPoint (s.withPending c new) c ↔ AtTransferPoint s c := by
  unfold AtTransferPoint
  rw [State.withPending_crossing]
  rfl

/-- Settles O37: the write is a pending copy, which transfers at the transfer point. -/
theorem writeCrossing : Obligations.WriteCrossing := by
  intro s n c f new adjusted gates at_ fields
  have only : OnlyAt c s ((s.withPending c new).settleCrossing c) :=
    (OnlyAt.putProfile { look s.store.crossings c with pending := some new }).trans (.settleCrossing _)
  have pending : (look (s.withPending c new).store.crossings c).pending = some new := by
    rw [State.withPending, look_put_self]
  refine ⟨_, exec_writeCrossing at_ fields s, by cases adjusted <;> rfl, ?_, only.profiles, fun point => ⟨?_, _, rfl, rfl⟩, fun away => ?_⟩
  · rw [State.answer_store, only.frame]
    rfl
  · exact State.settleCrossing_profile pending (crossingTransferPoint_iff.2 (withPending_atTransferPoint.2 point))
  · have stays : (s.withPending c new).settleCrossing c = s.withPending c new := by
      have point : (s.withPending c new).crossingTransferPoint c = false := by
        rw [Bool.eq_false_iff, ne_eq, crossingTransferPoint_iff, withPending_atTransferPoint]
        exact away
      rw [State.settleCrossing, State.testTransfer_away point]
      apply State.findGate_stays
      have condition : (s.withPending c new).gateCondition c = s.gateCondition c := by
        simp only [State.gateCondition, State.withPending_crossing]
        rfl
      rw [condition]
      exact gates.look_eq c
    rw [stays]
    exact ⟨look_put_self _ _ _, rfl⟩

theorem exec_writeCorner {n : Byte} {k : Corner} {f : CornerFields} {new : CornerProfile} {adjusted : Bool} (at_ : n.toNat = k.val)
    (h : cornerProfileOf f = some (new, adjusted)) (s : State) :
    exec (.writeCorner n f) s = .next ((s.onStore fun p =>
      { p with corners := change p.corners k fun x => { x with pending := some new } }).answer (if adjusted then .adjusted else .ok)) := by
  simp only [exec, execWriteCorner, cornerOf_eq at_, h]
  rfl

theorem breaksLimits_of_le {p : ProfileStore} {i : Station} {new : StationProfile}
    (crossings : countWhere (fun j : Station => j != i && (look p.stations j).counted.crossing == new.crossing) ≤ 3)
    (corners : countWhere (fun j : Station => j != i && (look p.stations j).counted.corner == new.corner) ≤ 5) :
    p.breaksLimits i new = false := by
  rw [ProfileStore.breaksLimits, Bool.or_eq_false_iff, decide_eq_false_iff_not, decide_eq_false_iff_not]
  exact ⟨Nat.not_lt.2 (Nat.succ_le_succ crossings), Nat.not_lt.2 (Nat.succ_le_succ corners)⟩

theorem exec_writeStation {n : Byte} {i : Station} {f : StationFields} {new : StationProfile} {adjusted : Bool} (at_ : n.toNat = i.val)
    (h : stationProfileOf f = some (new, adjusted)) (s : State) (limit : s.store.breaksLimits i new = false) :
    exec (.writeStation n f) s = .next ((s.onStore fun p =>
      { p with stations := change p.stations i fun x => { x with pending := some new } }).answer (if adjusted then .adjusted else .ok)) := by
  simp only [exec, execWriteStation, stationOf_eq at_, h, limit, Bool.false_eq_true, if_false]
  rfl

/-- Settles O38: by the two assignment limits. -/
theorem writeStationAndCorner : Obligations.WriteStationAndCorner := by
  refine ⟨fun s n i f new adjusted at_ fields => ⟨fun breaks => ?_, fun crossings corners =>
      ⟨_, exec_writeStation at_ fields s (breaksLimits_of_le crossings corners), rfl, look_change_self _ _ _, beside_change _ _ _⟩⟩,
    fun s n k f new adjusted at_ fields => ⟨_, exec_writeCorner at_ fields s, rfl, look_change_self _ _ _, beside_change _ _ _⟩⟩
  · have limit : s.store.breaksLimits i new = true := by
      rw [ProfileStore.breaksLimits, Bool.or_eq_true, decide_eq_true_iff, decide_eq_true_iff]
      exact breaks.imp Nat.lt_succ_of_le Nat.lt_succ_of_le
    simp only [exec, execWriteStation, stationOf_eq at_, fields, limit, if_true]

end Sys2Proof.Machine

/-! WRITE STREET (R14, R15, R111). -/

namespace Sys2Proof.Machine

/-! ## What new settings of one line make of its flags (R111) -/

/-- A change of mode on an INACTIVE line (R111): its flags ended, released by cycle, or kept with no wait. -/
theorem HoldUnit.newMode_beside (h : HoldUnit) (a : Vector AspectState 24) (mode : ReleaseMode) (l : HoldLine) (c : Crossing) :
    (look h.flags c).BesideLine l (look (h.newMode a mode l).flags c) := by
  cases mode with
  | level =>
    rw [HoldUnit.newMode, HoldUnit.clearLine_look]
    exact HoldFlags.withLine_beside _ _ _ _
  | cycle => exact (h.cycleRelease_released l a c).2
  | latch =>
    rw [HoldUnit.newMode, HoldUnit.dropWaits_look]
    exact HoldFlags.withLine_beside _ _ _ _

/-- What the settings in force make of a line's flag and wait on a crossing that shows a: x and w are the flag and the wait before, y and
v after (R105 to R111). -/
structure LineSettled (was now : Bool) (changed : Bool) (mode : ReleaseMode) (p : CrossingProfile) (a : Aspect) (l : HoldLine)
    (x w y v : Bool) : Prop where
  activates : was = false → now = true → (y = true ↔ x = true ∨ (p.enabled = true ∧ p.responds l = true)) ∧ v = false
  level : now = false → was = true ∨ changed = true → mode = .level → y = false ∧ v = false
  cycle : now = false → was = true ∨ changed = true → mode = .cycle → x = true →
    (y = true ↔ a = .walk ∨ a = .clearance ∨ a = .conflict) ∧ v = y
  cycle_clear : now = false → was = true ∨ changed = true → mode = .cycle → x = false → y = false
  latch : now = false → was = true ∨ changed = true → mode = .latch → y = x ∧ (was = false → v = false)
  stands : was = true ∧ now = true ∨ was = false ∧ now = false ∧ changed = false → y = x ∧ v = w

section Apply

variable (s : State) (before : ProfileStore) (l : HoldLine)

theorem State.applyLine_frame : s.applyLine before l = { s with holds := { s.holds with flags := (s.applyLine before l).holds.flags } } := by
  unfold State.applyLine
  split
  · rfl
  · cases (s.store.line l).releaseMode <;> rfl
  · split
    · rfl
    · cases (s.store.line l).releaseMode <;> rfl
  · rfl

theorem State.applyLine_beside (c : Crossing) : (look s.holds.flags c).BesideLine l (look (s.applyLine before l).holds.flags c) := by
  unfold State.applyLine
  split
  · exact (s.holds.activate_activated s.store l c).2
  · exact (s.holds.goInactive_released l s.aspects c _).2
  · split
    · exact .refl _ _
    · exact s.holds.newMode_beside s.aspects _ l c
  · exact .refl _ _

/-- A release under CYCLE, flag and wait. -/
theorem HoldUnit.cycleRelease_line (h : HoldUnit) (a : Vector AspectState 24) (c : Crossing) :
    ((look h.flags c).flag l = true →
      ((look (h.cycleRelease a l).flags c).flag l = true ↔
        (look a c).observed = .walk ∨ (look a c).observed = .clearance ∨ (look a c).observed = .conflict) ∧
      (look (h.cycleRelease a l).flags c).wait l = (look (h.cycleRelease a l).flags c).flag l) ∧
    ((look h.flags c).flag l = false → (look (h.cycleRelease a l).flags c).flag l = false) := by
  rw [HoldUnit.cycleRelease_look]
  refine ⟨fun set => ?_, fun clear => ?_⟩
  · rw [if_pos set]
    cases (look a c).observed <;> simp [Aspect.isQuiet]
  · rw [if_neg (by simp [clear]), clear]

theorem State.applyLine_settled (c : Crossing) :
    LineSettled (lineActive before s.holds l) (lineActive s.store s.holds l)
      (decide ((before.line l).releaseMode ≠ (s.store.line l).releaseMode)) (s.store.line l).releaseMode (s.store.crossing c)
      (look s.aspects c).observed l ((look s.holds.flags c).flag l) ((look s.holds.flags c).wait l)
      ((look (s.applyLine before l).holds.flags c).flag l) ((look (s.applyLine before l).holds.flags c).wait l) := by
  have activated := (s.holds.activate_activated s.store l c).1
  have cleared := s.holds.clearLine_look l c
  have dropped := s.holds.dropWaits_look l c
  obtain ⟨cycled, uncycled⟩ := s.holds.cycleRelease_line l s.aspects c
  unfold State.applyLine
  cases was : lineActive before s.holds l with
  | true =>
    cases now : lineActive s.store s.holds l with
    | true => constructor <;> simp
    | false =>
      dsimp only [State.onHolds]
      cases mode : (s.store.line l).releaseMode <;> constructor <;> simp [HoldUnit.goInactive, cleared] <;> assumption
  | false =>
    cases now : lineActive s.store s.holds l with
    | true =>
      constructor <;> simp
      exact activated
    | false =>
      by_cases same : (before.line l).releaseMode = (s.store.line l).releaseMode
      · constructor <;> simp [same]
      · dsimp only
        rw [if_neg same]
        dsimp only [State.onHolds]
        cases mode : (s.store.line l).releaseMode <;> rw [mode] at same <;> constructor <;>
          simp [HoldUnit.newMode, cleared, dropped, same] <;> assumption

end Apply

/-! ## The obligation -/

/-- The Profile Store with the street settings written. -/
def ProfileStore.withStreet (a b : LineSettings) (n : Nat) (p : ProfileStore) : ProfileStore :=
  { p with lineA := a, lineB := b, nextFrameLength := some (max 1 (min 48 n)) }

/-- The state after both lines' settings are dealt with, before the gates are found. -/
def State.streetWritten (a b : LineSettings) (n : Nat) (s : State) : State :=
  ((s.onStore (ProfileStore.withStreet a b n)).applyLine s.store .a).applyLine s.store .b

theorem State.writeStreet_eq (a b : LineSettings) (n : Nat) (s : State) :
    s.writeStreet a b n = ((s.streetWritten a b n).findGates).answer (if 1 ≤ n ∧ n ≤ 48 then .ok else .adjusted) := by
  have kept : clamp Config.frameMin Config.frameMax n = max 1 (min 48 n) := clamp_eq (by decide)
  have status : okOr (max 1 (min 48 n) != n) = if 1 ≤ n ∧ n ≤ 48 then Status.ok else .adjusted := by
    by_cases inside : 1 ≤ n ∧ n ≤ 48
    · have same : max 1 (min 48 n) = n := by omega
      simp [inside, okOr]
    · have other : max 1 (min 48 n) ≠ n := by omega
      rw [if_neg inside]
      simp [other, okOr]
  rw [State.writeStreet, kept, status]
  rfl

theorem exec_writeStreet (la lb : Level) (ma mb : ReleaseMode) (n : Byte) (s : State) :
    exec (.writeStreet (if la = .low then 0 else 1) (byte ma.code) (if lb = .low then 0 else 1) (byte mb.code) n) s =
      .next (s.writeStreet { activeLevel := la, releaseMode := ma } { activeLevel := lb, releaseMode := mb } n.toNat) := by
  have level : ∀ x : Level, codeLevel (if x = .low then 0 else 1) = some x := fun x => by cases x <;> rfl
  have release : ∀ x : ReleaseMode, codeRelease (byte x.code) = some x := fun x => by cases x <;> rfl
  simp only [exec, execWriteStreet, level, release]

section Written

variable (a b : LineSettings) (n : Nat) (s : State)

theorem State.streetWritten_frame : s.streetWritten a b n = { s with
    store := s.store.withStreet a b n, holds := { s.holds with flags := (s.streetWritten a b n).holds.flags } } := by
  unfold State.streetWritten
  rw [State.applyLine_frame _ _ .b, State.applyLine_frame _ _ .a]
  rfl

theorem State.streetWritten_active (p : ProfileStore) (l : HoldLine) :
    lineActive p (s.streetWritten a b n).holds l = lineActive p s.holds l := by
  rw [State.streetWritten_frame, lineActive_flags]

/-- Each line is dealt with by its own settings alone (R111). -/
theorem State.streetWritten_settled (l : HoldLine) (c : Crossing) :
    LineSettled (lineActive s.store s.holds l) (lineActive (s.store.withStreet a b n) s.holds l)
      (decide ((s.store.line l).releaseMode ≠ ((s.store.withStreet a b n).line l).releaseMode)) ((s.store.withStreet a b n).line l).releaseMode
      (s.store.crossing c) (look s.aspects c).observed l ((look s.holds.flags c).flag l) ((look s.holds.flags c).wait l)
      ((look (s.streetWritten a b n).holds.flags c).flag l) ((look (s.streetWritten a b n).holds.flags c).wait l) := by
  have first := State.applyLine_frame (s.onStore (ProfileStore.withStreet a b n)) s.store .a
  have settled_a := State.applyLine_settled (s.onStore (ProfileStore.withStreet a b n)) s.store .a c
  obtain ⟨beside_a, -⟩ := State.applyLine_beside (s.onStore (ProfileStore.withStreet a b n)) s.store .a c
  unfold State.streetWritten
  generalize (s.onStore (ProfileStore.withStreet a b n)).applyLine s.store .a = u at first settled_a beside_a ⊢
  have settled_b := State.applyLine_settled u s.store .b c
  obtain ⟨beside_b, -⟩ := State.applyLine_beside u s.store .b c
  cases l with
  | a =>
    obtain ⟨flag, wait⟩ := beside_b .a (by decide)
    rw [flag, wait]
    exact settled_a
  | b =>
    obtain ⟨flag, wait⟩ := beside_a .b (by decide)
    have active : ∀ p, lineActive p u.holds .b = lineActive p s.holds .b := fun p => by rw [first, lineActive_flags]; rfl
    have store : u.store = s.store.withStreet a b n := by rw [first]; rfl
    have lamps : u.aspects = s.aspects := by rw [first]; rfl
    rw [flag, wait, active, active, store, lamps] at settled_b
    exact settled_b

theorem State.streetWritten_s (c : Crossing) : (look (s.streetWritten a b n).holds.flags c).s = (look s.holds.flags c).s :=
  (State.applyLine_beside _ s.store .b c).2.trans (State.applyLine_beside (s.onStore (ProfileStore.withStreet a b n)) s.store .a c).2

end Written

/-- Settles O39: each line is settled, and then every gate is found. -/
theorem writeStreet : Obligations.WriteStreet := by
  intro s la lb ma mb n
  refine ⟨_, exec_writeStreet la lb ma mb n s, ?_⟩
  rw [State.writeStreet_eq]
  generalize ({ activeLevel := la, releaseMode := ma } : LineSettings) = a
  generalize ({ activeLevel := lb, releaseMode := mb } : LineSettings) = b
  have frame := s.streetWritten_frame a b n.toNat
  refine ⟨?_, (GateLaw.findGates _).answer _, ?_, fun c => ?_, fun l c => ?_⟩
  · rw [State.answer_holds, State.findGates_holds, State.answer_cues]
    have found := (s.streetWritten a b n.toNat).findGates_frame
    generalize (s.streetWritten a b n.toNat).findGates = t at found ⊢
    rw [found]
    generalize (s.streetWritten a b n.toNat) = u at frame ⊢
    rw [frame]
    rfl
  · rw [State.answer_cues, State.findGates_corners, frame]
  · rw [State.answer_holds, State.findGates_holds]
    exact s.streetWritten_s a b n.toNat c
  · have store : (s.streetWritten a b n.toNat).store = s.store.withStreet a b n.toNat := by rw [frame]
    simp only [State.answer_store, State.answer_holds, State.findGates_store, State.findGates_holds, State.streetWritten_active, store]
    obtain ⟨activates, level, cycle, cycle_clear, latch, stands⟩ := s.streetWritten_settled a b n.toNat l c
    have changes : ∀ {x y : ReleaseMode} {p : Prop}, p ∨ x ≠ y → p ∨ decide (y ≠ x) = true := fun h =>
      h.imp id fun ne => decide_eq_true (Ne.symm ne)
    refine ⟨activates, fun inactive deals => ⟨level inactive (changes deals), cycle inactive (changes deals),
      cycle_clear inactive (changes deals), latch inactive (changes deals)⟩, fun still => stands (still.imp id ?_)⟩
    rintro ⟨was, now, same⟩
    exact ⟨was, now, by simp [same]⟩

end Sys2Proof.Machine

/-! The Cue Generator's operations on one corner: the start test, the gap, the end of a playback; PERIOD_START, SAMPLE_POINT and the speech
channel's events (R118, R134 to R136). -/

namespace Sys2Proof.Machine

/-! ## The start test (R134) -/

/-- A station of corner k has a walk tone or walk speech in force (R134). -/
def CueGenerator.WalkSounds (p : ProfileStore) (g : CueGenerator) (k : Corner) : Prop :=
  ∃ i, (p.station i).corner = k ∧ ((look g.stations i).sound = .walkTone ∨ (look g.stations i).sound = .speech .walk)

theorem Sound.isWalkSound_iff (x : Sound) : x.isWalkSound = true ↔ x = .walkTone ∨ x = .speech .walk := by
  cases x with
  | speech kind => cases kind <;> simp [Sound.isWalkSound]
  | _ => simp [Sound.isWalkSound]

theorem CueGenerator.walkSounding_iff (p : ProfileStore) (g : CueGenerator) (k : Corner) :
    g.walkSounding p k = true ↔ g.WalkSounds p k := by
  simp [CueGenerator.walkSounding, CueGenerator.WalkSounds, Sound.isWalkSound_iff]

theorem SpeechEntry.kind_cases (e : SpeechEntry) : e.kind = .walk ∨ e.kind = .info := by
  cases e.kind <;> simp

section Corner

variable {p : ProfileStore} {k : Corner} {g : CueGenerator}

theorem CueGenerator.startTest_busy (h : (look g.speech k).channel ≠ .idle) : g.startTest p k = g := by
  unfold CueGenerator.startTest
  split
  next hi _ => exact absurd hi h
  next => rfl

theorem CueGenerator.startTest_empty (h : (look g.speech k).queue = []) : g.startTest p k = g := by
  unfold CueGenerator.startTest
  split
  next hq => rw [h] at hq; cases hq
  next => rfl

theorem CueGenerator.startTest_starts {e : SpeechEntry} {rest : List SpeechEntry} (hi : (look g.speech k).channel = .idle)
    (hq : (look g.speech k).queue = e :: rest) (h : e.kind = .walk ∨ ¬ g.WalkSounds p k) :
    g.startTest p k =
      { g with speech := put g.speech k { look g.speech k with channel := .playing e 0 g.nextSerial, queue := rest },
               nextSerial := g.nextSerial + 1 } := by
  have hb : (decide (e.kind = .walk) || !g.walkSounding p k) = true := by
    rw [← g.walkSounding_iff p k] at h
    simpa using h
  unfold CueGenerator.startTest
  rw [hi, hq]
  exact if_pos hb

theorem CueGenerator.startTest_waits {e : SpeechEntry} {rest : List SpeechEntry} (hq : (look g.speech k).queue = e :: rest)
    (he : e.kind = .info) (h : g.WalkSounds p k) : g.startTest p k = g := by
  by_cases hi : (look g.speech k).channel = .idle
  · have hb : ¬ (decide (e.kind = .walk) || !g.walkSounding p k) = true := by
      rw [← g.walkSounding_iff p k] at h
      simp [he, h]
    unfold CueGenerator.startTest
    rw [hi, hq]
    exact if_neg hb
  · exact CueGenerator.startTest_busy hi

/-- The start test on an IDLE channel does what `StartTested` says, at its corner alone. -/
theorem CueGenerator.startTest_tested (p : ProfileStore) (hi : (look g.speech k).channel = .idle) :
    ∃ w n, g.startTest p k = { g with speech := put g.speech k w, nextSerial := n } ∧
      StartTested (g.WalkSounds p k) (look g.speech k) w := by
  cases hq : (look g.speech k).queue with
  | nil =>
    refine ⟨look g.speech k, g.nextSerial, ?_, fun _ => rfl, fun d rest h => ?_⟩
    · rw [CueGenerator.startTest_empty hq, put_look_self]
    · rw [hq] at h; cases h
  | cons e l =>
    by_cases h : e.kind = .walk ∨ ¬ g.WalkSounds p k
    · refine ⟨_, _, CueGenerator.startTest_starts hi hq h, fun hn => ?_, fun d rest hd => ?_⟩
      · rw [hq] at hn; cases hn
      · obtain ⟨rfl, rfl⟩ := List.cons.inj (hq.symm.trans hd)
        refine ⟨fun _ => ⟨_, rfl⟩, fun he hw => ?_⟩
        rcases h with h | h
        · rw [he] at h; cases h
        · exact absurd hw h
    · obtain ⟨hk, hw⟩ := not_or.1 h
      refine ⟨look g.speech k, g.nextSerial, ?_, fun _ => rfl, fun d rest hd => ?_⟩
      · rw [CueGenerator.startTest_waits hq (e.kind_cases.resolve_left hk) (not_not.1 hw), put_look_self]
      · obtain ⟨rfl, rfl⟩ := List.cons.inj (hq.symm.trans hd)
        exact ⟨fun hd => absurd hd h, fun _ _ => rfl⟩

/-- What the start test leaves of everything but the corner's speech. -/
theorem CueGenerator.startTest_at (p : ProfileStore) (k : Corner) (g : CueGenerator) :
    ∃ w n, g.startTest p k = { g with speech := put g.speech k w, nextSerial := n } := by
  by_cases hi : (look g.speech k).channel = .idle
  · obtain ⟨w, n, h, -⟩ := CueGenerator.startTest_tested p hi
    exact ⟨w, n, h⟩
  · exact ⟨look g.speech k, g.nextSerial, by rw [CueGenerator.startTest_busy hi, put_look_self]⟩

/-! ## The end of a playback (R135, R136) -/

/-- A playback is over and leaves the speech v: the gap of its length follows, or, with a gap of 0, the start test. -/
def GapEntered (gap : Nat) (walking : Prop) (v w : CornerSpeech) : Prop :=
  (0 < gap → w = { v with channel := .gap gap }) ∧ (gap = 0 → StartTested walking { v with channel := .idle } w)

theorem CueGenerator.enterGap_some (h : 0 < (p.corner k).gap) : g.enterGap p k = g.setChannel k (.gap (p.corner k).gap) :=
  if_neg (Nat.ne_of_gt h)

theorem CueGenerator.enterGap_none (h : (p.corner k).gap = 0) : g.enterGap p k = (g.setChannel k .idle).startTest p k := if_pos h

theorem CueGenerator.enterGap_entered (p : ProfileStore) (k : Corner) (g : CueGenerator) :
    ∃ w n, g.enterGap p k = { g with speech := put g.speech k w, nextSerial := n } ∧ (0 < (p.corner k).gap → n = g.nextSerial) ∧
      GapEntered (p.corner k).gap (g.WalkSounds p k) (look g.speech k) w := by
  by_cases h : (p.corner k).gap = 0
  · have hi : (look (g.setChannel k .idle).speech k).channel = .idle := by simp [CueGenerator.setChannel]
    have hv : look (g.setChannel k .idle).speech k = { look g.speech k with channel := .idle } := look_change_self _ _ _
    have hs : (g.setChannel k .idle).WalkSounds p k = g.WalkSounds p k := rfl
    obtain ⟨w, n, hw, ht⟩ := CueGenerator.startTest_tested p hi
    refine ⟨w, n, ?_, fun hp => absurd h (Nat.ne_of_gt hp), fun hp => absurd h (Nat.ne_of_gt hp), fun _ => hv ▸ hs ▸ ht⟩
    rw [CueGenerator.enterGap_none h, hw]
    simp [CueGenerator.setChannel, CueGenerator.onSpeech, change_eq_put]
  · have hp := Nat.pos_of_ne_zero h
    exact ⟨_, g.nextSerial, CueGenerator.enterGap_some hp, fun _ => rfl, fun _ => rfl, fun h0 => absurd h0 h⟩

/-- What the end of a playback with a result leaves of the corner's speech before the gap: the mark of a limit that lapses (log 30). -/
def CornerSpeech.ended (since : Nat) (r : SpeechResult) (v : CornerSpeech) : CornerSpeech :=
  { v with limitLapsed := v.limitLapsed || (decide (20000 ≤ since) && r != .timeout) }

theorem CueGenerator.endPlayback_idle {r : SpeechResult} (h : ∀ e since n, (look g.speech k).channel ≠ .playing e since n) :
    g.endPlayback p k r = g := by
  unfold CueGenerator.endPlayback
  split
  · rfl
  · next hc => exact absurd hc (h _ _ _)
  · rfl

/-- The end of a playback: the result of its station, the mark, and the gap. -/
theorem CueGenerator.endPlayback_playing {e : SpeechEntry} {since n : Nat} (p : ProfileStore) (r : SpeechResult)
    (h : (look g.speech k).channel = .playing e since n) :
    ∃ w m, g.endPlayback p k r = { g with
        stations := change g.stations e.station fun x => { x with result := r }, speech := put g.speech k w, nextSerial := m } ∧
      (0 < (p.corner k).gap → m = g.nextSerial) ∧
      GapEntered (p.corner k).gap (g.WalkSounds p k) ((look g.speech k).ended since r) w := by
  have he : g.endPlayback p k r = ((g.result e.station r).lapseLimit k since r).enterGap p k := by
    unfold CueGenerator.endPlayback
    rw [h]
  obtain ⟨w, m, hw, hm, hg⟩ := ((g.result e.station r).lapseLimit k since r).enterGap_entered p k
  refine ⟨w, m, ?_, hm, ?_⟩
  · rw [he, hw]
    simp [CueGenerator.lapseLimit, CueGenerator.result, CueGenerator.onSpeech, CueGenerator.onStation, change_eq_put]
  · have hs : ((g.result e.station r).lapseLimit k since r).WalkSounds p k ↔ g.WalkSounds p k := by
      unfold CueGenerator.WalkSounds
      refine exists_congr fun i => ?_
      have : (look ((g.result e.station r).lapseLimit k since r).stations i).sound = (look g.stations i).sound := by
        simp only [CueGenerator.lapseLimit_stations, CueGenerator.result, CueGenerator.onStation_stations, look_change]
        split <;> rfl
      rw [this]
    have hv : look ((g.result e.station r).lapseLimit k since r).speech k = (look g.speech k).ended since r := look_change_self _ _ _
    rw [propext hs, hv] at hg
    exact hg

end Corner

end Sys2Proof.Machine

/-! PERIOD_START, CORNER_TRANSFER, SAMPLE_POINT, and the events of the speech channel (R118, R134 to R136). -/

namespace Sys2Proof.Machine

theorem exec_samplePoint (k : Corner) (s : State) : exec (.samplePoint k) s = execSamplePoint k s := rfl
theorem exec_periodStart (k : Corner) (s : State) : exec (.periodStart k) s = .next (s.startPeriod k) := rfl
theorem exec_cornerTransfer (k : Corner) (s : State) : exec (.cornerTransfer k) s = .next (s.transferCorner k) := rfl
theorem exec_speechStart (k : Corner) (s : State) :
    exec (.speechStart k) s = .next (s.onCues (CueGenerator.startTest s.store k)) := rfl
theorem exec_playLimit (k : Corner) (s : State) :
    exec (.playLimit k) s = .next (s.onCues (CueGenerator.limitPlayback s.store k)) := rfl
theorem exec_gapEnd (k : Corner) (s : State) : exec (.gapEnd k) s = .next (s.onCues (CueGenerator.endGap s.store k)) := rfl

/-! ## The sample point -/

theorem exec_samplePoint_passed {k : Corner} {s : State} (h : (look s.cues.corners k).samplePassed = true) :
    exec (.samplePoint k) s = .next s := if_pos h

theorem exec_samplePoint_first {k : Corner} {s : State} (h : (look s.cues.corners k).samplePassed = false) :
    exec (.samplePoint k) s = .next
      { s with
        cues := { s.cues with corners := change s.cues.corners k fun x => { x with samplePassed := true } }
        levels := mapAll (fun i x => if (s.store.station i).corner = k then { x with windowOpen := true } else x) s.levels } :=
  if_neg (by rw [h]; exact Bool.false_ne_true)

/-- Settles O51: once in a period by the mark of the sample point; the filter by the two directions of its eighth. -/
theorem samplePointAndFilter : Obligations.SamplePointAndFilter := by
  unfold Obligations.SamplePointAndFilter
  refine ⟨fun s k => ⟨exec_samplePoint_passed, fun h => ⟨_, exec_samplePoint_first h, rfl, look_change_self _ _ _, beside_change _ _ _,
    fun i => ?_⟩⟩, fun f v hf hf' hv hv' => ⟨fun up => ⟨(16 * v - f) / 8, by omega, by omega, filterAmbient_up up⟩,
      fun down => ⟨(f - 16 * v) / 8, by omega, by omega, filterAmbient_down down⟩, filterAmbient_mem ⟨hf, hf'⟩ ⟨hv, hv'⟩⟩⟩
  exact look_mapAll _ _ _

/-! ## The period start -/

theorem Copies.transfer_eq {α : Type} (x : Copies α) : x.transfer = { active := x.pending.getD x.active, pending := none } := by
  obtain ⟨a, p⟩ := x
  cases p <;> rfl

theorem State.transferCorner_look (k : Corner) (s : State) :
    look (s.transferCorner k).store.corners k =
      { active := (look s.store.corners k).pending.getD (s.store.corner k), pending := none } :=
  (look_change_self _ _ _).trans (Copies.transfer_eq _)

theorem State.transferCorner_corner (k : Corner) (s : State) :
    (s.transferCorner k).store.corner k = (look s.store.corners k).pending.getD (s.store.corner k) :=
  congrArg Copies.active (s.transferCorner_look k)

/-- The slew of a station's output level brings it toward the target by at most 3 dB (R152). -/
theorem LevelState.slew_eq (x : LevelState) (p : StationProfile) :
    x.slew p = { x with output := x.output.map fun o =>
      if o + 3 < x.target p then o + 3 else if x.target p + 3 < o then o - 3 else x.target p } := rfl

/-- The levels after the slew of corner k (R118 step 3). -/
theorem State.startPeriod_levels (k : Corner) (s : State) (i : Station) :
    look (s.startPeriod k).levels i =
      if (s.store.station i).corner = k ∧ s.linkState i = .active then (look s.levels i).slew (s.store.station i)
      else look s.levels i := look_mapAll _ _ _

/-- A period start, its steps written out. -/
theorem State.startPeriod_eq (k : Corner) (s : State) :
    s.startPeriod k =
      { s with
        store := { s.store with corners := (s.transferCorner k).store.corners }
        cues := { s.cues with
          corners := change s.cues.corners k (CornerPhase.begin ((s.transferCorner k).store.corner k))
          stations := mapAll (fun i x => if (s.store.station i).corner = k then x.nextPeriod else x) s.cues.stations }
        levels := (s.startPeriod k).levels } := rfl

/-- Settles O50: the six steps of a period start, read off its definition block by block. -/
theorem periodStart : Obligations.PeriodStart := by
  unfold Obligations.PeriodStart
  intro s k p hp
  have hcorner : (s.transferCorner k).store.corner k = p := (s.transferCorner_corner k).trans hp.symm
  have hlook := hp ▸ s.transferCorner_look k
  have hbeside : Beside s.store.corners (s.transferCorner k).store.corners k := beside_change _ _ _
  refine ⟨⟨s.startPeriod k, exec_periodStart k s, s.startPeriod_eq k, hlook, hbeside, ?_, ?_, fun i => ?_, fun i hi => ?_,
    fun i hk ha => ⟨_, rfl, ?_⟩⟩, _, exec_cornerTransfer k s, rfl, hlook, hbeside⟩
  · rw [s.startPeriod_eq k, hcorner]
    exact look_change_self _ _ _
  · rw [s.startPeriod_eq k]
    exact beside_change _ _ _
  · rw [s.startPeriod_eq k]
    exact look_mapAll _ _ _
  · rw [s.startPeriod_levels k i, if_neg]
    rintro ⟨hk, ha⟩
    exact hi.elim (fun h => h hk) fun h => h ha
  · rw [s.startPeriod_levels k i, if_pos ⟨hk, ha⟩]
    exact LevelState.slew_eq _ _

/-! ## The events of the speech channel -/

section Channel

variable {p : ProfileStore} {k : Corner} {g : CueGenerator}

theorem CueGenerator.endGap_idle (h : ∀ left, (look g.speech k).channel ≠ .gap left) : g.endGap p k = g := by
  unfold CueGenerator.endGap
  split
  · rfl
  · rfl
  · next hc => exact absurd hc (h _)

/-- The end of a gap: the channel IDLE, and the start test (R136). -/
theorem CueGenerator.endGap_gap {left : Nat} (p : ProfileStore) (h : (look g.speech k).channel = .gap left) :
    ∃ w n, g.endGap p k = { g with speech := put g.speech k w, nextSerial := n } ∧
      StartTested (g.WalkSounds p k) { look g.speech k with channel := .idle } w := by
  have he : g.endGap p k = (g.setChannel k .idle).startTest p k := by
    unfold CueGenerator.endGap
    rw [h]
  have hv : look (g.setChannel k .idle).speech k = { look g.speech k with channel := .idle } := look_change_self _ _ _
  obtain ⟨w, n, hw, ht⟩ := CueGenerator.startTest_tested (g := g.setChannel k .idle) (k := k) p (congrArg CornerSpeech.channel hv)
  refine ⟨w, n, ?_, hv ▸ ht⟩
  rw [he, hw]
  simp [CueGenerator.setChannel, CueGenerator.onSpeech, change_eq_put]

theorem CueGenerator.limitPlayback_lapsed (h : (look g.speech k).limitLapsed = true) :
    g.limitPlayback p k = g.onSpeech k fun v => { v with limitLapsed := false } := if_pos h

theorem CueGenerator.limitPlayback_due (h : (look g.speech k).limitLapsed = false) :
    g.limitPlayback p k = g.endPlayback p k .timeout := if_neg (by rw [h]; exact Bool.false_ne_true)

/-- The play limit itself marks nothing. -/
theorem CornerSpeech.ended_timeout (since : Nat) (v : CornerSpeech) : v.ended since .timeout = v := by
  obtain ⟨c, q, b⟩ := v
  simp [CornerSpeech.ended]

end Channel

/-- Settles O52: the start test, the play limit and the gap's end, each with the speech its operation leaves. -/
theorem speechChannel : Obligations.SpeechChannel := by
  unfold Obligations.SpeechChannel
  rintro s k v walking rfl hwalking
  obtain rfl : walking = s.cues.WalkSounds s.store k := propext hwalking
  have stays {t : CueGenerator} (h : t = s.cues) : s.onCues (fun _ => t) = s := by rw [h]; rfl
  refine ⟨fun e rest hi hq => ⟨fun h => ?_, fun he hw => ?_⟩, fun h => ?_, fun h => ?_, fun e since n hl hc => ?_, fun hl hc => ?_,
    fun left hc => ?_, fun hc => ?_⟩
  · refine ⟨_, s.cues.nextSerial, exec_speechStart k s, ?_⟩
    rw [show s.onCues (CueGenerator.startTest s.store k) = { s with cues := s.cues.startTest s.store k } from rfl,
      CueGenerator.startTest_starts hi hq h]
    exact ⟨rfl, look_put_self _ _ _, beside_put _ _ _⟩
  · exact congrArg _ (stays (CueGenerator.startTest_waits hq he hw))
  · rcases h with h | h
    · exact congrArg _ (stays (CueGenerator.startTest_busy h))
    · exact congrArg _ (stays (CueGenerator.startTest_empty h))
  · refine ⟨_, exec_playLimit k s, ?_⟩
    rw [show s.onCues (CueGenerator.limitPlayback s.store k) = { s with cues := s.cues.limitPlayback s.store k } from rfl,
      CueGenerator.limitPlayback_lapsed h]
    exact ⟨rfl, look_change_self _ _ _, beside_change _ _ _⟩
  · obtain ⟨w, m, he, -, hgap, hidle⟩ := CueGenerator.endPlayback_playing s.store .timeout hc
    refine ⟨_, exec_playLimit k s, ?_⟩
    rw [show s.onCues (CueGenerator.limitPlayback s.store k) = { s with cues := s.cues.limitPlayback s.store k } from rfl,
      CueGenerator.limitPlayback_due hl, he]
    rw [CornerSpeech.ended_timeout] at hgap hidle
    refine ⟨rfl, beside_put _ _ _, look_change_self _ _ _, beside_change _ _ _, fun h => ?_, fun h => ?_⟩
    · exact (look_put_self _ _ _).trans (hgap h)
    · obtain ⟨h1, h2⟩ := hidle h
      dsimp only
      rw [look_put_self]
      exact ⟨h1, h2⟩
  · exact congrArg _ (stays ((CueGenerator.limitPlayback_due hl).trans (CueGenerator.endPlayback_idle hc)))
  · obtain ⟨w, m, he, h1, h2⟩ := CueGenerator.endGap_gap s.store hc
    refine ⟨_, exec_gapEnd k s, ?_⟩
    rw [show s.onCues (CueGenerator.endGap s.store k) = { s with cues := s.cues.endGap s.store k } from rfl, he]
    dsimp only
    rw [look_put_self]
    exact ⟨rfl, beside_put _ _ _, h1, h2⟩
  · exact congrArg _ (stays (CueGenerator.endGap_idle hc))

end Sys2Proof.Machine

/-! A station's command: what the Cue Generator chooses (R123 to R129, R155), and its slot (R162). -/

namespace Sys2Proof.Machine

/-! ## Sound, level, tactile state and indicator -/

section Choice

variable {s : State} {i : Station}

theorem State.chooseSound_playing {e : SpeechEntry} {since n : Nat}
    (h : (look s.cues.speech (s.store.station i).corner).channel = .playing e since n) (he : e.station = i) :
    s.chooseSound i = .speech e.kind := by
  have hp : (Channel.playing e since n).playingFor i = true := by simp [Channel.playingFor, he]
  unfold State.chooseSound
  dsimp only
  rw [h, hp]

theorem Channel.playingFor_other {x : Channel} (h : ∀ e since n, x = .playing e since n → e.station ≠ i) :
    x.playingFor i = false := by
  cases x with
  | playing e since n => exact beq_eq_false_iff_ne.2 (h e since n rfl)
  | _ => rfl

theorem State.chooseSound_other
    (h : ∀ e since n, (look s.cues.speech (s.store.station i).corner).channel = .playing e since n → e.station ≠ i) :
    s.chooseSound i =
      if look s.cues.gates (s.store.station i).crossing = true then .walkTone
      else if (look s.bus.stations i).speakerFault = true ∨ (look s.bus.stations i).features.speaker = false then .silent
      else if (look s.cues.stations i).covering = true then .waitAck
      else if s.store.mode = .night ∧ (s.store.corner (s.store.station i).corner).nightLocator = false then .silent
      else .locator := by
  have hb : ((look s.bus.stations i).speakerFault || !(look s.bus.stations i).features.speaker) = true ↔
      (look s.bus.stations i).speakerFault = true ∨ (look s.bus.stations i).features.speaker = false := by simp
  unfold State.chooseSound
  dsimp only
  rw [Channel.playingFor_other h]
  split
  · next hf => cases hf
  · exact ite_congr rfl (fun _ => rfl) fun _ => ite_congr (propext hb) (fun _ => rfl) fun _ => rfl

theorem LevelState.commandLevel_output {x : LevelState} {o : Nat} (p : StationProfile) (h : x.output = some o) :
    x.commandLevel p .locator = o ∧ x.commandLevel p .waitAck = o ∧ x.commandLevel p .silent = o ∧
      x.commandLevel p .walkTone = min (o + p.walkBoost) x.maximum ∧
        ∀ kind, x.commandLevel p (.speech kind) = min (o + p.walkBoost) x.maximum := by
  simp [LevelState.commandLevel, LevelState.level, LevelState.walkLevel, h]

/-- BLINK, or ON, by the blink setting and the street mode (R129). -/
theorem litOf_eq (blink : Bool) (m : StreetMode) :
    litOf blink m = if blink = false then .on else if m = .day then .blinkFast else .blinkSlow := by
  cases blink <;> cases m <;> rfl

theorem State.callStands_iff (c : Crossing) :
    s.callStands c = true ↔ HasRecord s.table c CallState.isWaiting ∨ HasRecord s.table c CallState.isGranted ∨
      (look s.table.memos c).isSome = true := by
  simp [State.callStands, waitingSlot_isSome, grantedSlot_isSome, or_assoc]

/-- The indicator of every source but CALL OR WALK: lit where the source is asserted, the other way where inverted (R129). -/
theorem State.chooseIndicator_eq (h : (s.store.station i).indicator ≠ .callOrWalk) :
    s.chooseIndicator i =
      if s.asserted i != (s.store.station i).invert then litOf (s.store.station i).blink s.store.mode else .off := by
  unfold State.chooseIndicator
  dsimp only
  split
  · next hc => exact absurd hc h
  · rfl

theorem State.chooseIndicator_asserted (h : (s.store.station i).indicator ≠ .callOrWalk) (ha : s.asserted i = true) :
    s.chooseIndicator i = if (s.store.station i).invert then .off else litOf (s.store.station i).blink s.store.mode := by
  rw [State.chooseIndicator_eq h, ha]
  cases (s.store.station i).invert <;> rfl

theorem State.chooseIndicator_quiet (h : (s.store.station i).indicator ≠ .callOrWalk) (ha : s.asserted i = false) :
    s.chooseIndicator i = if (s.store.station i).invert then litOf (s.store.station i).blink s.store.mode else .off := by
  rw [State.chooseIndicator_eq h, ha]
  cases (s.store.station i).invert <;> rfl

/-- The indicator of CALL OR WALK (R129). -/
theorem State.chooseIndicator_callOrWalk (h : (s.store.station i).indicator = .callOrWalk) :
    s.chooseIndicator i =
      if (s.table.walkingSlot (s.store.station i).crossing).isSome then
        (if (s.store.station i).invert then .off else litOf (s.store.station i).blink s.store.mode)
      else if s.callStands (s.store.station i).crossing then (if (s.store.station i).invert then .off else .on)
      else if (s.store.station i).invert then litOf (s.store.station i).blink s.store.mode else .off := by
  unfold State.chooseIndicator
  dsimp only
  rw [h]

end Choice

/-- Settles O44: the sound by the channel's playback, the indicator source by source. -/
theorem commandChosen : Obligations.CommandChosen := by
  unfold Obligations.CommandChosen
  rintro s i p v rfl rfl
  refine ⟨fun e since n => State.chooseSound_playing, State.chooseSound_other, fun x o ho => ?_, ?_, ?_⟩
  · obtain ⟨h1, h2, h3, h4, h5⟩ := LevelState.commandLevel_output (s.store.station i) ho
    refine ⟨?_, ?_⟩
    · rintro _ (rfl | rfl | rfl)
      exacts [h1, h2, h3]
    · rintro _ (rfl | ⟨kind, rfl⟩)
      exacts [h4, h5 kind]
  · exact Bool.and_eq_true_iff
  · intro lit hlit
    rw [← litOf_eq] at hlit
    subst hlit
    have named {x : IndicatorSource} (h : (s.store.station i).indicator = x) (hx : x ≠ .callOrWalk) :
        (s.store.station i).indicator ≠ .callOrWalk := h ▸ hx
    refine ⟨fun h => ?_, fun h => ?_, fun h => ?_, fun h => ?_, fun h => ⟨fun hw => ?_, fun hw hm => ?_⟩,
      fun h => ⟨fun hw => ?_, fun hw => ?_⟩, fun h => ⟨fun hw => ?_, fun hw => ⟨fun hc => ?_, fun h1 h2 h3 => ?_⟩⟩⟩
    · exact State.chooseIndicator_quiet (named h (by decide)) (by simp [State.asserted, h])
    · exact State.chooseIndicator_asserted (named h (by decide)) (by simp [State.asserted, h])
    · rw [State.chooseIndicator_eq (named h (by decide))]
      simp [State.asserted, h]
    · rw [State.chooseIndicator_eq (named h (by decide))]
      simp [State.asserted, h]
    · exact State.chooseIndicator_asserted (named h (by decide)) (by simpa [State.asserted, h, waitingSlot_isSome] using hw)
    · refine State.chooseIndicator_quiet (named h (by decide)) ?_
      rw [← waitingSlot_eq_none] at hw
      simp [State.asserted, h, hw, hm]
    · exact State.chooseIndicator_asserted (named h (by decide)) (by simpa [State.asserted, h, servingSlot_isSome] using hw)
    · refine State.chooseIndicator_quiet (named h (by decide)) ?_
      rw [← servingSlot_eq_none] at hw
      simp [State.asserted, h, hw]
    · rw [State.chooseIndicator_callOrWalk h, if_pos (walkingSlot_isSome.2 hw)]
    · rw [State.chooseIndicator_callOrWalk h, if_neg (fun hs => hw (walkingSlot_isSome.1 hs)), if_pos ((s.callStands_iff _).2 hc)]
    · rw [State.chooseIndicator_callOrWalk h, if_neg (fun hs => hw (walkingSlot_isSome.1 hs)), if_neg]
      intro hs
      rcases (s.callStands_iff _).1 hs with hs | hs | hs
      · exact h1 hs
      · exact h2 hs
      · rw [h3] at hs; cases hs

end Sys2Proof.Machine

/-! STATION_SLOT (R162). -/

namespace Sys2Proof.Machine

/-- A transmission with its check byte sums to 0 (R162). -/
theorem byteSum_withCheck (body : List Byte) : byteSum (withCheck body) = 0 := by
  have h : byteSum (withCheck body) = byteSum body + (0 - byteSum body) := by
    simp [byteSum, withCheck, List.foldl_append]
  rw [h]
  bv_omega

section Slot

variable {s : State} {i : Station}

theorem State.playingOf_mine {e : SpeechEntry} {since n : Nat}
    (h : (look s.cues.speech (s.store.station i).corner).channel = .playing e since n) (he : e.station = i) :
    s.playingOf i = some (e.message, n) := by
  unfold State.playingOf
  rw [h]
  exact if_pos he

theorem State.playingOf_other
    (h : ∀ e since n, (look s.cues.speech (s.store.station i).corner).channel = .playing e since n → e.station ≠ i) :
    s.playingOf i = none := by
  unfold State.playingOf
  split
  · rfl
  · next hc => exact if_neg (h _ _ _ hc)
  · rfl

theorem State.beginSlot_none (h : s.bus.frameLength ≤ i.val) : s.beginSlot i = s := if_pos h

theorem State.beginSlot_active (hn : i.val < s.bus.frameLength) (h : s.linkState i = .active) :
    s.beginSlot i =
      { s with
        bus := { s.bus with
          slot := some { station := i, linkAtStart := .active, playback := (s.playingOf i).map Prod.snd, settled := false }
          sent := s.commandBytes i }
        cues := s.cues.sent s.store i (s.chooseSound i) (s.chooseTactile i) (s.chooseIndicator i) } :=
  (if_neg (Nat.not_le.2 hn)).trans (if_pos h)

theorem State.beginSlot_invited (hn : i.val < s.bus.frameLength)
    (h : s.linkState i = .silent ∨ s.linkState i = .absent ∧ (look s.bus.stations i).beyond = false) :
    s.beginSlot i =
      { s with bus := { s.bus with
        slot := some { station := i, linkAtStart := s.linkState i, playback := none, settled := false }
        sent := joinInvite i } } := by
  have ha : ¬ s.linkState i = .active := by
    rcases h with h | ⟨h, -⟩ <;> rw [h] <;> decide
  exact ((if_neg (Nat.not_le.2 hn)).trans (if_neg ha)).trans (if_pos h)

theorem State.beginSlot_passed (hn : i.val < s.bus.frameLength)
    (h : s.linkState i = .disabled ∨ s.linkState i = .absent ∧ (look s.bus.stations i).beyond = true) :
    s.beginSlot i =
      { s with bus := { s.bus with
        slot := some { station := i, linkAtStart := s.linkState i, playback := none, settled := true }, sent := [] } } := by
  have ha : ¬ s.linkState i = .active := by
    rcases h with h | ⟨h, -⟩ <;> rw [h] <;> decide
  have hb : ¬ (s.linkState i = .silent ∨ s.linkState i = .absent ∧ (look s.bus.stations i).beyond = false) := by
    rcases h with h | ⟨h, hb⟩
    · simp [h]
    · simp [h, hb]
  exact ((if_neg (Nat.not_le.2 hn)).trans (if_neg ha)).trans (if_neg hb)

/-- Bytes in a slot that is settled are discarded (log 10). -/
theorem State.receive_settled {x : Slot} (h : s.bus.slot = some x) (hx : x.settled = true) (bytes : List Byte) :
    s.receive bytes = s := by
  unfold State.receive
  rw [h]
  exact if_pos (by rw [hx, Bool.true_or])

end Slot

theorem Sound.spoils_iff (x : Sound) : x.spoils = false ↔ x = .none ∨ x = .locator ∨ x = .silent := by
  cases x <;> simp [Sound.spoils]

/-- The clean flag after a command (R120). -/
theorem Sound.openClean_sent (x : Sound) (y : CornerPhase) :
    (if x.spoils then { y with openClean := false } else y) =
      { y with openClean := y.openClean && decide (x = .none ∨ x = .locator ∨ x = .silent) } := by
  cases h : x.spoils with
  | true => simp [← x.spoils_iff, h]
  | false => simp [← x.spoils_iff, h]

/-- The latest states of a station and the clean flag of its corner as a command leaves them (R120, R123). -/
def CueGenerator.commanded (k : Corner) (i : Station) (sound : Sound) (tactile : Bool) (indicator : Indicator) (g : CueGenerator) :
    CueGenerator :=
  { g with
    stations := change g.stations i fun x => { x with sound := sound, tactile := tactile, indicator := indicator }
    corners := change g.corners k fun x =>
      { x with openClean := x.openClean && decide (sound = .none ∨ sound = .locator ∨ sound = .silent) } }

section Sent

variable (p : ProfileStore) (i : Station) (sound : Sound) (tactile : Bool) (indicator : Indicator) (g : CueGenerator)

theorem CueGenerator.sent_eq :
    g.sent p i sound tactile indicator =
      (g.commanded (p.station i).corner i sound tactile indicator).startTest p (p.station i).corner := by
  unfold CueGenerator.sent
  simp only [Sound.openClean_sent]
  rfl

/-- What a sent command leaves of the corner's speech (R134). -/
theorem CueGenerator.sent_speech :
    ∃ w n, g.sent p i sound tactile indicator =
        { g.commanded (p.station i).corner i sound tactile indicator with
          speech := put g.speech (p.station i).corner w, nextSerial := n } ∧
      ((look g.speech (p.station i).corner).channel ≠ .idle → w = look g.speech (p.station i).corner) ∧
      ((look g.speech (p.station i).corner).channel = .idle →
        StartTested ((g.commanded (p.station i).corner i sound tactile indicator).WalkSounds p (p.station i).corner)
          (look g.speech (p.station i).corner) w) := by
  rw [CueGenerator.sent_eq]
  by_cases hi : (look g.speech (p.station i).corner).channel = .idle
  · obtain ⟨w, n, hw, ht⟩ := CueGenerator.startTest_tested p
      (g := g.commanded (p.station i).corner i sound tactile indicator) hi
    exact ⟨w, n, hw, fun h => absurd hi h, fun _ => ht⟩
  · refine ⟨look g.speech (p.station i).corner, g.nextSerial, ?_, fun _ => rfl, fun h => absurd h hi⟩
    rw [CueGenerator.startTest_busy (g := g.commanded (p.station i).corner i sound tactile indicator) hi, put_look_self]
    rfl

end Sent

/-- The 8 bytes of a command, written out (R194). -/
theorem State.commandBytes_eq (s : State) (i : Station) :
    s.commandBytes i = withCheck
      [byte i.val, byte (s.chooseSound i).code, byte ((s.playingOf i).elim 0 fun x => x.1.val),
        byte ((look s.levels i).commandLevel (s.store.station i) (s.chooseSound i)),
        byte ((if s.chooseTactile i then 128 else 0) + (s.chooseIndicator i).code),
        byte ((s.store.corner (s.store.station i).corner).period / 50),
        byte ((s.store.corner (s.store.station i).corner).offset / 50)] := by
  have ht : bit (s.chooseTactile i) * 128 = if s.chooseTactile i then 128 else 0 := by
    cases s.chooseTactile i <;> rfl
  unfold State.commandBytes
  rw [ht]
  cases s.playingOf i <;> rfl

/-- Settles O43: by the branches of a slot's start. -/
theorem stationSlot : Obligations.StationSlot := by
  unfold Obligations.StationSlot
  refine fun s i => ⟨fun h => congrArg _ (State.beginSlot_none h), fun hn => ⟨fun h => ?_, fun h => ?_, fun h => ?_⟩⟩
  · obtain ⟨w, n, hw, hbusy, hidle⟩ := s.cues.sent_speech s.store i (s.chooseSound i) (s.chooseTactile i) (s.chooseIndicator i)
    have he := (exec_stationSlot i s).trans (congrArg _ (State.beginSlot_active hn h))
    rw [hw] at he
    refine ⟨_, (s.playingOf i).map Prod.snd, _, he, rfl, rfl, fun e since m hc hm => ?_, fun hc => ?_,
      ⟨(s.playingOf i).elim 0 fun x => x.1.val, s.commandBytes_eq i, fun e since m hc hm => ?_, fun hc => ?_⟩, ?_,
      look_change_self _ _ _, beside_change _ _ _, look_change_self _ _ _, beside_change _ _ _, beside_put _ _ _, fun hc => ?_,
      fun walking hwalking hc => ?_⟩
    · rw [State.playingOf_mine hc hm]; rfl
    · rw [State.playingOf_other hc]; rfl
    · rw [State.playingOf_mine hc hm]; rfl
    · rw [State.playingOf_other hc]; rfl
    · exact (congrArg byteSum (s.commandBytes_eq i)).trans (byteSum_withCheck _)
    · exact (look_put_self _ _ _).trans (hbusy hc)
    · obtain rfl := propext hwalking
      exact (look_put_self s.cues.speech (s.store.station i).corner w).symm ▸ hidle hc
  · exact ⟨_, _, (exec_stationSlot i s).trans (congrArg _ (State.beginSlot_invited hn h)), rfl, rfl, byteSum_withCheck _⟩
  · exact ⟨_, (exec_stationSlot i s).trans (congrArg _ (State.beginSlot_passed hn h)), rfl, fun x bytes _ =>
      congrArg _ (State.receive_settled rfl rfl bytes)⟩

end Sys2Proof.Machine

/-! Requests to a speech queue (R132, R133, R137). -/

namespace Sys2Proof.Machine

/-! ## Queues -/

section Queue

variable {e : SpeechEntry} {walks infos : List SpeechEntry}

theorem takeWhile_walks (hw : ∀ x ∈ walks, x.kind = .walk) (hi : ∀ x ∈ infos, x.kind = .info) :
    (walks ++ infos).takeWhile (fun x => x.kind == .walk) = walks := by
  rw [List.takeWhile_append_of_pos fun x hx => by simp [hw x hx]]
  cases infos with
  | nil => simp
  | cons y l => simp [hi y List.mem_cons_self]

theorem dropWhile_walks (hw : ∀ x ∈ walks, x.kind = .walk) (hi : ∀ x ∈ infos, x.kind = .info) :
    (walks ++ infos).dropWhile (fun x => x.kind == .walk) = infos := by
  rw [List.dropWhile_append_of_pos fun x hx => by simp [hw x hx]]
  cases infos with
  | nil => simp
  | cons y l => simp [hi y List.mem_cons_self]

theorem insertWalk_eq (hw : ∀ x ∈ walks, x.kind = .walk) (hi : ∀ x ∈ infos, x.kind = .info) :
    insertWalk e (walks ++ infos) = walks ++ e :: infos := by
  rw [insertWalk, takeWhile_walks hw hi, dropWhile_walks hw hi]

theorem youngestInfo_last {q : List SpeechEntry} {y : SpeechEntry} (hy : y.kind = .info) : youngestInfo (q ++ [y]) = some y := by
  simp [youngestInfo, hy]

theorem youngestInfo_walks (hw : ∀ x ∈ walks, x.kind = .walk) : youngestInfo walks = none := by
  unfold youngestInfo
  split
  · next x hx =>
    rw [if_neg]
    rw [hw x (List.mem_of_getLast? hx)]
    decide
  · rfl

theorem queueHas_iff {i : Station} {kind : SpeechKind} {q : List SpeechEntry} :
    queueHas i kind q = true ↔ ∃ x ∈ q, x.station = i ∧ x.kind = kind := by
  simp [queueHas]

theorem queueHas_walks {i : Station} (hw : ∀ x ∈ walks, x.kind = .walk) (hi : ∀ x ∈ infos, x.kind = .info) :
    queueHas i .walk (walks ++ infos) = true ↔ ∃ x ∈ walks, x.station = i := by
  rw [queueHas_iff]
  constructor
  · rintro ⟨x, hx, hs, hk⟩
    rcases List.mem_append.1 hx with hx | hx
    · exact ⟨x, hx, hs⟩
    · rw [hi x hx] at hk; cases hk
  · rintro ⟨x, hx, hs⟩
    exact ⟨x, List.mem_append_left _ hx, hs, hw x hx⟩

end Queue

/-! ## What stays beside a corner -/

/-- From g to t, at the Cue Generator, only the speech of corner k, results, and the serial numbers change. -/
def SpeechAt (k : Corner) (g t : CueGenerator) : Prop :=
  t = { g with stations := t.stations, speech := t.speech, nextSerial := t.nextSerial } ∧ Beside g.speech t.speech k

theorem SpeechAt.refl (k : Corner) (g : CueGenerator) : SpeechAt k g g := ⟨rfl, Beside.refl _ _⟩

theorem SpeechAt.trans {k : Corner} {g h t : CueGenerator} (a : SpeechAt k g h) (b : SpeechAt k h t) : SpeechAt k g t := by
  refine ⟨?_, a.2.trans b.2⟩
  rw [b.1, a.1]

section Corner

variable (p : ProfileStore) (k : Corner) (g : CueGenerator)

theorem SpeechAt.result (i : Station) (r : SpeechResult) : SpeechAt k g (g.result i r) := ⟨rfl, Beside.refl _ _⟩

theorem SpeechAt.setQueue (q : List SpeechEntry) : SpeechAt k g (g.setQueue k q) := ⟨rfl, beside_change _ _ _⟩

theorem SpeechAt.startTest : SpeechAt k g (g.startTest p k) := by
  obtain ⟨w, n, h⟩ := CueGenerator.startTest_at p k g
  rw [h]
  exact ⟨rfl, beside_put _ _ _⟩

theorem SpeechAt.endPlayback (r : SpeechResult) : SpeechAt k g (g.endPlayback p k r) := by
  by_cases h : ∃ e since n, (look g.speech k).channel = .playing e since n
  · obtain ⟨e, since, n, h⟩ := h
    obtain ⟨w, m, he, -⟩ := CueGenerator.endPlayback_playing p r h
    rw [he]
    exact ⟨rfl, beside_put _ _ _⟩
  · rw [CueGenerator.endPlayback_idle fun e since n hc => h ⟨e, since, n, hc⟩]
    exact SpeechAt.refl k g

theorem SpeechAt.afterWalk : SpeechAt k g (g.afterWalk p k) := by
  unfold CueGenerator.afterWalk
  split
  · exact SpeechAt.startTest p k g
  · split
    · exact (SpeechAt.endPlayback p k g _).trans (SpeechAt.startTest p k _)
    · exact SpeechAt.startTest p k g
  · exact SpeechAt.startTest p k g

theorem SpeechAt.enqueueWalk (e : SpeechEntry) : SpeechAt k g (g.enqueueWalk p k e) := by
  unfold CueGenerator.enqueueWalk
  dsimp only
  split
  · exact SpeechAt.refl k g
  · split
    · exact (SpeechAt.setQueue k g _).trans (SpeechAt.afterWalk p k _)
    · split
      · exact ((SpeechAt.result k g _ _).trans (SpeechAt.setQueue k _ _)).trans (SpeechAt.afterWalk p k _)
      · exact SpeechAt.result k g _ _

end Corner

/-! ## A WALK entry put into a queue (R133, R137) -/

section After

variable {p : ProfileStore} {k : Corner} {g : CueGenerator} {d : SpeechEntry} {rest : List SpeechEntry}

theorem CueGenerator.afterWalk_gap {left : Nat} (h : (look g.speech k).channel = .gap left) : g.afterWalk p k = g := by
  unfold CueGenerator.afterWalk
  rw [h]
  exact CueGenerator.startTest_busy (by rw [h]; exact fun hc => nomatch hc)

theorem CueGenerator.afterWalk_walk {y : SpeechEntry} {since n : Nat} (h : (look g.speech k).channel = .playing y since n)
    (hy : y.kind = .walk) : g.afterWalk p k = g := by
  unfold CueGenerator.afterWalk
  rw [h]
  dsimp only
  rw [hy]
  exact CueGenerator.startTest_busy (by rw [h]; exact fun hc => nomatch hc)

/-- On an IDLE channel the WALK head starts. -/
theorem CueGenerator.afterWalk_idle (h : (look g.speech k).channel = .idle) (hq : (look g.speech k).queue = d :: rest)
    (hd : d.kind = .walk) :
    g.afterWalk p k =
      { g with speech := put g.speech k { look g.speech k with channel := .playing d 0 g.nextSerial, queue := rest },
               nextSerial := g.nextSerial + 1 } := by
  unfold CueGenerator.afterWalk
  rw [h]
  exact CueGenerator.startTest_starts h hq (.inl hd)

/-- An INFO playback is cut; the gap follows, or, with a gap of 0, the head's start. -/
theorem CueGenerator.afterWalk_info {y : SpeechEntry} {since n : Nat} (h : (look g.speech k).channel = .playing y since n)
    (hy : y.kind = .info) (hq : (look g.speech k).queue = d :: rest) (hd : d.kind = .walk) :
    ∃ w m, g.afterWalk p k =
        { g with stations := change g.stations y.station fun x => { x with result := .cut }, speech := put g.speech k w,
                 nextSerial := m } ∧
      (0 < (p.corner k).gap →
        w = { (look g.speech k).ended since .cut with channel := .gap (p.corner k).gap } ∧ m = g.nextSerial) ∧
      ((p.corner k).gap = 0 → ∃ m', w = { (look g.speech k).ended since .cut with channel := .playing d 0 m', queue := rest }) := by
  have hafter : g.afterWalk p k = (g.endPlayback p k .cut).startTest p k := by
    unfold CueGenerator.afterWalk
    rw [h]
    dsimp only
    rw [hy]
  obtain ⟨w, m, he, hm, hgap, hnone⟩ := CueGenerator.endPlayback_playing p .cut h
  have hw : look (g.endPlayback p k .cut).speech k = w := by rw [he]; exact look_put_self _ _ _
  have started (h0 : (p.corner k).gap = 0) :
      ∃ m', w = { (look g.speech k).ended since .cut with channel := .playing d 0 m', queue := rest } :=
    ((hnone h0).2 d rest hq).1 (.inl hd)
  have busy : (look (g.endPlayback p k .cut).speech k).channel ≠ .idle := by
    rw [hw]
    rcases Nat.eq_zero_or_pos (p.corner k).gap with h0 | h0
    · obtain ⟨m', hs⟩ := started h0
      rw [hs]; exact fun hc => nomatch hc
    · rw [hgap h0]; exact fun hc => nomatch hc
  exact ⟨w, m, (hafter.trans (CueGenerator.startTest_busy busy)).trans he, fun h0 => ⟨hgap h0, hm h0⟩, started⟩

end After

/-- The entry that gives way to a WALK entry, if one does, is DROPPED (R133). -/
def CueGenerator.giveWay (gone : Option SpeechEntry) (g : CueGenerator) : CueGenerator :=
  match gone with
  | some y => g.result y.station .dropped
  | none => g

section GiveWay

variable (gone : Option SpeechEntry) (g : CueGenerator)

theorem CueGenerator.giveWay_frame : g.giveWay gone = { g with stations := (g.giveWay gone).stations } := by
  cases gone <;> rfl

theorem CueGenerator.giveWay_look (i : Station) :
    look (g.giveWay gone).stations i = { look g.stations i with result := (look (g.giveWay gone).stations i).result } := by
  cases gone with
  | none => rfl
  | some y =>
    simp only [CueGenerator.giveWay, CueGenerator.result, CueGenerator.onStation_stations, look_change]
    split <;> rfl

theorem CueGenerator.giveWay_gone {y : SpeechEntry} : (look (g.giveWay (some y)).stations y.station).result = .dropped := by
  simp [CueGenerator.giveWay, CueGenerator.result]

theorem CueGenerator.giveWay_stays {i : Station} (h : ∀ y, gone = some y → y.station ≠ i) :
    look (g.giveWay gone).stations i = look g.stations i := by
  cases gone with
  | none => rfl
  | some y => exact look_change_ne _ (h y rfl).symm _

end GiveWay

/-! ## The two requests (R132, R133) -/

section Requests

variable {p : ProfileStore} {k : Corner} {g : CueGenerator} {e : SpeechEntry} {walks infos : List SpeechEntry}

theorem CueGenerator.enqueueWalk_there (h : queueHas e.station .walk (look g.speech k).queue = true) : g.enqueueWalk p k e = g :=
  if_pos h

theorem CueGenerator.enqueueWalk_room (h : ¬ queueHas e.station .walk (look g.speech k).queue = true)
    (room : (look g.speech k).queue.length < 4) :
    g.enqueueWalk p k e = (g.setQueue k (insertWalk e (look g.speech k).queue)).afterWalk p k :=
  (if_neg h).trans (if_pos room)

theorem CueGenerator.enqueueWalk_gives {y : SpeechEntry} (h : ¬ queueHas e.station .walk (look g.speech k).queue = true)
    (full : ¬ (look g.speech k).queue.length < 4) (hy : youngestInfo (look g.speech k).queue = some y) :
    g.enqueueWalk p k e =
      ((g.result y.station .dropped).setQueue k (insertWalk e (look g.speech k).queue.dropLast)).afterWalk p k := by
  refine (if_neg h).trans ((if_neg full).trans ?_)
  rw [hy]

theorem CueGenerator.enqueueWalk_full (h : ¬ queueHas e.station .walk (look g.speech k).queue = true)
    (full : ¬ (look g.speech k).queue.length < 4) (hy : youngestInfo (look g.speech k).queue = none) :
    g.enqueueWalk p k e = g.result e.station .dropped := by
  refine (if_neg h).trans ((if_neg full).trans ?_)
  rw [hy]

/-- How the queue that a WALK entry joins makes room: q is the queue after, `gone` the INFO entry that gives way (R133). -/
def WalkPlaced (e : SpeechEntry) (walks infos q : List SpeechEntry) (gone : Option SpeechEntry) : Prop :=
  walks.length + infos.length ≤ 3 ∧ q = walks ++ e :: infos ∧ gone = none ∨
    ∃ kept y, walks.length + infos.length = 4 ∧ infos = kept ++ [y] ∧ q = walks ++ e :: kept ∧ gone = some y

/-- A WALK request that joins its queue is put in its place, and what follows an insertion is taken. -/
theorem CueGenerator.enqueueWalk_placed {q : List SpeechEntry} {gone : Option SpeechEntry}
    (hq : (look g.speech k).queue = walks ++ infos) (hw : ∀ x ∈ walks, x.kind = .walk) (hi : ∀ x ∈ infos, x.kind = .info)
    (new : ∀ x ∈ walks, x.station ≠ e.station) (placed : WalkPlaced e walks infos q gone) :
    g.enqueueWalk p k e = ((g.giveWay gone).setQueue k q).afterWalk p k := by
  have absent : ¬ queueHas e.station .walk (look g.speech k).queue = true := by
    rw [hq, queueHas_walks hw hi]
    rintro ⟨x, hx, hs⟩
    exact new x hx hs
  rcases placed with ⟨hl, rfl, rfl⟩ | ⟨kept, y, hl, rfl, rfl, rfl⟩
  · rw [CueGenerator.enqueueWalk_room absent (by rw [hq, List.length_append]; omega), hq, insertWalk_eq hw hi]
    rfl
  · have hk : ∀ x ∈ kept, x.kind = .info := fun x hx => hi x (List.mem_append_left _ hx)
    have hy : youngestInfo (look g.speech k).queue = some y := by
      rw [hq, ← List.append_assoc]
      exact youngestInfo_last (hi y (List.mem_append_right _ List.mem_cons_self))
    have hdrop : (look g.speech k).queue.dropLast = walks ++ kept := by
      rw [hq, ← List.append_assoc, List.dropLast_concat]
    rw [CueGenerator.enqueueWalk_gives absent (by rw [hq, List.length_append]; omega) hy, hdrop, insertWalk_eq hw hk]
    rfl

/-- The queue that a WALK entry has joined is headed by a WALK entry. -/
theorem WalkPlaced.head {q : List SpeechEntry} {gone : Option SpeechEntry} (placed : WalkPlaced e walks infos q gone) (he : e.kind = .walk)
    (hw : ∀ x ∈ walks, x.kind = .walk) : ∃ d rest, q = d :: rest ∧ d.kind = .walk := by
  obtain ⟨l, rfl⟩ : ∃ l, q = walks ++ e :: l := by
    rcases placed with ⟨-, h, -⟩ | ⟨kept, -, -, -, h, -⟩
    exacts [⟨_, h⟩, ⟨_, h⟩]
  cases walks with
  | nil => exact ⟨e, l, rfl, he⟩
  | cons x ws => exact ⟨x, ws ++ e :: l, rfl, hw x List.mem_cons_self⟩

/-- An INFO request is there: in the queue, or playing (R132). -/
def InfoThere (k : Corner) (e : SpeechEntry) (g : CueGenerator) : Prop :=
  (∃ x ∈ (look g.speech k).queue, x.station = e.station ∧ x.kind = .info) ∨
    ∃ y since n, (look g.speech k).channel = .playing y since n ∧ y.station = e.station ∧ y.kind = .info

theorem CueGenerator.enqueueInfo_there (h : InfoThere k e g) : g.enqueueInfo p k e = g := by
  refine if_pos ?_
  rw [Bool.or_eq_true, queueHas_iff]
  refine h.imp id ?_
  rintro ⟨y, since, n, hc, hs, hk⟩
  rw [hc]
  simp [hs, hk]

theorem CueGenerator.enqueueInfo_new (h : ¬ InfoThere k e g) :
    g.enqueueInfo p k e =
      if (look g.speech k).queue.length < 4 then (g.setQueue k ((look g.speech k).queue ++ [e])).startTest p k
      else g.result e.station .dropped := by
  refine if_neg fun hb => h ?_
  rw [Bool.or_eq_true, queueHas_iff] at hb
  refine hb.imp id fun hb => ?_
  split at hb
  · cases hb
  · next y since n hc => exact ⟨y, since, n, hc, by simpa using hb⟩
  · cases hb

end Requests

/-! ## What a placed WALK entry leaves -/

section Placed

variable {p : ProfileStore} {k : Corner} {d : SpeechEntry} {rest : List SpeechEntry} (q : List SpeechEntry)
  (gone : Option SpeechEntry) (g : CueGenerator)

/-- The queue put in place, with the entry that gave way. -/
def CueGenerator.placed (k : Corner) : CueGenerator := (g.giveWay gone).setQueue k q

theorem CueGenerator.placed_eq :
    g.placed q gone k = { g with stations := (g.giveWay gone).stations, speech := put g.speech k { look g.speech k with queue := q } } := by
  cases gone <;> rfl

theorem CueGenerator.placed_speech : look (g.placed q gone k).speech k = { look g.speech k with queue := q } := by
  rw [CueGenerator.placed_eq]
  exact look_put_self _ _ _

theorem CueGenerator.placed_after_stations (hq : q = d :: rest) (hd : d.kind = .walk) :
    (∀ y since n, (look g.speech k).channel = .playing y since n → y.kind = .info →
      ((g.placed q gone k).afterWalk p k).stations =
        change (g.giveWay gone).stations y.station fun x => { x with result := .cut }) ∧
    ((∀ y since n, (look g.speech k).channel = .playing y since n → y.kind = .walk) →
      ((g.placed q gone k).afterWalk p k).stations = (g.giveWay gone).stations) := by
  have hv := g.placed_speech q gone (k := k)
  have hc : (look (g.placed q gone k).speech k).channel = (look g.speech k).channel := by rw [hv]
  have hst : (g.placed q gone k).stations = (g.giveWay gone).stations := by rw [CueGenerator.placed_eq]
  refine ⟨fun y since n h hy => ?_, fun h => ?_⟩
  · obtain ⟨w, m, ha, -⟩ := CueGenerator.afterWalk_info (p := p) (hc.trans h) hy (by rw [hv]; exact hq) hd
    rw [ha, ← hst]
  · cases hch : (look g.speech k).channel with
    | idle => rw [CueGenerator.afterWalk_idle (hc.trans hch) (by rw [hv]; exact hq) hd]; exact hst
    | playing y since n => rw [CueGenerator.afterWalk_walk (hc.trans hch) (h y since n hch)]; exact hst
    | gap left => rw [CueGenerator.afterWalk_gap (hc.trans hch)]; exact hst

/-- What every station's latest speech result is after a placed WALK entry (R133, R137). -/
theorem CueGenerator.placed_results (hq : q = d :: rest) (hd : d.kind = .walk) (i : Station) :
    look ((g.placed q gone k).afterWalk p k).stations i =
        { look g.stations i with result := (look ((g.placed q gone k).afterWalk p k).stations i).result } ∧
      ((∃ y since n, (look g.speech k).channel = .playing y since n ∧ y.kind = .info ∧ y.station = i) →
        (look ((g.placed q gone k).afterWalk p k).stations i).result = .cut) ∧
      ((∀ y since n, (look g.speech k).channel = .playing y since n → y.kind = .info → y.station ≠ i) →
        ((∃ y, gone = some y ∧ y.station = i) → (look ((g.placed q gone k).afterWalk p k).stations i).result = .dropped) ∧
        ((∀ y, gone = some y → y.station ≠ i) →
          (look ((g.placed q gone k).afterWalk p k).stations i).result = (look g.stations i).result)) := by
  obtain ⟨hinfo, helse⟩ := CueGenerator.placed_after_stations q gone g (p := p) (k := k) hq hd
  by_cases hc : ∃ y since n, (look g.speech k).channel = .playing y since n ∧ y.kind = .info ∧ y.station = i
  · obtain ⟨y, since, n, hc, hy, rfl⟩ := hc
    rw [hinfo y since n hc hy, look_change_self]
    refine ⟨?_, fun _ => rfl, fun hn => absurd rfl (hn y since n hc hy)⟩
    rw [g.giveWay_look gone]
  · have hl : look ((g.placed q gone k).afterWalk p k).stations i = look (g.giveWay gone).stations i := by
      by_cases hp : ∃ y since n, (look g.speech k).channel = .playing y since n ∧ y.kind = .info
      · obtain ⟨y, since, n, hp, hy⟩ := hp
        rw [hinfo y since n hp hy]
        exact look_change_ne _ (fun hs => hc ⟨y, since, n, hp, hy, hs.symm⟩) _
      · rw [helse fun y since n h => y.kind_cases.resolve_right fun hi => hp ⟨y, since, n, h, hi⟩]
    rw [hl]
    refine ⟨g.giveWay_look gone i, fun h => absurd h hc, fun _ => ⟨?_, fun h => by rw [g.giveWay_stays gone h]⟩⟩
    rintro ⟨y, rfl, rfl⟩
    exact g.giveWay_gone

end Placed

/-- Settles O53: a WALK request by its place in the queue and the channel it finds, an INFO request by the start test. -/
theorem speechRequests : Obligations.SpeechRequests := by
  unfold Obligations.SpeechRequests
  refine ⟨?_, ?_⟩
  · rintro p k g t e walks infos he rfl hq hw hi
    obtain ⟨hframe, hbeside⟩ := SpeechAt.enqueueWalk p k g e
    refine ⟨by rw [hframe], by rw [hframe], hbeside, fun there => ?_, fun new hl hnil => ?_, ?_⟩
    · exact CueGenerator.enqueueWalk_there (by rw [hq]; exact (queueHas_walks hw hi).2 there)
    · subst hnil
      rw [List.append_nil] at hq
      have absent : ¬ queueHas e.station .walk (look g.speech k).queue = true := by
        rw [hq, ← List.append_nil walks, queueHas_walks hw hi]
        rintro ⟨x, hx, hs⟩
        exact new x hx hs
      rw [CueGenerator.enqueueWalk_full absent (by rw [hq, hl]; decide) (by rw [hq]; exact youngestInfo_walks hw)]
      exact ⟨rfl, beside_change _ _ _, look_change_self _ _ _⟩
    · rintro q gone v rfl new placed
      obtain ⟨d, rest, hqd, hd⟩ := WalkPlaced.head placed he hw
      have ht : g.enqueueWalk p k e = (g.placed q gone k).afterWalk p k := CueGenerator.enqueueWalk_placed hq hw hi new placed
      have hv := g.placed_speech q gone (k := k)
      have hc : (look (g.placed q gone k).speech k).channel = (look g.speech k).channel := by rw [hv]
      have hserial : (g.placed q gone k).nextSerial = g.nextSerial := by rw [CueGenerator.placed_eq]
      have hplacedq : (look (g.placed q gone k).speech k).queue = d :: rest := by rw [hv]; exact hqd
      refine ⟨hframe, fun left h => ?_, fun y since n h hy => ?_, fun h d' rest' hd' => ?_, ?_, ?_⟩
      · rw [ht, CueGenerator.afterWalk_gap (hc.trans h)]
        exact ⟨hv, hserial⟩
      · rw [ht, CueGenerator.afterWalk_walk (hc.trans h) hy]
        exact ⟨hv, hserial⟩
      · obtain ⟨rfl, rfl⟩ := List.cons.inj (hqd.symm.trans hd')
        refine ⟨(g.placed q gone k).nextSerial, ?_⟩
        rw [ht, CueGenerator.afterWalk_idle (hc.trans h) hplacedq hd, hv]
        exact look_put_self _ _ _
      · rintro y since n w h hy rfl
        obtain ⟨x, m, ha, hgap, hnone⟩ := CueGenerator.afterWalk_info (p := p) (hc.trans h) hy hplacedq hd
        rw [hv, hserial] at hgap
        rw [hv] at hnone
        have hx : look (g.enqueueWalk p k e).speech k = x := by
          rw [ht, ha]
          exact look_put_self _ _ _
        have hm : (g.enqueueWalk p k e).nextSerial = m := by
          rw [ht, ha]
        rw [hx, hm]
        simp only [CornerSpeech.ended] at hgap hnone
        simp only [show (SpeechResult.cut != SpeechResult.timeout) = true from rfl, Bool.and_true] at hgap hnone
        refine ⟨hgap, fun h0 d' rest' hd' => ?_⟩
        obtain ⟨rfl, rfl⟩ := List.cons.inj (hqd.symm.trans hd')
        exact hnone h0
      · intro i
        rw [ht]
        exact CueGenerator.placed_results q gone g hqd hd i
  · rintro p k g t e q walking there he rfl rfl hwalking hthere
    obtain rfl : walking = g.WalkSounds p k := propext hwalking
    obtain rfl : there = InfoThere k e g := propext hthere
    refine ⟨CueGenerator.enqueueInfo_there, fun new full => ?_, fun new room => ?_⟩
    · rw [CueGenerator.enqueueInfo_new new, if_neg (Nat.not_lt.2 full)]
      exact ⟨rfl, beside_change _ _ _, look_change_self _ _ _⟩
    · rw [CueGenerator.enqueueInfo_new new, if_pos room]
      have hv : look (g.setQueue k ((look g.speech k).queue ++ [e])).speech k =
          { look g.speech k with queue := (look g.speech k).queue ++ [e] } := look_change_self _ _ _
      refine ⟨?_, ?_, fun hb => ?_, fun hi y rest hq => ⟨fun h => ?_, fun hy h => ?_⟩⟩
      · obtain ⟨w, n, hs⟩ := CueGenerator.startTest_at p k (g.setQueue k ((look g.speech k).queue ++ [e]))
        rw [hs]
        rfl
      · exact ((SpeechAt.setQueue k g _).trans (SpeechAt.startTest p k _)).2
      · rw [CueGenerator.startTest_busy (by rw [hv]; exact hb), hv]
      · refine ⟨g.nextSerial, ?_⟩
        rw [CueGenerator.startTest_starts (g := g.setQueue k _) (by rw [hv]; exact hi) (by rw [hv]; exact hq) h, hv]
        exact look_put_self _ _ _
      · rw [CueGenerator.startTest_waits (g := g.setQueue k _) (by rw [hv]; exact hq) hy h, hv]

end Sys2Proof.Machine

/-! Entries and playbacks of many stations removed together, and the cue gates (R121, R131, R138, R139). -/

namespace Sys2Proof.Machine

/-! ## One station's entries and playback -/

section One

variable {p : ProfileStore} {k : Corner} {i : Station} {out : SpeechEntry → Bool} {g : CueGenerator}

/-- The queue of a corner without a station's entries, whether it held any or not. -/
theorem CueGenerator.dropEntries_look (k : Corner) (i : Station) (out : SpeechEntry → Bool) (g : CueGenerator) (j : Corner) :
    look (g.dropEntries k i out).speech j =
      { look g.speech j with queue := (look g.speech j).queue.filter fun e => !(decide (j = k) && (e.station == i && out e)) } := by
  unfold CueGenerator.dropEntries
  dsimp only
  by_cases hj : j = k
  · subst hj
    simp only [decide_true, Bool.true_and]
    split
    · simp [CueGenerator.setQueue]
    · next h =>
      rw [List.filter_eq_self.2]
      intro e he
      cases hb : (e.station == i && out e) with
      | false => rfl
      | true => exact absurd (List.any_eq_true.2 ⟨e, he, hb⟩) h
  · have hf : (look g.speech j).queue.filter (fun e => !(decide (j = k) && (e.station == i && out e))) = (look g.speech j).queue :=
      List.filter_eq_self.2 fun e _ => by simp [hj]
    rw [hf]
    split
    · exact look_change_ne _ hj _
    · rfl

theorem CueGenerator.dropEntries_frame :
    g.dropEntries k i out = { g with stations := (g.dropEntries k i out).stations, speech := (g.dropEntries k i out).speech } := by
  unfold CueGenerator.dropEntries
  dsimp only
  split <;> rfl

theorem CueGenerator.dropEntries_some (h : ∃ e ∈ (look g.speech k).queue, e.station = i ∧ out e = true) :
    (g.dropEntries k i out).stations = change g.stations i fun x => { x with result := .dropped } := by
  obtain ⟨e, he, hs, ho⟩ := h
  unfold CueGenerator.dropEntries
  exact congrArg CueGenerator.stations (if_pos (List.any_eq_true.2 ⟨e, he, by simp [hs, ho]⟩))

theorem CueGenerator.dropEntries_none (h : ∀ e ∈ (look g.speech k).queue, e.station = i → out e = false) :
    g.dropEntries k i out = g := by
  refine if_neg ?_
  rw [List.any_eq_true]
  rintro ⟨e, he, hb⟩
  rw [Bool.and_eq_true, beq_iff_eq] at hb
  rw [h e he hb.1] at hb
  exact Bool.false_ne_true hb.2

theorem CueGenerator.cutEntry_cut {e : SpeechEntry} {since n : Nat} (h : (look g.speech k).channel = .playing e since n)
    (hs : e.station = i) (ho : out e = true) : g.cutEntry p k i out = g.endPlayback p k .cut := by
  unfold CueGenerator.cutEntry
  rw [h]
  exact if_pos ⟨hs, ho⟩

theorem CueGenerator.cutEntry_stays
    (h : ∀ e since n, (look g.speech k).channel = .playing e since n → e.station = i → out e = false) : g.cutEntry p k i out = g := by
  unfold CueGenerator.cutEntry
  split
  · rfl
  · next e since n hc =>
    refine if_neg ?_
    rintro ⟨hs, ho⟩
    rw [h e since n hc hs] at ho
    exact Bool.false_ne_true ho
  · rfl

end One

/-! ## Many stations -/

/-- An entry at corner k is one of the stations l, whose corner that is, and satisfies `out`. -/
def Marked (p : ProfileStore) (l : List Station) (out : SpeechEntry → Bool) (k : Corner) (e : SpeechEntry) : Prop :=
  e.station ∈ l ∧ (p.station e.station).corner = k ∧ out e = true

/-- The marked entries of every queue are removed, as DROPPED (R138, R139). -/
def CueGenerator.dropAll (p : ProfileStore) (out : SpeechEntry → Bool) (l : List Station) (g : CueGenerator) : CueGenerator :=
  l.foldl (fun g i => g.dropEntries (p.station i).corner i out) g

/-- The marked playbacks are cut (R138, R139). -/
def CueGenerator.cutAll (p : ProfileStore) (out : SpeechEntry → Bool) (l : List Station) (g : CueGenerator) : CueGenerator :=
  l.foldl (fun g i => g.cutEntry p (p.station i).corner i out) g

section Drop

variable (p : ProfileStore) (out : SpeechEntry → Bool)

theorem CueGenerator.dropAll_cons (a : Station) (l : List Station) (g : CueGenerator) :
    g.dropAll p out (a :: l) = (g.dropEntries (p.station a).corner a out).dropAll p out l := rfl

theorem CueGenerator.dropAll_frame (l : List Station) (g : CueGenerator) :
    g.dropAll p out l = { g with stations := (g.dropAll p out l).stations, speech := (g.dropAll p out l).speech } := by
  induction l generalizing g with
  | nil => rfl
  | cons a l ih =>
    unfold CueGenerator.dropAll at ih ⊢
    rw [List.foldl_cons, ih, CueGenerator.dropEntries_frame]

/-- Only the queues change in the speech, and they lose exactly the marked entries. -/
theorem CueGenerator.dropAll_speech (l : List Station) (g : CueGenerator) (k : Corner) :
    ∃ left, look (g.dropAll p out l).speech k = { look g.speech k with queue := left } ∧
      left = (look g.speech k).queue.filter fun e => !(decide (e.station ∈ l ∧ (p.station e.station).corner = k) && out e) := by
  induction l generalizing g with
  | nil => exact ⟨(look g.speech k).queue, rfl, by simp⟩
  | cons a l ih =>
    obtain ⟨left, hl, rfl⟩ := ih (g.dropEntries (p.station a).corner a out)
    refine ⟨_, (show look (g.dropAll p out (a :: l)).speech k = _ from hl).trans ?_, rfl⟩
    rw [CueGenerator.dropEntries_look]
    dsimp only
    rw [List.filter_filter]
    congr 1
    refine List.filter_congr fun e _ => ?_
    by_cases ha : e.station = a
    · subst ha
      by_cases hk : (p.station e.station).corner = k
      · cases out e <;> simp [hk]
      · simp [hk, Ne.symm hk]
    · simp [ha]

/-- What every station's latest result is after the removals. -/
theorem CueGenerator.dropAll_results (l : List Station) (g : CueGenerator) (i : Station) :
    ((∃ e ∈ (look g.speech (p.station i).corner).queue, e.station = i ∧ i ∈ l ∧ out e = true) →
      look (g.dropAll p out l).stations i = { look g.stations i with result := .dropped }) ∧
    ((∀ e ∈ (look g.speech (p.station i).corner).queue, e.station = i → i ∈ l → out e = false) →
      look (g.dropAll p out l).stations i = look g.stations i) := by
  induction l generalizing g with
  | nil =>
    refine ⟨?_, fun _ => rfl⟩
    rintro ⟨e, -, -, h, -⟩
    cases h
  | cons a l ih =>
    obtain ⟨ih1, ih2⟩ := ih (g.dropEntries (p.station a).corner a out)
    have hq (e : SpeechEntry) : e ∈ (look (g.dropEntries (p.station a).corner a out).speech (p.station i).corner).queue ↔
        e ∈ (look g.speech (p.station i).corner).queue ∧
          ¬ ((p.station i).corner = (p.station a).corner ∧ e.station = a ∧ out e = true) := by
      rw [CueGenerator.dropEntries_look]
      simp only [List.mem_filter]
      grind
    rw [CueGenerator.dropAll_cons]
    by_cases hi : i = a
    · subst hi
      have gone : look ((g.dropEntries (p.station i).corner i out).dropAll p out l).stations i =
          look (g.dropEntries (p.station i).corner i out).stations i := by
        refine ih2 fun e he hs _ => ?_
        have := ((hq e).1 he).2
        cases ho : out e with
        | false => rfl
        | true => exact absurd ⟨rfl, hs, ho⟩ this
      rw [gone]
      refine ⟨fun ⟨e, he, hs, _, ho⟩ => ?_, fun h => ?_⟩
      · rw [CueGenerator.dropEntries_some ⟨e, he, hs, ho⟩, look_change_self]
      · rw [CueGenerator.dropEntries_none fun e he hs => h e he hs List.mem_cons_self]
    · have same : look (g.dropEntries (p.station a).corner a out).stations i = look g.stations i := by
        unfold CueGenerator.dropEntries
        dsimp only
        split
        · exact look_change_ne _ hi _
        · rfl
      have keeps {e : SpeechEntry} (hs : e.station = i) :
          e ∈ (look (g.dropEntries (p.station a).corner a out).speech (p.station i).corner).queue ↔
            e ∈ (look g.speech (p.station i).corner).queue := by
        rw [hq]
        exact and_iff_left fun h => hi (hs.symm.trans h.2.1)
      refine ⟨fun ⟨e, he, hs, hl, ho⟩ => ?_, fun h => ?_⟩
      · rw [ih1 ⟨e, (keeps hs).2 he, hs, (List.mem_cons.1 hl).resolve_left hi, ho⟩, same]
      · rw [ih2 fun e he hs hl => h e ((keeps hs).1 he) hs (List.mem_cons_of_mem _ hl), same]

end Drop

/-! ## Many playbacks cut -/

section Started

variable {walking : Prop} {v w : CornerSpeech}

/-- What the start test leaves: nothing moved, or the head playing and taken from the queue. -/
theorem StartTested.cases (h : StartTested walking v w) :
    w = v ∨ ∃ d rest n, v.queue = d :: rest ∧ w = { v with channel := .playing d 0 n, queue := rest } := by
  obtain ⟨hnil, hcons⟩ := h
  cases hq : v.queue with
  | nil => exact .inl (hnil hq)
  | cons d rest =>
    obtain ⟨starts, waits⟩ := hcons d rest hq
    by_cases hd : d.kind = .walk ∨ ¬ walking
    · obtain ⟨n, hw⟩ := starts hd
      exact .inr ⟨d, rest, n, rfl, hw⟩
    · obtain ⟨hk, hs⟩ := not_or.1 hd
      exact .inl (waits (d.kind_cases.resolve_left hk) (not_not.1 hs))

theorem GapEntered.cases {gap : Nat} (h : GapEntered gap walking v w) :
    (∃ x, w = { v with channel := x } ∧ ∀ e since n, x ≠ .playing e since n) ∨
      ∃ d rest n, v.queue = d :: rest ∧ w = { v with channel := .playing d 0 n, queue := rest } := by
  rcases Nat.eq_zero_or_pos gap with h0 | h0
  · rcases (h.2 h0).cases with hw | ⟨d, rest, n, hq, hw⟩
    · exact .inl ⟨_, hw, fun _ _ _ => nofun⟩
    · exact .inr ⟨d, rest, n, hq, hw⟩
  · exact .inl ⟨_, h.1 h0, fun _ _ _ => nofun⟩

theorem GapEntered.queue {gap : Nat} (h : GapEntered gap walking v w) {e : SpeechEntry} (he : e ∈ w.queue) : e ∈ v.queue := by
  rcases h.cases with ⟨x, rfl, -⟩ | ⟨d, rest, n, hq, rfl⟩
  · exact he
  · rw [hq]; exact List.mem_cons_of_mem _ he

theorem GapEntered.plays {gap : Nat} (h : GapEntered gap walking v w) {e : SpeechEntry} {since n : Nat}
    (hc : w.channel = .playing e since n) : e ∈ v.queue := by
  rcases h.cases with ⟨x, rfl, hx⟩ | ⟨d, rest, n, hq, rfl⟩
  · exact absurd hc (hx _ _ _)
  · obtain ⟨rfl, -, -⟩ := Channel.playing.inj hc
    rw [hq]; exact List.mem_cons_self

end Started

/-- From g to t the marked playbacks are cut, each with the gap of its corner, and nothing else changes (R138, R139). -/
structure PlaybacksCut (p : ProfileStore) (out : SpeechEntry → Bool) (l : List Station) (g t : CueGenerator) : Prop where
  frame : t = { g with stations := t.stations, speech := t.speech, nextSerial := t.nextSerial }
  stays : ∀ k, (∀ e since n, (look g.speech k).channel = .playing e since n → ¬ Marked p l out k e) →
    look t.speech k = look g.speech k
  cut : ∀ k e since n, (look g.speech k).channel = .playing e since n → Marked p l out k e →
    GapEntered (p.corner k).gap (g.WalkSounds p k) ((look g.speech k).ended since .cut) (look t.speech k)
  result : ∀ k e since n, (look g.speech k).channel = .playing e since n → Marked p l out k e →
    look t.stations e.station = { look g.stations e.station with result := .cut }
  quiet : ∀ i, (∀ k e since n, (look g.speech k).channel = .playing e since n → Marked p l out k e → e.station ≠ i) →
    look t.stations i = look g.stations i

section Cut

variable {p : ProfileStore} {out : SpeechEntry → Bool} {a : Station} {l : List Station} {g t : CueGenerator}

theorem Marked.cons {k : Corner} {e : SpeechEntry} :
    Marked p (a :: l) out k e ↔ (e.station = a ∧ (p.station a).corner = k ∧ out e = true) ∨ Marked p l out k e := by
  unfold Marked
  rw [List.mem_cons]
  constructor
  · rintro ⟨h | h, hk, ho⟩
    · exact .inl ⟨h, h ▸ hk, ho⟩
    · exact .inr ⟨h, hk, ho⟩
  · rintro (⟨h, hk, ho⟩ | ⟨h, hk, ho⟩)
    · exact ⟨.inl h, h ▸ hk, ho⟩
    · exact ⟨.inr h, hk, ho⟩

/-- A station none of whose playbacks is marked adds nothing. -/
theorem PlaybacksCut.skip
    (none : ∀ e since n, (look g.speech (p.station a).corner).channel = .playing e since n → e.station = a → out e = false)
    (h : PlaybacksCut p out l g t) : PlaybacksCut p out (a :: l) g t := by
  have marked {k : Corner} {e : SpeechEntry} {since n : Nat} (hc : (look g.speech k).channel = .playing e since n) :
      Marked p (a :: l) out k e ↔ Marked p l out k e := by
    rw [Marked.cons]
    refine or_iff_right ?_
    rintro ⟨hs, rfl, ho⟩
    rw [none e since n hc hs] at ho
    exact Bool.false_ne_true ho
  refine ⟨h.frame, fun k hk => h.stays k fun e since n hc hm => hk e since n hc ((marked hc).2 hm), fun k e since n hc hm =>
    h.cut k e since n hc ((marked hc).1 hm), fun k e since n hc hm => h.result k e since n hc ((marked hc).1 hm),
    fun i hi => h.quiet i fun k e since n hc hm => hi k e since n hc ((marked hc).2 hm)⟩

/-- What the end of one playback does to the sounds: nothing. -/
theorem CueGenerator.walkSounds_congr {h : CueGenerator} {k : Corner}
    (sounds : ∀ i, (look h.stations i).sound = (look g.stations i).sound) : h.WalkSounds p k ↔ g.WalkSounds p k := by
  unfold CueGenerator.WalkSounds
  exact exists_congr fun i => by rw [sounds i]

/-- A marked playback of the first station is cut, and then those of the rest. -/
theorem PlaybacksCut.cons {e : SpeechEntry} {since n : Nat}
    (hc : (look g.speech (p.station e.station).corner).channel = .playing e since n) (ho : out e = true)
    (clear : ∀ k, ∀ x ∈ (look g.speech k).queue, ¬ Marked p (e.station :: l) out k x)
    (h : PlaybacksCut p out l (g.endPlayback p (p.station e.station).corner .cut) t) : PlaybacksCut p out (e.station :: l) g t := by
  obtain ⟨w, m, hend, -, hgap⟩ := CueGenerator.endPlayback_playing p .cut hc
  rw [hend] at h
  generalize hk : (p.station e.station).corner = k at hc h hgap
  obtain ⟨hframe, hstays, hcut, hresult, hquiet⟩ := h
  dsimp only at hframe hstays hcut hresult hquiet
  have hw : look (put g.speech k w) k = w := look_put_self _ _ _
  have hne {j : Corner} (hj : j ≠ k) : look (put g.speech k w) j = look g.speech j := look_put_ne _ hj _
  have fresh {e' : SpeechEntry} {since' n' : Nat} (hc' : w.channel = .playing e' since' n') : ¬ Marked p l out k e' := fun hm =>
    clear k e' (hgap.plays hc') (Marked.cons.2 (.inr hm))
  have first : Marked p (e.station :: l) out k e := Marked.cons.2 (.inl ⟨rfl, hk, ho⟩)
  have later {j : Corner} {x : SpeechEntry} (hj : j ≠ k) (hm : Marked p (e.station :: l) out j x) :
      x.station ≠ e.station ∧ Marked p l out j x := by
    have hx : x.station ≠ e.station := fun hx => hj (by rw [← hm.2.1, hx, hk])
    exact ⟨hx, (Marked.cons.1 hm).resolve_left fun h => hx h.1⟩
  have sounds (j : Corner) : CueGenerator.WalkSounds p { g with
      stations := change g.stations e.station fun x => { x with result := .cut }, speech := put g.speech k w, nextSerial := m } j ↔
      g.WalkSounds p j := by
    refine CueGenerator.walkSounds_congr fun i => ?_
    dsimp only
    rw [look_change]
    split <;> rfl
  refine ⟨?_, fun j hj => ?_, fun j x since' n' hcx hm => ?_, fun j x since' n' hcx hm => ?_, fun i hi => ?_⟩
  · rw [hframe]
  · have hjk : j ≠ k := by
      rintro rfl
      exact hj e since n hc first
    rw [hstays j fun x since' n' hcx hm => ?_, hne hjk]
    rw [hne hjk] at hcx
    exact hj x since' n' hcx (Marked.cons.2 (.inr hm))
  · by_cases hjk : j = k
    · subst hjk
      obtain ⟨rfl, rfl, rfl⟩ := Channel.playing.inj (hc.symm.trans hcx)
      rw [hstays j fun x since' n' hcx => fresh (by rw [← hcx, hw]), hw]
      exact hgap
    · have := hcut j x since' n' (by rw [hne hjk]; exact hcx) (later hjk hm).2
      rw [propext (sounds j), hne hjk] at this
      exact this
  · by_cases hjk : j = k
    · subst hjk
      obtain ⟨rfl, rfl, rfl⟩ := Channel.playing.inj (hc.symm.trans hcx)
      by_cases again : ∃ j' x since' n', (look (put g.speech j w) j').channel = .playing x since' n' ∧ Marked p l out j' x ∧
          x.station = e.station
      · obtain ⟨j', x, since', n', hcx', hm', hx⟩ := again
        have := hresult j' x since' n' hcx' hm'
        rw [hx, look_change_self] at this
        exact this
      · rw [hquiet e.station fun j' x since' n' hcx' hm' hx => again ⟨j', x, since', n', hcx', hm', hx⟩, look_change_self]
    · obtain ⟨hx, hm'⟩ := later hjk hm
      have := hresult j x since' n' (by rw [hne hjk]; exact hcx) hm'
      rw [look_change_ne _ hx] at this
      exact this
  · have hie : i ≠ e.station := fun h => hi k e since n hc first h.symm
    rw [hquiet i fun j x since' n' hcx hm => ?_, look_change_ne _ hie]
    by_cases hjk : j = k
    · subst hjk
      rw [hw] at hcx
      exact absurd hm (fresh hcx)
    · rw [hne hjk] at hcx
      exact hi j x since' n' hcx (Marked.cons.2 (.inr hm))

/-- Where no queue holds a marked entry, cutting station by station cuts exactly the marked playbacks: what starts after a cut is
not marked. -/
theorem CueGenerator.cutAll_cut (l : List Station) (g : CueGenerator)
    (clear : ∀ k, ∀ x ∈ (look g.speech k).queue, ¬ Marked p l out k x) : PlaybacksCut p out l g (g.cutAll p out l) := by
  induction l generalizing g with
  | nil =>
    refine ⟨rfl, fun _ _ => rfl, fun k e since n _ hm => ?_, fun k e since n _ hm => ?_, fun _ _ => rfl⟩ <;> exact nomatch hm.1
  | cons a l ih =>
    have clear' (k : Corner) (x : SpeechEntry) (hx : x ∈ (look g.speech k).queue) : ¬ Marked p l out k x := fun hm =>
      clear k x hx (Marked.cons.2 (.inr hm))
    change PlaybacksCut p out (a :: l) g ((g.cutEntry p (p.station a).corner a out).cutAll p out l)
    by_cases hcut : ∃ e since n, (look g.speech (p.station a).corner).channel = .playing e since n ∧ e.station = a ∧ out e = true
    · obtain ⟨e, since, n, hc, rfl, ho⟩ := hcut
      rw [CueGenerator.cutEntry_cut hc rfl ho]
      refine PlaybacksCut.cons hc ho clear (ih _ fun k x hx => ?_)
      obtain ⟨w, m, hend, -, hgap⟩ := CueGenerator.endPlayback_playing p .cut hc
      rw [hend] at hx
      dsimp only at hx
      rw [look_put] at hx
      split at hx
      · next hk =>
        subst hk
        exact clear' _ x (hgap.queue hx)
      · exact clear' k x hx
    · have none (e : SpeechEntry) (since n : Nat) (hc : (look g.speech (p.station a).corner).channel = .playing e since n)
          (hs : e.station = a) : out e = false := by
        cases ho : out e with
        | false => rfl
        | true => exact absurd ⟨e, since, n, hc, hs, ho⟩ hcut
      rw [CueGenerator.cutEntry_stays none]
      exact PlaybacksCut.skip none (ih g clear')

end Cut

end Sys2Proof.Machine

/-! The cue gates and their speech (R121, R131, R138). -/

namespace Sys2Proof.Machine

theorem State.gateCondition_iff (s : State) (c : Crossing) :
    s.gateCondition c = true ↔ HasRecord s.table c CallState.isWalking ∧ (look s.aspects c).observed = .walk ∧
      (look s.holds.flags c).held = false ∧ (look s.aspects c).fault = none ∧ (s.store.crossing c).enabled = true := by
  simp [State.gateCondition, walkingSlot_isSome, and_assoc]

theorem mem_stationsOf {p : ProfileStore} {c : Crossing} {i : Station} : i ∈ stationsOf p c ↔ (p.station i).crossing = c := by
  simp [stationsOf]

section Find

variable {s : State} {c : Crossing}

theorem State.findGate_same (h : look s.cues.gates c = s.gateCondition c) : s.findGate c = s := by
  unfold State.findGate
  rw [h]
  cases s.gateCondition c <;> rfl

theorem State.findGate_opens (h : look s.cues.gates c = false) (hc : s.gateCondition c = true) :
    s.findGate c = { s with cues := s.cues.openGate s.store s.bus c } := by
  unfold State.findGate
  rw [h, hc]
  rfl

/-- A closing gate: its crossing's WALK entries are removed, then its walk playbacks are cut (R138). -/
theorem State.findGate_closes (h : look s.cues.gates c = true) (hc : s.gateCondition c = false) :
    s.findGate c =
      { s with cues := (({ s.cues with gates := put s.cues.gates c false } : CueGenerator).dropAll s.store (fun e => e.kind == .walk)
          (stationsOf s.store c)).cutAll s.store (fun e => e.kind == .walk) (stationsOf s.store c) } := by
  unfold State.findGate
  rw [h, hc]
  rfl

end Find

/-- The queues of the crossing's WALK entries are emptied of them and their playbacks cut, corner by corner and station by station: what
removing and cutting leaves together. -/
structure Cleared (p : ProfileStore) (out : SpeechEntry → Bool) (g t : CueGenerator) : Prop where
  frame : t = { g with stations := t.stations, speech := t.speech, nextSerial := t.nextSerial }
  stays : ∀ k, (∀ e since n, (look g.speech k).channel = .playing e since n → out e = false) →
    look t.speech k = { look g.speech k with queue := (look g.speech k).queue.filter fun e => !out e }
  cut : ∀ k e since n, (look g.speech k).channel = .playing e since n → out e = true →
    GapEntered (p.corner k).gap (g.WalkSounds p k)
      (({ look g.speech k with queue := (look g.speech k).queue.filter fun e => !out e } : CornerSpeech).ended since .cut)
      (look t.speech k)
  shape : ∀ i, look t.stations i = { look g.stations i with result := (look t.stations i).result }
  result_cut : ∀ i, (∃ k e since n, (look g.speech k).channel = .playing e since n ∧ out e = true ∧ e.station = i) →
    (look t.stations i).result = .cut
  result_dropped : ∀ i, (∀ k e since n, (look g.speech k).channel = .playing e since n → out e = true → e.station ≠ i) →
    (∃ k, ∃ e ∈ (look g.speech k).queue, out e = true ∧ e.station = i) → (look t.stations i).result = .dropped
  result_stays : ∀ i, (∀ k e since n, (look g.speech k).channel = .playing e since n → out e = true → e.station ≠ i) →
    (∀ k, ∀ e ∈ (look g.speech k).queue, out e = true → e.station ≠ i) → look t.stations i = look g.stations i

section Clear

variable {p : ProfileStore} {out all : SpeechEntry → Bool} {l : List Station} {g : CueGenerator}

/-- Removing and then cutting the marked entries, where every entry to go stands at the corner of its station. -/
theorem CueGenerator.cleared (hout : ∀ e, out e = true ↔ e.station ∈ l ∧ all e = true)
    (queued : ∀ k, ∀ e ∈ (look g.speech k).queue, out e = true → (p.station e.station).corner = k)
    (playing : ∀ k e since n, (look g.speech k).channel = .playing e since n → out e = true → (p.station e.station).corner = k) :
    Cleared p out g ((g.dropAll p all l).cutAll p all l) := by
  have marked {k : Corner} {e : SpeechEntry} (hk : out e = true → (p.station e.station).corner = k) :
      Marked p l all k e ↔ out e = true := by
    rw [hout]
    exact ⟨fun h => ⟨h.1, h.2.2⟩, fun h => ⟨h.1, hk ((hout e).2 h), h.2⟩⟩
  have speech (k : Corner) : look (g.dropAll p all l).speech k =
      { look g.speech k with queue := (look g.speech k).queue.filter fun e => !out e } := by
    obtain ⟨left, hl, rfl⟩ := g.dropAll_speech p all l k
    have hf : (look g.speech k).queue.filter (fun e => !(decide (e.station ∈ l ∧ (p.station e.station).corner = k) && all e)) =
        (look g.speech k).queue.filter fun e => !out e := by
      refine List.filter_congr fun e he => congrArg Bool.not (Bool.eq_iff_iff.2 ?_)
      rw [← marked (queued k e he), Bool.and_eq_true, decide_eq_true_iff, and_assoc]
      exact Iff.rfl
    rw [hl, hf]
  have channel (k : Corner) : (look (g.dropAll p all l).speech k).channel = (look g.speech k).channel := by rw [speech k]
  have clear (k : Corner) (x : SpeechEntry) (hx : x ∈ (look (g.dropAll p all l).speech k).queue) : ¬ Marked p l all k x := by
    rw [speech k] at hx
    obtain ⟨hx, ho⟩ := List.mem_filter.1 hx
    rw [marked (queued k x hx)]
    simpa using ho
  obtain ⟨hframe, hstays, hcut, hresult, hquiet⟩ := CueGenerator.cutAll_cut l (g.dropAll p all l) clear
  have shape (i : Station) : look (g.dropAll p all l).stations i =
      { look g.stations i with result := (look (g.dropAll p all l).stations i).result } := by
    by_cases hi : ∃ e ∈ (look g.speech (p.station i).corner).queue, e.station = i ∧ i ∈ l ∧ all e = true
    · rw [(g.dropAll_results p all l i).1 hi]
    · rw [(g.dropAll_results p all l i).2 fun e he hs hl => Bool.eq_false_iff.2 fun ho => hi ⟨e, he, hs, hl, ho⟩]
  have uncut {i : Station}
      (h : ∀ k e since n, (look g.speech k).channel = .playing e since n → out e = true → e.station ≠ i) :
      look ((g.dropAll p all l).cutAll p all l).stations i = look (g.dropAll p all l).stations i :=
    hquiet i fun k e since n hc hm => by
      rw [channel k] at hc
      exact h k e since n hc ((marked (playing k e since n hc)).1 hm)
  have cut {k : Corner} {e : SpeechEntry} {since n : Nat} (hc : (look g.speech k).channel = .playing e since n) (ho : out e = true) :
      look ((g.dropAll p all l).cutAll p all l).stations e.station =
        { look (g.dropAll p all l).stations e.station with result := .cut } :=
    hresult k e since n ((channel k).trans hc) ((marked (playing k e since n hc)).2 ho)
  refine ⟨?_, fun k h => ?_, fun k e since n hc ho => ?_, fun i => ?_, fun i => ?_, fun i h => ?_, fun i h h' => ?_⟩
  · rw [hframe, g.dropAll_frame p all l]
  · rw [hstays k fun e since n hc hm => ?_, speech k]
    rw [channel k] at hc
    have := (marked (playing k e since n hc)).1 hm
    rw [h e since n hc] at this
    cases this
  · have hg := hcut k e since n ((channel k).trans hc) ((marked (playing k e since n hc)).2 ho)
    rw [speech k] at hg
    rw [← propext (CueGenerator.walkSounds_congr (h := g.dropAll p all l) fun i => by rw [shape i])]
    exact hg
  · by_cases hi : ∃ k e since n, (look g.speech k).channel = .playing e since n ∧ out e = true ∧ e.station = i
    · obtain ⟨k, e, since, n, hc, ho, rfl⟩ := hi
      rw [cut hc ho, shape e.station]
    · rw [uncut fun k e since n hc ho hs => hi ⟨k, e, since, n, hc, ho, hs⟩]
      exact shape i
  · rintro ⟨k, e, since, n, hc, ho, rfl⟩
    rw [cut hc ho]
  · rintro ⟨k, e, he, ho, rfl⟩
    have hk := queued k e he ho
    have hl := (hout e).1 ho
    rw [uncut h, (g.dropAll_results p all l e.station).1 ⟨e, by rw [hk]; exact he, rfl, hl⟩]
  · rw [uncut h, (g.dropAll_results p all l i).2]
    rintro e he rfl hl
    cases ho : all e with
    | false => rfl
    | true => exact absurd rfl (h' _ e he ((hout e).2 ⟨hl, ho⟩))

end Clear

/-- Settles O54: the opening is the fold of its requests; the closing clears the crossing's WALK entries and playbacks. -/
theorem gateSpeech : Obligations.GateSpeech := by
  unfold Obligations.GateSpeech
  intro s c out hout
  refine ⟨s.gateCondition_iff c, State.findGate_same, fun h hc => ?_, fun h hc queued playing => ?_⟩
  · refine ⟨(stationsOf s.store c).filter fun i =>
      (look s.bus.stations i).state == .active && (look s.bus.stations i).features.walkCue == .speech,
      (members_sorted _).sublist List.filter_sublist, fun i => ?_, _, State.findGate_opens h hc, rfl⟩
    rw [List.mem_filter, mem_stationsOf, Bool.and_eq_true, beq_iff_eq, beq_iff_eq]
    exact Iff.rfl
  · have cleared : Cleared s.store out ({ s.cues with gates := put s.cues.gates c false } : CueGenerator) _ :=
      CueGenerator.cleared (all := fun e => e.kind == .walk) (l := stationsOf s.store c)
        (fun e => by rw [hout, mem_stationsOf, beq_iff_eq, and_comm]) queued playing
    obtain ⟨hframe, hstays, hcut, hshape, hresult, hdropped, hsame⟩ := cleared
    rw [State.findGate_closes h hc]
    generalize (CueGenerator.dropAll s.store _ _ _).cutAll _ _ _ = t at *
    refine ⟨_, rfl, ?_, ?_, fun i => ⟨hshape i, hresult i, fun hn => ⟨hdropped i hn, fun hq => ?_⟩⟩⟩
    · rw [hframe]
    · rintro k v left walking rfl rfl hwalking
      obtain rfl : walking = s.cues.WalkSounds s.store k := propext hwalking
      refine ⟨hstays k, ?_⟩
      rintro e since n w hp ho rfl
      have hg := hcut k e since n hp ho
      simp only [CornerSpeech.ended, show (SpeechResult.cut != SpeechResult.timeout) = true from rfl, Bool.and_true] at hg
      exact hg
    · exact congrArg StationCue.result (hsame i hn hq)

end Sys2Proof.Machine

/-! A station leaving ACTIVE (R139, R166). -/

namespace Sys2Proof.Machine

/-- A start test whose result is tested again, with no more walks sounding, does what one start test does. -/
theorem StartTested.again {was now : Prop} {v w u : CornerSpeech} (h : StartTested was v w) (hv : v.channel = .idle) (fewer : now → was)
    (busy : w.channel ≠ .idle → u = w) (idle : w.channel = .idle → StartTested now w u) : StartTested now v u := by
  rcases h.cases with rfl | ⟨d, rest, n, hq, hw⟩
  · exact idle hv
  · rw [busy (by rw [hw]; exact fun hc => nomatch hc)]
    refine ⟨fun hn => (by rw [hn] at hq; cases hq), fun d' rest' hd' => ?_⟩
    obtain ⟨rfl, rfl⟩ := List.cons.inj (hq.symm.trans hd')
    exact ⟨fun _ => ⟨n, hw⟩, fun hk hn => (h.2 d rest hq).2 hk (fewer hn)⟩

theorem CueGenerator.startTest_spec (p : ProfileStore) (k : Corner) (g : CueGenerator) :
    ∃ w n, g.startTest p k = { g with speech := put g.speech k w, nextSerial := n } ∧
      ((look g.speech k).channel ≠ .idle → w = look g.speech k) ∧
      ((look g.speech k).channel = .idle → StartTested (g.WalkSounds p k) (look g.speech k) w) := by
  by_cases hi : (look g.speech k).channel = .idle
  · obtain ⟨w, n, h, ht⟩ := CueGenerator.startTest_tested p hi
    exact ⟨w, n, h, fun hb => absurd hi hb, fun _ => ht⟩
  · exact ⟨look g.speech k, g.nextSerial, by rw [CueGenerator.startTest_busy hi, put_look_self], fun _ => rfl,
      fun h => absurd h hi⟩

section Leave

variable {p : ProfileStore} {i : Station} {g : CueGenerator}

/-- The queue without the station's entries. -/
theorem CueGenerator.dropStation_look (p : ProfileStore) (i : Station) (g : CueGenerator) :
    look (CueGenerator.dropStation p g i).speech (p.station i).corner =
      { look g.speech (p.station i).corner with
        queue := (look g.speech (p.station i).corner).queue.filter fun e => decide (e.station ≠ i) } := by
  have hf (q : List SpeechEntry) : q.filter (fun e => !(decide ((p.station i).corner = (p.station i).corner) &&
      (e.station == i && true))) = q.filter fun e => decide (e.station ≠ i) := by
    refine List.filter_congr fun e _ => ?_
    by_cases h : e.station = i <;> simp [h]
  rw [CueGenerator.dropStation, CueGenerator.dropEntries_look, hf]

theorem CueGenerator.dropStation_beside : Beside g.speech (CueGenerator.dropStation p g i).speech (p.station i).corner := by
  intro j hj
  rw [CueGenerator.dropStation, CueGenerator.dropEntries_look]
  simp [hj]

/-- A station's walk no longer sounds once it is silenced: what sounds is another station's. -/
theorem CueGenerator.silenceStation_walkSounds (k : Corner) :
    (g.silenceStation i).WalkSounds p k ↔ ∃ j, j ≠ i ∧ (p.station j).corner = k ∧
      ((look g.stations j).sound = .walkTone ∨ (look g.stations j).sound = .speech .walk) := by
  unfold CueGenerator.WalkSounds
  refine exists_congr fun j => ?_
  rw [CueGenerator.silenceStation, CueGenerator.onStation_stations, look_change]
  by_cases hj : j = i
  · simp [hj]
  · simp [hj]

/-- What the removal of its entries makes of a leaving station's latest result. -/
theorem CueGenerator.dropStation_result :
    ((∃ e ∈ (look g.speech (p.station i).corner).queue, e.station = i) →
      (CueGenerator.dropStation p g i).stations = change g.stations i fun x => { x with result := .dropped }) ∧
    ((∀ e ∈ (look g.speech (p.station i).corner).queue, e.station ≠ i) → (CueGenerator.dropStation p g i).stations = g.stations) := by
  refine ⟨fun ⟨e, he, hs⟩ => CueGenerator.dropEntries_some ⟨e, he, hs, rfl⟩, fun h => ?_⟩
  rw [CueGenerator.dropStation, CueGenerator.dropEntries_none fun e he hs => absurd hs (h e he)]

/-- Beside its result, a leaving station's cue state is not touched by the removal of its entries, nor is any other station's. -/
theorem CueGenerator.dropStation_stations :
    ∃ r, (CueGenerator.dropStation p g i).stations = change g.stations i fun x => { x with result := r } := by
  by_cases h : ∃ e ∈ (look g.speech (p.station i).corner).queue, e.station = i
  · exact ⟨_, CueGenerator.dropStation_result.1 h⟩
  · refine ⟨(look g.stations i).result, ?_⟩
    rw [CueGenerator.dropStation_result.2 fun e he hs => h ⟨e, he, hs⟩]
    exact (put_look_self _ _).symm

/-- The cut of a leaving station's playback, and the entries removed before it, leave the sounds. -/
theorem CueGenerator.change_result_sounds {h : CueGenerator} {r : SpeechResult}
    (hs : h.stations = change g.stations i fun x => { x with result := r }) (j : Station) :
    (look h.stations j).sound = (look g.stations j).sound := by
  rw [hs, look_change]
  split <;> rfl

end Leave

/-- A cut at the moment of the play limit marks that limit (log 30). -/
theorem CornerSpeech.ended_cut (since : Nat) (v : CornerSpeech) :
    v.ended since .cut = { v with limitLapsed := v.limitLapsed || decide (20000 ≤ since) } := by
  simp only [CornerSpeech.ended, show (SpeechResult.cut != SpeechResult.timeout) = true from rfl, Bool.and_true]

section Leaves

variable (p : ProfileStore) (i : Station) (g : CueGenerator)

/-- The station leaves while its corner's channel does not play for it. -/
theorem CueGenerator.leave_quiet
    (h : ∀ e since n, (look g.speech (p.station i).corner).channel = .playing e since n → e.station ≠ i) :
    g.leave p i = ((CueGenerator.dropStation p g i).silenceStation i).startTest p (p.station i).corner := by
  have hc : (look (CueGenerator.dropStation p g i).speech (p.station i).corner).channel =
      (look g.speech (p.station i).corner).channel := by rw [CueGenerator.dropStation_look]
  unfold CueGenerator.leave CueGenerator.cutStation
  rw [CueGenerator.cutEntry_stays fun e since n hp hs => absurd hs (h e since n (hc.symm.trans hp))]

/-- The station leaves while its corner's channel plays for it. -/
theorem CueGenerator.leave_playing {e : SpeechEntry} {since n : Nat}
    (h : (look g.speech (p.station i).corner).channel = .playing e since n) (hs : e.station = i) :
    g.leave p i = (((CueGenerator.dropStation p g i).endPlayback p (p.station i).corner .cut).silenceStation i).startTest p
      (p.station i).corner := by
  have hc : (look (CueGenerator.dropStation p g i).speech (p.station i).corner).channel = .playing e since n := by
    rw [CueGenerator.dropStation_look]
    exact h
  unfold CueGenerator.leave CueGenerator.cutStation
  rw [CueGenerator.cutEntry_cut hc hs rfl]

/-- From g to h, results of station i and speech at corner k change, and nothing else. -/
structure StationSpeech (i : Station) (k : Corner) (g h : CueGenerator) : Prop where
  frame : h = { g with stations := h.stations, speech := h.speech, nextSerial := h.nextSerial }
  result : ∃ r, h.stations = change g.stations i fun x => { x with result := r }
  speech : Beside g.speech h.speech k

/-- The last two acts of a station leaving ACTIVE: its sound and flags end, and the start test is taken (R139). -/
theorem CueGenerator.silence_test {k : Corner} {h : CueGenerator} (hh : StationSpeech i k g h) :
    ∃ t, t = (h.silenceStation i).startTest p k ∧
      t = { g with stations := t.stations, speech := t.speech, nextSerial := t.nextSerial } ∧
      Beside g.stations t.stations i ∧ Beside g.speech t.speech k ∧
      look t.stations i = { sound := .none, armed := false, covering := false, tactile := false, indicator := .off
                            result := (look h.stations i).result } ∧
      ((look h.speech k).channel ≠ .idle → look t.speech k = look h.speech k) ∧
      ((look h.speech k).channel = .idle → StartTested (∃ j, j ≠ i ∧ (p.station j).corner = k ∧
          ((look g.stations j).sound = .walkTone ∨ (look g.stations j).sound = .speech .walk)) (look h.speech k) (look t.speech k)) := by
  obtain ⟨hframe, ⟨r, hr⟩, hspeech⟩ := hh
  obtain ⟨w, n, hw, hbusy, hidle⟩ := CueGenerator.startTest_spec p k (h.silenceStation i)
  have hst : (h.silenceStation i).stations = change h.stations i fun x =>
      { x with sound := .none, armed := false, covering := false, tactile := false, indicator := .off } := rfl
  have sounds (j : Station) : (look h.stations j).sound = (look g.stations j).sound := CueGenerator.change_result_sounds hr j
  rw [propext (CueGenerator.silenceStation_walkSounds k)] at hidle
  simp only [sounds] at hidle
  refine ⟨_, rfl, ?_⟩
  rw [hw]
  refine ⟨?_, ?_, ?_, ?_, fun hb => ?_, fun hi => ?_⟩
  · rw [hframe]; rfl
  · dsimp only
    rw [hst, hr]
    exact (beside_change _ _ _).trans (beside_change _ _ _)
  · exact hspeech.trans (beside_put _ _ _)
  · dsimp only
    rw [hst, look_change_self]
  · exact (look_put_self _ _ _).trans (hbusy hb)
  · dsimp only
    rw [look_put_self]
    exact hidle hi

theorem CueGenerator.dropStation_speech : StationSpeech i (p.station i).corner g (CueGenerator.dropStation p g i) where
  frame := by
    rw [CueGenerator.dropStation, CueGenerator.dropEntries_frame]
  result := CueGenerator.dropStation_stations
  speech := CueGenerator.dropStation_beside

/-- A station leaving ACTIVE does at the Cue Generator what `LeavesCues` says (R139). -/
theorem CueGenerator.leave_leaves : LeavesCues p i g (g.leave p i) := by
  rintro k v left walking rfl rfl rfl hwalking
  obtain rfl := propext hwalking
  have hdrop := CueGenerator.dropStation_look p i g
  have hds := CueGenerator.dropStation_speech p i g
  obtain ⟨hsome, hnone⟩ := CueGenerator.dropStation_result (p := p) (i := i) (g := g)
  by_cases hplay : ∃ e since n, (look g.speech (p.station i).corner).channel = .playing e since n ∧ e.station = i
  · obtain ⟨e, since, n, hc, hs⟩ := hplay
    have hc1 : (look (CueGenerator.dropStation p g i).speech (p.station i).corner).channel = .playing e since n := by
      rw [hdrop]; exact hc
    obtain ⟨w, m, hend, -, hgap⟩ := CueGenerator.endPlayback_playing p .cut hc1
    have hcut : StationSpeech i (p.station i).corner g ((CueGenerator.dropStation p g i).endPlayback p (p.station i).corner .cut) := by
      obtain ⟨hframe, ⟨r, hr⟩, hb⟩ := hds
      rw [hend, hs]
      refine ⟨?_, ⟨.cut, ?_⟩, hb.trans (beside_put _ _ _)⟩
      · rw [hframe]
      · dsimp only
        rw [hr]
        simp [change_eq_put]
    have hw : look ((CueGenerator.dropStation p g i).endPlayback p (p.station i).corner .cut).speech (p.station i).corner = w := by
      rw [hend]; exact look_put_self _ _ _
    have hresult : (look ((CueGenerator.dropStation p g i).endPlayback p (p.station i).corner .cut).stations i).result = .cut := by
      rw [hend, hs]
      exact congrArg StationCue.result (look_change_self _ _ _)
    obtain ⟨t, ht, hframe, hbst, hbsp, hself, hbusy, hidle⟩ := CueGenerator.silence_test p i g hcut
    rw [CueGenerator.leave_playing p i g hc hs, ← ht]
    rw [hw] at hbusy hidle
    refine ⟨hframe, hbst, hbsp, ?_, fun _ => ?_, fun h => absurd hs (h e since n hc), fun h => ?_, fun n' h => ?_,
      fun e' since' n' h => ?_⟩
    · rw [hself]
    · rw [hself]; exact hresult
    · rw [hc] at h; cases h
    · rw [hc] at h; cases h
    · obtain ⟨rfl, rfl, rfl⟩ := Channel.playing.inj (hc.symm.trans h)
      refine ⟨fun hn => absurd hs hn, ?_⟩
      rintro u - rfl
      have hended : (look (CueGenerator.dropStation p g i).speech (p.station i).corner).ended since .cut =
          { look g.speech (p.station i).corner with
            queue := (look g.speech (p.station i).corner).queue.filter fun e => decide (e.station ≠ i)
            limitLapsed := (look g.speech (p.station i).corner).limitLapsed || decide (20000 ≤ since) } := by
        rw [CornerSpeech.ended_cut, hdrop]
      rw [hended] at hgap
      refine ⟨fun h0 => ?_, fun h0 => ?_⟩
      · rw [← hgap.1 h0]
        exact hbusy (by rw [hgap.1 h0]; exact fun hc => nomatch hc)
      · refine (hgap.2 h0).again rfl ?_ hbusy hidle
        rintro ⟨j, -, hj, hsound⟩
        obtain ⟨r, hr⟩ := hds.result
        refine ⟨j, hj, ?_⟩
        rw [CueGenerator.change_result_sounds hr]
        exact hsound
  · have hq (e : SpeechEntry) (since n : Nat) (hc : (look g.speech (p.station i).corner).channel = .playing e since n) :
        e.station ≠ i := fun hs => hplay ⟨e, since, n, hc, hs⟩
    obtain ⟨t, ht, hframe, hbst, hbsp, hself, hbusy, hidle⟩ := CueGenerator.silence_test p i g hds
    rw [CueGenerator.leave_quiet p i g hq, ← ht]
    rw [hdrop] at hbusy hidle
    refine ⟨hframe, hbst, hbsp, ?_, fun h => absurd h hplay, fun _ => ⟨fun h => ?_, fun h => ?_⟩, hidle,
      fun n h => hbusy (fun hi => nomatch h.symm.trans hi), fun e since n h => ⟨fun _ => hbusy (fun hi => nomatch h.symm.trans hi), ?_⟩⟩
    · rw [hself]
    · rw [hself, hsome h, look_change_self]
    · rw [hself, hnone h]
    · intro w hs
      exact absurd hs (hq e since n h)

end Leaves

end Sys2Proof.Machine

/-! MISSED_SLOT, and a report that fails a check (R163, R165, R166). -/

namespace Sys2Proof.Machine

/-! ## Abandonment and leaving ACTIVE -/

/-- Abandonment does what `PressAbandoned` says (R32). -/
theorem PressState.abandon_abandoned (x : PressState) : PressAbandoned x x.abandon := by
  refine ⟨rfl, fun h => ?_, fun e h => ⟨fun ho => ?_, fun ho => ?_⟩⟩
  · simp [PressState.abandon, h]
  · simp [PressState.abandon, h, ho]
  · simp [PressState.abandon, h, ho]

section Leave

variable (i : Station) (s : State)

/-- A station leaving ACTIVE, block by block (R166). -/
theorem State.leaveActive_eq :
    s.leaveActive i =
      { s with
        press := change s.press i PressState.abandon
        table := { s.table with targets := put s.table.targets i .none }
        cues := s.cues.leave s.store i
        levels := change s.levels i LevelState.leave
        bus := { s.bus with stations := change s.bus.stations i fun l => { l with misses := 0 } } } := rfl

end Leave

/-- The queue of the corner holds no entry of a station that left, and its channel does not play for it. -/
theorem LeavesCues.gone {p : ProfileStore} {i : Station} {g h : CueGenerator} (hl : LeavesCues p i g h) :
    (∀ e ∈ (look h.speech (p.station i).corner).queue, e.station ≠ i) ∧
      ∀ e since n, (look h.speech (p.station i).corner).channel = .playing e since n → e.station ≠ i := by
  obtain ⟨-, -, -, -, -, -, hidle, hgap, hplay⟩ := hl _ _ _ _ rfl rfl rfl Iff.rfl
  generalize look h.speech (p.station i).corner = w at *
  have away {e : SpeechEntry} (he : e ∈ (look g.speech (p.station i).corner).queue.filter fun e => decide (e.station ≠ i)) :
      e.station ≠ i := of_decide_eq_true (List.mem_filter.1 he).2
  have ended {walking : Prop} {v : CornerSpeech} (h : StartTested walking v w) (hv : ∀ e ∈ v.queue, e.station ≠ i)
      (hc : v.channel = .idle) :
      (∀ e ∈ w.queue, e.station ≠ i) ∧ ∀ e since n, w.channel = .playing e since n → e.station ≠ i := by
    rcases h.cases with rfl | ⟨d, rest, n, hq, rfl⟩
    · exact ⟨hv, fun e since n h => nomatch hc.symm.trans h⟩
    · rw [hq] at hv
      refine ⟨fun e he => hv e (List.mem_cons_of_mem _ he), fun e since n h => ?_⟩
      obtain ⟨rfl, -, -⟩ := Channel.playing.inj h
      exact hv d List.mem_cons_self
  cases hc : (look g.speech (p.station i).corner).channel with
  | idle => exact ended (hidle hc) (fun e => away) hc
  | gap n =>
    rw [hgap n hc]
    refine ⟨fun e => away, fun e since n' h => ?_⟩
    exact nomatch hc.symm.trans h
  | playing e since n =>
    obtain ⟨hother, hmine⟩ := hplay e since n hc
    by_cases hs : e.station = i
    · obtain ⟨hsome, hnone⟩ := hmine _ hs rfl
      rcases Nat.eq_zero_or_pos (p.corner (p.station i).corner).gap with h0 | h0
      · exact ended (hnone h0) (fun e => away) rfl
      · rw [hsome h0]
        exact ⟨fun e => away, fun _ _ _ h => nomatch h⟩
    · rw [hother hs]
      refine ⟨fun e => away, fun e' since' n' h => ?_⟩
      obtain ⟨rfl, -, -⟩ := Channel.playing.inj (hc.symm.trans h)
      exact hs

/-! ## The slot in progress -/

section Slot

variable {s : State} {i : Station} {x : LinkState} {playback : Option Nat}

/-- The slot settled (log 10). -/
def State.settledAt (s : State) (i : Station) (x : LinkState) (playback : Option Nat) : State :=
  { s with bus := { s.bus with slot := some { station := i, linkAtStart := x, playback := playback, settled := true } } }

theorem State.settleSlot_eq (h : InSlot s i x playback) : s.settleSlot = s.settledAt i x playback := by
  unfold State.settleSlot State.onBus State.settledAt
  dsimp only
  rw [h]
  rfl

theorem State.endSlot_eq (h : InSlot s i x playback) :
    s.endSlot = (s.settledAt i x playback).dealMiss { station := i, linkAtStart := x, playback := playback, settled := false } := by
  unfold State.endSlot
  rw [h, State.settleSlot_eq h]
  rfl

theorem State.receive_invalid (h : InSlot s i x playback) {bytes : List Byte} (hl : 12 ≤ bytes.length)
    (hv : validReport (bytes.take 12) = none) :
    s.receive bytes = (s.settledAt i x playback).dealMiss { station := i, linkAtStart := x, playback := playback, settled := false } := by
  have hb : (false || decide (bytes.length < 12)) = false := by simpa using hl
  unfold State.receive
  rw [h, State.settleSlot_eq h]
  dsimp only
  rw [hb, hv]
  rfl

theorem State.receive_valid (h : InSlot s i x playback) {bytes : List Byte} (hl : 12 ≤ bytes.length) {r : Report}
    (hv : validReport (bytes.take 12) = some r) :
    s.receive bytes =
      (s.settledAt i x playback).dealReport { station := i, linkAtStart := x, playback := playback, settled := false } r := by
  have hb : (false || decide (bytes.length < 12)) = false := by simpa using hl
  unfold State.receive
  rw [h, State.settleSlot_eq h]
  dsimp only
  rw [hb, hv]
  rfl

theorem State.receive_short (bytes : List Byte) (hl : bytes.length < 12) : s.receive bytes = s := by
  unfold State.receive
  split
  · rfl
  · exact if_pos (by simp [hl])

theorem State.receive_none (h : s.bus.slot = none) (bytes : List Byte) : s.receive bytes = s := by
  unfold State.receive
  rw [h]

theorem State.endSlot_none (h : s.bus.slot = none) : s.endSlot = s := by
  unfold State.endSlot
  rw [h]

theorem State.endSlot_settled {v : Slot} (h : s.bus.slot = some v) (hv : v.settled = true) : s.endSlot = s := by
  unfold State.endSlot
  rw [h]
  exact if_pos hv

theorem State.dealMiss_other (s : State) (h : x ≠ .active) (settled : Bool) :
    s.dealMiss { station := i, linkAtStart := x, playback := playback, settled := settled } = s := by
  cases x with
  | active => exact absurd rfl h
  | _ => rfl

theorem State.missSlot_counts (h : (look s.bus.stations i).misses + 1 < 4) :
    s.missSlot i =
      { s with bus := { s.bus with stations := change s.bus.stations i fun l => { l with misses := l.misses + 1 } } } := if_pos h

theorem State.missSlot_silent (h : 4 ≤ (look s.bus.stations i).misses + 1) :
    s.missSlot i =
      { s with
        press := change s.press i PressState.abandon
        table := { s.table with targets := put s.table.targets i .none }
        cues := s.cues.leave s.store i
        levels := change s.levels i LevelState.leave
        bus := { s.bus with
          stations := change s.bus.stations i fun l => { l with state := .silent, misses := 0, silentNotice := true } } } := by
  refine (if_neg (Nat.not_lt.2 h)).trans ?_
  rw [State.leaveActive_eq]
  simp [State.onLink, change_eq_put]

end Slot

/-- Settles O48: a miss by the link state of the slot's station and its miss count. -/
theorem missedSlot : Obligations.MissedSlot := by
  unfold Obligations.MissedSlot
  refine ⟨fun s => ⟨fun h => congrArg _ (State.endSlot_none h), fun x h hx => congrArg _ (State.endSlot_settled h hx)⟩, ?_⟩
  intro s i x playback bytes hslot hl hv
  refine ⟨_, (exec_missedSlot s).trans (congrArg _ (State.endSlot_eq hslot)),
    (exec_stationReport bytes s).trans (congrArg _ (State.receive_invalid hslot hl hv)), ?_⟩
  by_cases hx : x = .active
  · subst hx
    rw [show (s.settledAt i .active playback).dealMiss { station := i, linkAtStart := .active, playback := playback, settled := false } =
      (s.settledAt i .active playback).missSlot i from rfl]
    by_cases hm : (look s.bus.stations i).misses + 1 < 4
    · rw [State.missSlot_counts (s := s.settledAt i .active playback) hm]
      exact ⟨rfl, beside_change _ _ _, Beside.refl _ _, Beside.refl _ _, Beside.refl _ _, fun h => absurd rfl h,
        fun _ _ => ⟨look_change_self _ _ _, rfl, rfl, rfl, rfl⟩, fun _ h => absurd hm (Nat.not_lt.2 h)⟩
    · rw [State.missSlot_silent (s := s.settledAt i .active playback) (Nat.not_lt.1 hm)]
      have hleaves : LeavesCues s.store i s.cues (s.cues.leave s.store i) := CueGenerator.leave_leaves s.store i s.cues
      obtain ⟨hframe, -, -, hself, -⟩ := hleaves _ _ _ _ rfl rfl rfl Iff.rfl
      refine ⟨?_, beside_change _ _ _, beside_change _ _ _, beside_change _ _ _, beside_put _ _ _, fun h => absurd rfl h,
        fun _ h => absurd h hm, fun _ _ => ⟨look_change_self _ _ _, ?_, look_put_self _ _ _, look_change_self _ _ _, ?_, ?_, ?_,
          hleaves.gone.1, hleaves.gone.2, hleaves⟩⟩
      · dsimp only [State.settledAt]
        rw [hframe]
      · exact (look_change_self s.press i PressState.abandon).symm ▸ (look s.press i).abandon_abandoned
      · exact (congrArg StationCue.sound hself)
      · exact (congrArg StationCue.armed hself)
      · exact (congrArg StationCue.covering hself)
  · rw [State.dealMiss_other _ hx]
    exact ⟨rfl, Beside.refl _ _, Beside.refl _ _, Beside.refl _ _, Beside.refl _ _, fun _ => ⟨rfl, rfl, rfl, rfl, rfl⟩,
      fun h => absurd h hx, fun h => absurd h hx⟩

end Sys2Proof.Machine

/-! The phases of a press and a report's button part (R20 to R31). -/

namespace Sys2Proof.Machine

theorem PressState.advanceTo_eq (x : PressState) (tick moment : Tick) :
    x.advanceTo tick moment =
      if (tick - moment).toNat ≤ (tick - x.lastPoint).toNat then
        { x with
          lastPoint := moment
          heldTime := if x.phase = .idle then x.heldTime
            else min (x.heldTime + ((tick - x.lastPoint).toNat - (tick - moment).toNat)) 300000
          releaseAge := min (x.releaseAge + ((tick - x.lastPoint).toNat - (tick - moment).toNat)) 32768 }
      else x := rfl

/-! ## Edges and the level check -/

section Edges

variable {s : State} {i : Station}

theorem State.toMoment_eq (tick moment : Tick) :
    s.toMoment i tick moment = State.thresholds i { s with press := put s.press i ((look s.press i).advanceTo tick moment) } := rfl

theorem State.takeRelease_idle (h : (look s.press i).phase = .idle) (q : Option Tick) : s.takeRelease i q = s := by
  unfold State.takeRelease
  rw [h]

theorem State.takePress_idle (h : (look s.press i).phase = .idle) (stamp : Tick) :
    s.takePress i stamp = { s with press := put s.press i { look s.press i with
      phase := .down, stamp := some stamp, heldTime := 0, outcome := none, doublePending := false } } := by
  unfold State.takePress
  rw [State.takeRelease_idle h]
  rfl

/-- A press in progress first ends as by a release without a stamp (R24). -/
theorem State.takePress_ends (s : State) (i : Station) (stamp : Tick) :
    s.takePress i stamp = (s.takeRelease i none).takePress i stamp := by
  rw [State.takePress, State.takePress, State.takeRelease_idle (State.takeRelease_phase i none s)]

theorem State.takeEdges_none {r : Report} (hp : r.press = none) (hr : r.release = none) : s.takeEdges i r = s := by
  unfold State.takeEdges
  rw [hp, hr]

theorem State.takeEdges_press {r : Report} {a : Tick} (hp : r.press = some a) (hr : r.release = none) :
    s.takeEdges i r = (s.toMoment i r.tick a).takePress i a := by
  unfold State.takeEdges
  rw [hp, hr]
  rfl

theorem State.takeEdges_release {r : Report} {b : Tick} (hp : r.press = none) (hr : r.release = some b) :
    s.takeEdges i r = (s.toMoment i r.tick b).takeRelease i (some b) := by
  unfold State.takeEdges
  rw [hp, hr]
  rfl

theorem State.takeEdges_both {r : Report} {a b : Tick} (hp : r.press = some a) (hr : r.release = some b) :
    s.takeEdges i r =
      if (r.tick - a).toNat < (r.tick - b).toNat then
        (((s.toMoment i r.tick b).takeRelease i (some b)).toMoment i r.tick a).takePress i a
      else (((s.toMoment i r.tick a).takePress i a).toMoment i r.tick b).takeRelease i (some b) := by
  unfold State.takeEdges
  rw [hp, hr]
  rfl

theorem State.checkButton_eq (r : Report) :
    s.checkButton i r =
      if r.down = true then (if (look s.press i).phase = .idle then s.takePress i r.tick else s)
      else if (look s.press i).phase = .idle then s
      else s.takeRelease i none := by
  unfold State.checkButton
  cases r.down <;> cases (look s.press i).phase <;> rfl

end Edges

/-! ## Thresholds (R23) -/

/-- The first threshold: a press held for the noise width qualifies. -/
def State.takeNoise (i : Station) (p : StationProfile) (s : State) : State :=
  if (look s.press i).phase = .down ∧ p.noiseWidth ≤ (look s.press i).heldTime then s.qualify i else s

/-- The second threshold: a HELD press reaches the long threshold. -/
def State.takeLong (i : Station) (p : StationProfile) (s : State) : State :=
  if (look s.press i).phase = .held ∧ p.longThreshold ≤ (look s.press i).heldTime then s.reachLong i else s

/-- The third threshold: a qualified press reaches the stuck limit. -/
def State.takeStuck (i : Station) (p : StationProfile) (s : State) : State :=
  if ((look s.press i).phase = .held ∨ (look s.press i).phase = .long) ∧ p.stuckLimit * 1000 ≤ (look s.press i).heldTime then
    s.reachStuck i
  else s

section Thresholds

variable {s : State} {i : Station} {p : StationProfile}

theorem State.thresholds_eq : s.thresholds i =
    (((s.takeNoise i (s.store.station i)).takeLong i (s.store.station i)).takeStuck i (s.store.station i)) := rfl

theorem State.takeNoise_stays (h : (look s.press i).phase = .down → (look s.press i).heldTime < 4 * 2 ^ p.noiseCode) :
    s.takeNoise i p = s := if_neg fun hq => Nat.not_le.2 (h hq.1) hq.2

theorem State.takeLong_stays (h : (look s.press i).phase = .held → (look s.press i).heldTime < p.longThreshold) :
    s.takeLong i p = s := if_neg fun hq => Nat.not_le.2 (h hq.1) hq.2

theorem State.takeStuck_stays
    (h : (look s.press i).phase = .held ∨ (look s.press i).phase = .long → (look s.press i).heldTime < p.stuckLimit * 1000) :
    s.takeStuck i p = s := if_neg fun hq => Nat.not_le.2 (h hq.1) hq.2

/-- A press that qualifies goes on from what its qualification leaves. -/
theorem State.thresholds_qualify (hd : (look s.press i).phase = .down) (hn : 4 * 2 ^ (s.store.station i).noiseCode ≤ (look s.press i).heldTime)
    (hp : (look (s.qualify i).press i).phase ≠ .down) : s.thresholds i = (s.qualify i).thresholds i := by
  have hq : s.takeNoise i (s.store.station i) = s.qualify i := if_pos ⟨hd, hn⟩
  rw [State.thresholds_eq, State.thresholds_eq, hq, State.qualify_store, State.takeNoise_stays (s := s.qualify i) fun h => absurd h hp]

theorem State.thresholds_long (hh : (look s.press i).phase = .held) (hl : (s.store.station i).longThreshold ≤ (look s.press i).heldTime)
    (hp : (look (s.reachLong i).press i).phase = .long) : s.thresholds i = (s.reachLong i).thresholds i := by
  have hq : s.takeLong i (s.store.station i) = s.reachLong i := if_pos ⟨hh, hl⟩
  rw [State.thresholds_eq, State.thresholds_eq, State.takeNoise_stays (fun h => by rw [hh] at h; cases h), hq, State.reachLong_store,
    State.takeNoise_stays (s := s.reachLong i) (fun h => by rw [hp] at h; cases h),
    State.takeLong_stays (s := s.reachLong i) (fun h => by rw [hp] at h; cases h)]

theorem State.thresholds_stuck
    (h : (look s.press i).phase = .long ∨ (look s.press i).phase = .held ∧ (look s.press i).heldTime < (s.store.station i).longThreshold)
    (hl : (s.store.station i).stuckLimit * 1000 ≤ (look s.press i).heldTime) : s.thresholds i = s.reachStuck i := by
  have hd : (look s.press i).phase ≠ .down := by
    rcases h with h | ⟨h, -⟩ <;> rw [h] <;> decide
  have hq : s.takeStuck i (s.store.station i) = s.reachStuck i := if_pos ⟨h.symm.imp And.left id, hl⟩
  rw [State.thresholds_eq, State.takeNoise_stays (fun h => absurd h hd), State.takeLong_stays fun hh => ?_, hq]
  rcases h with h | ⟨-, h⟩
  · rw [h] at hh; cases hh
  · exact h

/-- Below every threshold nothing is taken. -/
theorem State.thresholds_below {x : PressState} (hx : x = look s.press i) (hp : p = s.store.station i)
    (h : x.phase = .idle ∨ x.phase = .stuck ∨ x.phase = .down ∧ x.heldTime < 4 * 2 ^ p.noiseCode ∨
        x.phase = .held ∧ x.heldTime < p.longThreshold ∧ x.heldTime < p.stuckLimit * 1000 ∨
        x.phase = .long ∧ x.heldTime < p.stuckLimit * 1000) : s.thresholds i = s := by
  subst hx hp
  have noise : (look s.press i).phase = .down → (look s.press i).heldTime < 4 * 2 ^ (s.store.station i).noiseCode := fun hd => by
    simpa [hd] using h
  have long : (look s.press i).phase = .held → (look s.press i).heldTime < (s.store.station i).longThreshold := fun hd => by
    simp only [hd, reduceCtorEq, false_and, false_or, true_and, or_false] at h
    exact h.1
  have stuck : (look s.press i).phase = .held ∨ (look s.press i).phase = .long →
      (look s.press i).heldTime < (s.store.station i).stuckLimit * 1000 := by
    rintro (hd | hd)
    · simp only [hd, reduceCtorEq, false_and, false_or, true_and, or_false] at h
      exact h.2
    · simpa [hd] using h
  rw [State.thresholds_eq, State.takeNoise_stays noise, State.takeLong_stays long, State.takeStuck_stays stuck]

/-! ## What each threshold does (R23, R27 to R30) -/

theorem PressState.capture_eq {x : PressState} {stamp : Tick} (h : x.stamp = some stamp) :
    x.capture = { x with previousEntry := x.lastEntry
                         lastEntry := some { press := stamp, release := none, ending := .opened } } := by
  unfold PressState.capture
  rw [h]

/-- A qualification, block by block. -/
theorem State.qualify_eq {stamp : Tick} (h : (look s.press i).stamp = some stamp) :
    ∃ answer, (s.table.register s.store i (s.store.station i).crossing) = ((s.qualify i).table, answer) ∧
      s.qualify i =
        { s with
          press := put s.press i { look s.press i with
            phase := .held, outcome := some answer, previousEntry := (look s.press i).lastEntry
            lastEntry := some { press := stamp, release := none, ending := .opened }
            doublePending := (look s.press i).doubleTest (s.store.station i) }
          table := (s.qualify i).table
          cues := { s.cues with stations := change s.cues.stations i fun v =>
            { v with armed := v.armed || decide (answer = .taken) } } } := by
  obtain ⟨u, answer, hu⟩ : ∃ u answer, s.table.register s.store i (s.store.station i).crossing = (u, answer) := ⟨_, _, rfl⟩
  refine ⟨answer, ?_, ?_⟩
  all_goals
    unfold State.qualify
    dsimp only [State.onPress]
    rw [hu]
    cases answer
  · rfl
  · rfl
  · simp [State.onCues, CueGenerator.onStation, change_eq_put, PressState.capture_eq h]
  · simp only [change_eq_put, PressState.capture_eq h, look_put_self, put_put, decide_false, Bool.or_false,
      reduceCtorEq]
    exact congrArg (fun v => ({ s with
      press := _, table := u, cues := { s.cues with stations := v } } : State)) (put_look_self s.cues.stations i).symm

theorem State.reachLong_eq :
    s.reachLong i =
      { s with
        press := change s.press i fun x => { x with phase := .long, doublePending := false }
        table := if (look s.press i).outcome = some .taken then s.table.upgrade s.store i else s.table } := by
  unfold State.reachLong
  cases h : (look s.press i).outcome with
  | none => rfl
  | some y => cases y <;> rfl

end Thresholds

/-! ## Releases (R25, R31) -/

section Release

variable {s : State} {i : Station} {q : Option Tick}

/-- The Cue Generator after a double press has asked for its information, where it can (R31). -/
theorem State.askInfo_eq : s.askInfo i = { s with cues := (s.askInfo i).cues } := by
  unfold State.askInfo
  split
  · split
    · rfl
    · rfl
  · rfl

theorem State.askInfo_asks {m : Message} (hm : (s.store.station i).infoMessage = some m)
    (hu : (look s.bus.stations i).features.infoUsable = true) :
    (s.askInfo i).cues =
      s.cues.enqueueInfo s.store (s.store.station i).corner { station := i, message := m, kind := .info } := by
  unfold State.askInfo
  rw [hm]
  exact congrArg State.cues (if_pos hu)

theorem State.askInfo_none
    (h : (s.store.station i).infoMessage = none ∨ (look s.bus.stations i).features.infoUsable = false) : s.askInfo i = s := by
  unfold State.askInfo
  split
  · next m hm =>
    rcases h with h | h
    · rw [hm] at h; cases h
    · exact if_neg (by rw [h]; exact Bool.false_ne_true)
  · rfl

theorem State.takeRelease_down (h : (look s.press i).phase = .down) :
    s.takeRelease i q = { s with press := change s.press i PressState.clear } := by
  unfold State.takeRelease
  rw [h]
  rfl

theorem State.takeRelease_held (h : (look s.press i).phase = .held) :
    s.takeRelease i q =
      { s with
        press := change s.press i fun x => (x.complete .held q).clear
        cues := if (look s.press i).doublePending = true then (s.askInfo i).cues else s.cues } := by
  unfold State.takeRelease
  rw [h]
  cases (look s.press i).doublePending with
  | true =>
    dsimp only
    rw [if_pos rfl, if_pos rfl, State.askInfo_eq]
    rfl
  | false => rfl

theorem State.takeRelease_long (h : (look s.press i).phase = .long) :
    s.takeRelease i q = { s with press := change s.press i fun x => (x.complete .long q).clear } := by
  unfold State.takeRelease
  rw [h]
  rfl

theorem State.takeRelease_stuck (h : (look s.press i).phase = .stuck) :
    s.takeRelease i q = { s with press := change s.press i fun x => { (x.complete .stuck q).clear with buttonFault := false } } := by
  unfold State.takeRelease
  rw [h]
  rfl

/-- A release changes the press of its station, and at most the Cue Generator besides. -/
theorem State.takeRelease_frame (i : Station) (q : Option Tick) (s : State) :
    s.takeRelease i q = { s with press := (s.takeRelease i q).press, cues := (s.takeRelease i q).cues } ∧
      Beside s.press (s.takeRelease i q).press i := by
  cases h : (look s.press i).phase with
  | idle => rw [State.takeRelease_idle h]; exact ⟨rfl, Beside.refl _ _⟩
  | down => rw [State.takeRelease_down h]; exact ⟨rfl, beside_change _ _ _⟩
  | held => rw [State.takeRelease_held h]; exact ⟨rfl, beside_change _ _ _⟩
  | long => rw [State.takeRelease_long h]; exact ⟨rfl, beside_change _ _ _⟩
  | stuck => rw [State.takeRelease_stuck h]; exact ⟨rfl, beside_change _ _ _⟩

/-- The Cue Generator is asked only at the release of a HELD press that is the second of a pair. -/
theorem State.takeRelease_cues (h : (look s.press i).phase ≠ .held ∨ (look s.press i).doublePending = false) :
    (s.takeRelease i q).cues = s.cues := by
  cases hp : (look s.press i).phase with
  | idle => rw [State.takeRelease_idle hp]
  | down => rw [State.takeRelease_down hp]
  | held =>
    rw [State.takeRelease_held hp]
    exact if_neg (by rw [h.resolve_left fun hn => hn hp]; exact Bool.false_ne_true)
  | long => rw [State.takeRelease_long hp]
  | stuck => rw [State.takeRelease_stuck hp]

theorem State.takeRelease_asks (h : (look s.press i).phase = .held) (hd : (look s.press i).doublePending = true) :
    (s.takeRelease i q).cues = (s.askInfo i).cues := by
  rw [State.takeRelease_held h]
  exact if_pos hd

/-- The end of a qualified press completes its capture entry (R25). -/
theorem PressState.complete_eq {x : PressState} {e : CaptureEntry} (h : x.lastEntry = some e) (how : CaptureEnding) :
    (x.complete how q).clear = { x with
      phase := .idle, stamp := none, heldTime := 0, outcome := none, doublePending := false
      lastEntry := some { e with release := q, ending := how }
      releaseAge := if q.isSome then 0 else 32768 } := by
  unfold PressState.complete PressState.clear
  rw [h]
  cases q <;> rfl

theorem State.takeRelease_completes {e : CaptureEntry} {how : CaptureEnding} (he : (look s.press i).lastEntry = some e)
    (h : (look s.press i).phase = .held ∧ how = .held ∨ (look s.press i).phase = .long ∧ how = .long ∨
      (look s.press i).phase = .stuck ∧ how = .stuck) :
    look (s.takeRelease i q).press i = { look s.press i with
      phase := .idle, stamp := none, heldTime := 0, outcome := none, doublePending := false
      lastEntry := some { e with release := q, ending := how }
      releaseAge := if q.isSome then 0 else 32768
      buttonFault := (look s.press i).buttonFault && decide (how ≠ .stuck) } := by
  rcases h with ⟨h, rfl⟩ | ⟨h, rfl⟩ | ⟨h, rfl⟩
  · rw [State.takeRelease_held h]
    refine (look_change_self _ _ _).trans ?_
    rw [PressState.complete_eq he]
    simp
  · rw [State.takeRelease_long h]
    refine (look_change_self _ _ _).trans ?_
    rw [PressState.complete_eq he]
    simp
  · rw [State.takeRelease_stuck h]
    refine (look_change_self _ _ _).trans ?_
    rw [PressState.complete_eq he]
    simp

end Release

/-- The double-press test, in words (R31). -/
theorem PressState.doubleTest_iff {x : PressState} {p : StationProfile} {stamp : Tick} {e : CaptureEntry} (hs : x.stamp = some stamp)
    (he : x.lastEntry = some e) :
    x.doubleTest p = true ↔ p.doubleWindow ≠ 0 ∧ x.releaseAge < 32768 ∧ e.ending = .held ∧
      ∃ r, e.release = some r ∧ (stamp - r).toNat ≤ p.doubleWindow := by
  unfold PressState.doubleTest
  rw [he, hs]
  dsimp only
  cases e.ending with
  | held =>
    cases e.release with
    | none => simp
    | some r =>
      rw [Bool.and_eq_true, Bool.and_eq_true, decide_eq_true_iff, decide_eq_true_iff, decide_eq_true_iff, and_assoc]
      exact and_congr_right fun _ => and_congr_right fun _ => ⟨fun h => ⟨rfl, r, rfl, h⟩, fun ⟨_, r', hr, h⟩ => by
        obtain rfl := Option.some.inj hr; exact h⟩
  | _ => simp

/-- Settles O49: a report's moments by its edges, a press's phases by the thresholds and releases. -/
theorem pressPhases : Obligations.PressPhases := by
  unfold Obligations.PressPhases
  rintro s i x p rfl rfl
  refine ⟨(look s.press i).advanceTo_eq, fun _ _ => State.toMoment_eq _ _,
    fun stamp => ⟨fun h => State.takePress_idle h stamp, s.takePress_ends i stamp⟩,
    fun r => ⟨fun hp hr => ?_, fun a hp hr => ?_, fun b hp hr => ?_, fun a b hp hr h => ?_, fun a b hp hr h => ?_,
      State.checkButton_eq r⟩,
    State.thresholds_below rfl rfl, fun stamp hd hs hn => ?_, fun hh hl => ?_, fun h hl => ?_,
    fun stamp e hs he => PressState.doubleTest_iff hs he, fun q => ?_⟩
  · rw [State.takeButton, State.takeEdges_none hp hr]
  · rw [State.takeButton, State.takeEdges_press hp hr]
  · rw [State.takeButton, State.takeEdges_release hp hr]
  · rw [State.takeButton, State.takeEdges_both hp hr, if_pos h]
  · rw [State.takeButton, State.takeEdges_both hp hr, if_neg (Nat.not_lt.2 h)]
  · obtain ⟨answer, hanswer, hq⟩ := State.qualify_eq hs
    have hpress : (s.qualify i).press = _ := congrArg State.press hq
    have hcues : (s.qualify i).cues = _ := congrArg State.cues hq
    have held : (look (s.qualify i).press i).phase ≠ .down := by
      rw [hpress]
      dsimp only
      rw [look_put_self]
      exact fun h => nomatch h
    refine ⟨s.qualify i, _, answer, State.thresholds_qualify hd hn held, hanswer, ?_, ?_, ?_, ?_, ?_⟩
    · rw [hq]
    · rw [hpress]; exact beside_put _ _ _
    · rw [hpress]; exact look_put_self _ _ _
    · rw [hcues]; exact beside_change _ _ _
    · rw [hcues]; exact look_change_self _ _ _
  · have hpress : (s.reachLong i).press = _ := congrArg State.press State.reachLong_eq
    have htable : (s.reachLong i).table = _ := congrArg State.table State.reachLong_eq
    have hlook : look (s.reachLong i).press i = { look s.press i with phase := .long, doublePending := false } := by
      rw [hpress]; exact look_change_self _ _ _
    refine ⟨s.reachLong i, State.thresholds_long hh hl (by rw [hlook]), ?_, ?_, hlook, htable⟩
    · rw [State.reachLong_eq]
    · rw [hpress]; exact beside_change _ _ _
  · exact ⟨s.reachStuck i, State.thresholds_stuck h hl, rfl, beside_change _ _ _, look_change_self _ _ _⟩
  · obtain ⟨hframe, hbeside⟩ := State.takeRelease_frame i q s
    refine ⟨_, rfl, hframe, hbeside, State.takeRelease_phase i q s, State.takeRelease_cues, fun hh hd => ⟨fun m hm hu => ?_, fun h => ?_⟩,
      fun h => State.takeRelease_idle h q, fun h => ?_, fun e how he h => State.takeRelease_completes he h⟩
    · rw [State.takeRelease_asks hh hd, State.askInfo_asks hm hu]
    · rw [State.takeRelease_asks hh hd, State.askInfo_none h]
    · rw [State.takeRelease_down h]
      exact look_change_self _ _ _

end Sys2Proof.Machine

/-! A report's button part as a whole: what it depends on, and what it leaves unchanged (R21 to R31). -/

namespace Sys2Proof.Machine

/-! ## What the button part depends on -/

/-- Two states that the button part of a station's report cannot tell apart: at the press and the Call Table, and, where `cues` is asked
for, at the Cue Generator too. -/
structure ButtonAlike (i : Station) (cues : Prop) (s t : State) : Prop where
  store : s.store = t.store
  press : s.press = t.press
  table : s.table = t.table
  cues : cues → s.cues = t.cues ∧ (look s.bus.stations i).features.infoUsable = (look t.bus.stations i).features.infoUsable

namespace ButtonAlike

variable {i : Station} {w : Prop} {s t : State}

theorem onPress (h : ButtonAlike i w s t) (f : PressState → PressState) : ButtonAlike i w (s.onPress i f) (t.onPress i f) :=
  ⟨h.store, congrArg (fun v => change v i f) h.press, h.table, h.cues⟩

theorem qualify (h : ButtonAlike i w s t) : ButtonAlike i w (s.qualify i) (t.qualify i) := by
  cases s
  cases t
  obtain ⟨h1, h2, h3, hc⟩ := h
  dsimp only at h1 h2 h3 hc
  subst h1 h2 h3
  unfold State.qualify
  dsimp only [State.onPress]
  split
  · exact ⟨rfl, rfl, rfl, fun hw =>
      ⟨congrArg (CueGenerator.onStation i fun v => { v with armed := true }) (hc hw).1, (hc hw).2⟩⟩
  · exact ⟨rfl, rfl, rfl, hc⟩

theorem reachLong (h : ButtonAlike i w s t) : ButtonAlike i w (s.reachLong i) (t.reachLong i) := by
  rw [State.reachLong_eq, State.reachLong_eq]
  exact ⟨h.store, by rw [h.press], by rw [h.press, h.table, h.store], h.cues⟩

theorem thresholds (h : ButtonAlike i w s t) : ButtonAlike i w (s.thresholds i) (t.thresholds i) := by
  have first : ButtonAlike i w (s.takeNoise i (s.store.station i)) (t.takeNoise i (t.store.station i)) := by
    unfold State.takeNoise
    rw [h.store, h.press]
    split
    · exact h.qualify
    · exact h
  have second : ButtonAlike i w ((s.takeNoise i (s.store.station i)).takeLong i (s.store.station i))
      ((t.takeNoise i (t.store.station i)).takeLong i (t.store.station i)) := by
    generalize s.takeNoise i (s.store.station i) = s' at *
    generalize t.takeNoise i (t.store.station i) = t' at *
    unfold State.takeLong
    rw [h.store, first.press]
    split
    · exact first.reachLong
    · exact first
  rw [State.thresholds_eq, State.thresholds_eq]
  generalize (s.takeNoise i (s.store.station i)).takeLong i (s.store.station i) = s' at *
  generalize (t.takeNoise i (t.store.station i)).takeLong i (t.store.station i) = t' at *
  unfold State.takeStuck
  rw [h.store, second.press]
  split
  · exact second.onPress _
  · exact second

theorem askInfo (h : ButtonAlike i w s t) : ButtonAlike i w (s.askInfo i) (t.askInfo i) := by
  rw [State.askInfo_eq, State.askInfo_eq (s := t)]
  refine ⟨h.store, h.press, h.table, fun hw => ⟨?_, (h.cues hw).2⟩⟩
  unfold State.askInfo
  rw [h.store, (h.cues hw).2]
  split
  · split
    · exact congrArg (CueGenerator.enqueueInfo t.store (t.store.station i).corner _) (h.cues hw).1
    · exact (h.cues hw).1
  · exact (h.cues hw).1

theorem takeRelease (h : ButtonAlike i w s t) (q : Option Tick) : ButtonAlike i w (s.takeRelease i q) (t.takeRelease i q) := by
  unfold State.takeRelease
  rw [h.press]
  split
  · exact h
  · exact h.onPress _
  · dsimp only
    split
    · exact h.askInfo.onPress _
    · exact h.onPress _
  · exact h.onPress _
  · exact h.onPress _

theorem takePress (h : ButtonAlike i w s t) (stamp : Tick) : ButtonAlike i w (s.takePress i stamp) (t.takePress i stamp) :=
  (h.takeRelease none).onPress _

theorem toMoment (h : ButtonAlike i w s t) (tick moment : Tick) :
    ButtonAlike i w (s.toMoment i tick moment) (t.toMoment i tick moment) := (h.onPress _).thresholds

theorem takeEdges (h : ButtonAlike i w s t) (r : Report) : ButtonAlike i w (s.takeEdges i r) (t.takeEdges i r) := by
  unfold State.takeEdges
  split
  · exact h
  · exact (h.toMoment _ _).takePress _
  · exact (h.toMoment _ _).takeRelease _
  · split
    · exact (((h.toMoment _ _).takeRelease _).toMoment _ _).takePress _
    · exact (((h.toMoment _ _).takePress _).toMoment _ _).takeRelease _

theorem takeButton (h : ButtonAlike i w s t) (r : Report) : ButtonAlike i w (s.takeButton i r) (t.takeButton i r) := by
  have moments := (h.takeEdges r).toMoment r.tick r.tick
  unfold State.takeButton
  rw [State.checkButton_eq, State.checkButton_eq, moments.press]
  split
  · split
    · exact moments.takePress _
    · exact moments
  · split
    · exact moments
    · exact moments.takeRelease _

end ButtonAlike

/-! ## What the button part leaves unchanged -/

/-- From s to t, the press of station i is acted on, with what it hands to the Call Table and the Cue Generator: a playback of its corner
goes on. -/
structure PressActed (i : Station) (s t : State) : Prop where
  frame : t = { s with
    press := t.press, table := t.table
    cues := { s.cues with stations := t.cues.stations, speech := t.cues.speech, nextSerial := t.cues.nextSerial } }
  press : Beside s.press t.press i
  playing : ∀ e since n, (look s.cues.speech (s.store.station i).corner).channel = .playing e since n →
    (look t.cues.speech (s.store.station i).corner).channel = .playing e since n

namespace PressActed

variable {i : Station} {s t u : State}

theorem refl (i : Station) (s : State) : PressActed i s s := ⟨rfl, Beside.refl _ _, fun _ _ _ => id⟩

theorem trans (h : PressActed i s t) (k : PressActed i t u) : PressActed i s u := by
  have hs : t.store = s.store := by rw [h.frame]
  refine ⟨?_, h.press.trans k.press, fun e since n hc => ?_⟩
  · rw [k.frame, h.frame]
  · have := k.playing e since n
    rw [hs] at this
    exact this (h.playing e since n hc)

theorem onPress (i : Station) (s : State) (f : PressState → PressState) : PressActed i s (s.onPress i f) :=
  ⟨rfl, beside_change _ _ _, fun _ _ _ => id⟩

theorem onTable (i : Station) (s : State) (f : CallTable → CallTable) : PressActed i s (s.onTable f) :=
  ⟨rfl, Beside.refl _ _, fun _ _ _ => id⟩

theorem qualify (i : Station) (s : State) : PressActed i s (s.qualify i) := by
  unfold State.qualify
  dsimp only
  split
  · exact ⟨rfl, (beside_change _ _ _).trans (beside_change _ _ _), fun _ _ _ => id⟩
  · exact ⟨rfl, (beside_change _ _ _).trans (beside_change _ _ _), fun _ _ _ => id⟩

theorem reachLong (i : Station) (s : State) : PressActed i s (s.reachLong i) := by
  rw [State.reachLong_eq]
  exact ⟨rfl, beside_change _ _ _, fun _ _ _ => id⟩

theorem thresholds (i : Station) (s : State) : PressActed i s (s.thresholds i) := by
  rw [State.thresholds_eq]
  have ite {b : Prop} [Decidable b] {v w : State} (h : PressActed i v w) : PressActed i v (if b then w else v) := by
    split
    · exact h
    · exact refl i v
  exact ((ite (qualify i s)).trans (ite (reachLong i _))).trans (ite (onPress i _ _))

/-- An INFO request leaves a playback of its corner. -/
theorem CueGenerator.enqueueInfo_playing {p : ProfileStore} {k : Corner} {g : CueGenerator} {e x : SpeechEntry} {since n : Nat}
    (h : (look g.speech k).channel = .playing x since n) : (look (g.enqueueInfo p k e).speech k).channel = .playing x since n := by
  by_cases there : InfoThere k e g
  · rw [CueGenerator.enqueueInfo_there there]; exact h
  · rw [CueGenerator.enqueueInfo_new there]
    have hc : (look (g.setQueue k ((look g.speech k).queue ++ [e])).speech k).channel = .playing x since n :=
      (congrArg CornerSpeech.channel (look_change_self _ _ _)).trans h
    split
    · rw [CueGenerator.startTest_busy (by rw [hc]; exact fun hi => nomatch hi)]
      exact hc
    · exact h

theorem askInfo (i : Station) (s : State) : PressActed i s (s.askInfo i) := by
  unfold State.askInfo
  split
  · next m _ =>
    split
    · refine ⟨?_, Beside.refl _ _, fun e since n h => CueGenerator.enqueueInfo_playing h⟩
      have hc := s.cues.enqueueInfo_corners s.store (s.store.station i).corner { station := i, message := m, kind := .info }
      have hg := s.cues.enqueueInfo_gates s.store (s.store.station i).corner { station := i, message := m, kind := .info }
      unfold State.onCues
      dsimp only
      generalize s.cues.enqueueInfo s.store (s.store.station i).corner _ = g at *
      cases g
      dsimp only at hc hg
      rw [hc, hg]
    · exact refl i s
  · exact refl i s

theorem takeRelease (i : Station) (q : Option Tick) (s : State) : PressActed i s (s.takeRelease i q) := by
  unfold State.takeRelease
  split
  · exact refl i s
  · exact onPress i s _
  · dsimp only
    split
    · exact (askInfo i s).trans (onPress i _ _)
    · exact onPress i s _
  · exact onPress i s _
  · exact onPress i s _

theorem takePress (i : Station) (stamp : Tick) (s : State) : PressActed i s (s.takePress i stamp) :=
  (takeRelease i none s).trans (onPress i _ _)

theorem toMoment (i : Station) (tick moment : Tick) (s : State) : PressActed i s (s.toMoment i tick moment) :=
  (onPress i s _).trans (thresholds i _)

theorem takeEdges (i : Station) (r : Report) (s : State) : PressActed i s (s.takeEdges i r) := by
  unfold State.takeEdges
  split
  · exact refl i s
  · exact (toMoment i _ _ s).trans (takePress i _ _)
  · exact (toMoment i _ _ s).trans (takeRelease i _ _)
  · split
    · exact ((toMoment i _ _ s).trans (takeRelease i _ _)).trans ((toMoment i _ _ _).trans (takePress i _ _))
    · exact ((toMoment i _ _ s).trans (takePress i _ _)).trans ((toMoment i _ _ _).trans (takeRelease i _ _))

theorem checkButton (i : Station) (r : Report) (s : State) : PressActed i s (s.checkButton i r) := by
  rw [State.checkButton_eq]
  split
  · split
    · exact takePress i _ s
    · exact refl i s
  · split
    · exact refl i s
    · exact takeRelease i _ s

theorem takeButton (i : Station) (r : Report) (s : State) : PressActed i s (s.takeButton i r) :=
  ((takeEdges i r s).trans (toMoment i _ _ _)).trans (checkButton i r _)

end PressActed

/-! ## Where the button part ends -/

section Point

variable (i : Station) (s : State)

theorem lastPoint_change {v : Vector PressState 48} {f : PressState → PressState} (hf : ∀ x, (f x).lastPoint = x.lastPoint) :
    (look (change v i f) i).lastPoint = (look v i).lastPoint := by rw [look_change_self, hf]

theorem State.qualify_lastPoint : (look (s.qualify i).press i).lastPoint = (look s.press i).lastPoint := by
  have hcap (x : PressState) : x.capture.lastPoint = x.lastPoint := by
    unfold PressState.capture
    split <;> rfl
  unfold State.qualify
  dsimp only
  split <;> simp [hcap]

theorem State.thresholds_lastPoint : (look (s.thresholds i).press i).lastPoint = (look s.press i).lastPoint := by
  have ite {b : Prop} [Decidable b] {v w : State} (h : (look w.press i).lastPoint = (look v.press i).lastPoint) :
      (look (if b then w else v).press i).lastPoint = (look v.press i).lastPoint := by
    split
    · exact h
    · rfl
  have long (u : State) : (look (u.reachLong i).press i).lastPoint = (look u.press i).lastPoint := by
    rw [State.reachLong_eq]
    exact lastPoint_change i fun _ => rfl
  have stuck (u : State) : (look (u.reachStuck i).press i).lastPoint = (look u.press i).lastPoint :=
    lastPoint_change i fun _ => rfl
  rw [State.thresholds_eq]
  exact (ite (stuck _)).trans ((ite (long _)).trans (ite (s.qualify_lastPoint i)))

theorem State.takeRelease_lastPoint (q : Option Tick) : (look (s.takeRelease i q).press i).lastPoint = (look s.press i).lastPoint := by
  cases h : (look s.press i).phase with
  | idle => rw [State.takeRelease_idle h]
  | down => rw [State.takeRelease_down h]; exact lastPoint_change i fun _ => rfl
  | held => rw [State.takeRelease_held h]; exact lastPoint_change i fun _ => rfl
  | long => rw [State.takeRelease_long h]; exact lastPoint_change i fun _ => rfl
  | stuck => rw [State.takeRelease_stuck h]; exact lastPoint_change i fun _ => rfl

theorem State.takePress_lastPoint (stamp : Tick) : (look (s.takePress i stamp).press i).lastPoint = (look s.press i).lastPoint :=
  (lastPoint_change i (f := fun x => { x with phase := .down, stamp := some stamp, heldTime := 0, outcome := none, doublePending := false })
    fun _ => rfl).trans (s.takeRelease_lastPoint i none)

theorem State.checkButton_lastPoint (r : Report) : (look (s.checkButton i r).press i).lastPoint = (look s.press i).lastPoint := by
  rw [State.checkButton_eq]
  split
  · split
    · exact s.takePress_lastPoint i r.tick
    · rfl
  · split
    · rfl
    · exact s.takeRelease_lastPoint i none

/-- The last moment of a report is its tick (R21). -/
theorem State.takeButton_lastPoint (r : Report) : (look (s.takeButton i r).press i).lastPoint = r.tick := by
  rw [State.takeButton, State.checkButton_lastPoint, State.toMoment_eq, State.thresholds_lastPoint]
  dsimp only
  rw [look_put_self, PressState.advanceTo_eq, if_pos]
  simp

/-- After a report the press is IDLE exactly where its button level is up (R26). -/
theorem State.takeButton_phase (r : Report) : (look (s.takeButton i r).press i).phase = .idle ↔ r.down = false := by
  rw [State.takeButton, State.checkButton_eq]
  generalize (s.takeEdges i r).toMoment i r.tick r.tick = u
  cases r.down with
  | true =>
    rw [if_pos rfl]
    split
    · next h =>
      rw [State.takePress_idle h]
      dsimp only
      rw [look_put_self]
      exact iff_of_false (fun h => nomatch h) fun h => nomatch h
    · next h => exact iff_of_false h fun h => nomatch h
  | false =>
    rw [if_neg Bool.false_ne_true]
    split
    · next h => exact ⟨fun _ => rfl, fun _ => h⟩
    · exact ⟨fun _ => rfl, fun _ => State.takeRelease_phase i none u⟩

end Point

end Sys2Proof.Machine

/-! What a report's 12 bytes say (R163, R195). -/

namespace Sys2Proof.Machine

/-- The sum of the bytes, as a number (R162, R163). -/
theorem byteSum_toNat (l : List Byte) : (byteSum l).toNat = (l.map BitVec.toNat).sum % 256 := by
  have go (l : List Byte) (a : Byte) : (l.foldl (· + ·) a).toNat = (a.toNat + (l.map BitVec.toNat).sum) % 256 := by
    induction l generalizing a with
    | nil =>
      have := a.isLt
      simp only [List.foldl_nil, List.map_nil, List.sum_nil]
      omega
    | cons b l ih =>
      simp only [List.foldl_cons, List.map_cons, List.sum_cons, ih, BitVec.toNat_add]
      omega
  have h := go l 0
  simpa [byteSum] using h

theorem byteSum_eq_zero (l : List Byte) : byteSum l = 0 ↔ (l.map BitVec.toNat).sum % 256 = 0 := by
  rw [← byteSum_toNat, ← BitVec.toNat_inj]
  rfl

theorem word16_toNat (hi lo : Byte) : (word16 hi lo).toNat = hi.toNat * 256 + lo.toNat := by
  rw [word16, BitVec.toNat_append, ← Nat.shiftLeft_add_eq_or_of_lt lo.isLt, Nat.shiftLeft_eq]

/-- A stamp field as the formats lay it out: read where its presence bit is set, and then checked against the tick (R20, R195). -/
theorem stampReads_iff (present : Bool) (v tick : Tick) (x : Option Tick) :
    StampReads present v.toNat tick x ↔ x = (if present then some v else none) ∧ stampPasses tick x = true := by
  cases present with
  | false =>
    refine ⟨fun h => ?_, fun h => ⟨fun _ => h.1, (fun hp => nomatch hp)⟩⟩
    have hx := h.1 rfl
    subst hx
    exact ⟨rfl, rfl⟩
  | true =>
    constructor
    · intro h
      obtain ⟨t, rfl, hv, hb⟩ := h.2 rfl
      obtain rfl := BitVec.eq_of_toNat_eq hv
      exact ⟨rfl, decide_eq_true hb⟩
    · rintro ⟨rfl, hb⟩
      exact ⟨(fun hp => nomatch hp), fun _ => ⟨v, rfl, rfl, of_decide_eq_true hb⟩⟩

/-- The capability part of a report (R195). -/
theorem offer_iff (present : Bool) (o : Offer) (x : Option Offer) :
    ((present = false → x = none) ∧ (present = true → x = some o)) ↔ x = if present then some o else none := by
  cases present <;> simp

/-- A report is valid exactly where its bytes sum to 0 and its stamps pass, and is read as the formats lay it out. -/
theorem validReport_iff {b : List Byte} (hb : b.length = 12) (r : Report) : validReport b = some r ↔ ReportReads b r := by
  obtain ⟨t1, t0, flags, health, p1, p0, r1, r0, sample, cap, count, check, rfl⟩ :
      ∃ t1 t0 flags health p1 p0 r1 r0 sample cap count check,
        b = [t1, t0, flags, health, p1, p0, r1, r0, sample, cap, count, check] := by
    match b, hb with
    | [t1, t0, flags, health, p1, p0, r1, r0, sample, cap, count, check], _ => exact ⟨_, _, _, _, _, _, _, _, _, _, _, _, rfl⟩
  have word (hi lo : Byte) : hi.toNat * 256 + lo.toNat = (word16 hi lo).toNat := (word16_toNat hi lo).symm
  obtain ⟨tick, down, press, release, smp, quiet, done, sf, tf, offer⟩ := r
  unfold ReportReads validReport
  simp only [List.getD_cons_succ, List.getD_cons_zero, byteSum_eq_zero, parseReport]
  simp only [bytesAt, List.drop_succ_cons, List.drop_zero, List.take_succ_cons, List.take_zero, List.foldl_cons, List.foldl_nil,
    Nat.zero_mul, Nat.zero_add, word, stampReads_iff, offer_iff]
  rw [Option.ite_none_right_eq_some, Option.ite_none_right_eq_some, Option.some.injEq, Report.mk.injEq, Bool.and_eq_true, BitVec.toNat_inj]
  constructor
  · rintro ⟨hsum, ⟨hp, hr⟩, rfl, rfl, rfl, rfl, rfl, rfl, rfl, rfl, rfl, rfl⟩
    exact ⟨hsum, rfl, rfl, ⟨rfl, hp⟩, ⟨rfl, hr⟩, rfl, rfl, rfl, rfl, rfl, rfl⟩
  · rintro ⟨hsum, rfl, rfl, ⟨rfl, hp⟩, ⟨rfl, hr⟩, rfl, rfl, rfl, rfl, rfl, rfl⟩
    exact ⟨hsum, ⟨hp, hr⟩, rfl, rfl, rfl, rfl, rfl, rfl, rfl, rfl, rfl, rfl⟩

/-! ## The parts of a taken report (R164) -/

/-- The Cue Generator changed in nothing but its stations, its speech and its serial numbers. -/
theorem CueGenerator.frame_of {g h : CueGenerator} (hc : h.corners = g.corners) (hg : h.gates = g.gates) :
    h = { g with stations := h.stations, speech := h.speech, nextSerial := h.nextSerial } := by
  cases h
  dsimp only at hc hg
  rw [hc, hg]

section Parts

variable (i : Station) (r : Report) (playback : Option Nat) (s : State)

theorem State.takeAmbient_frame : s.takeAmbient i r = { s with levels := (s.takeAmbient i r).levels } := by
  unfold State.takeAmbient
  split <;> rfl

theorem State.takeAmbient_some {v : Byte} (h : r.sample = some v) :
    (s.takeAmbient i r).levels = change s.levels i (LevelState.takeSample (look s.bus.stations i).features.microphone r.quiet
      (look s.cues.corners (s.store.station i).corner).cleanGiven v.toNat) := by
  unfold State.takeAmbient
  rw [h]
  rfl

theorem State.takeAmbient_none (h : r.sample = none) : s.takeAmbient i r = s := by
  unfold State.takeAmbient
  rw [h]

theorem State.takeAmbient_beside : Beside s.levels (s.takeAmbient i r).levels i := by
  cases h : r.sample with
  | none => rw [State.takeAmbient_none i r s h]; exact Beside.refl _ _
  | some v => rw [State.takeAmbient_some i r s h]; exact beside_change _ _ _

/-- Under a USED window a sample is ignored (R144). -/
theorem State.takeAmbient_used (h : r.sample = none ∨ (look s.levels i).windowOpen = false) :
    look (s.takeAmbient i r).levels i = look s.levels i := by
  cases hs : r.sample with
  | none => rw [State.takeAmbient_none i r s hs]
  | some v =>
    have hw := h.resolve_left (by rw [hs]; exact fun h => nomatch h)
    rw [State.takeAmbient_some i r s hs, look_change_self]
    exact if_neg (by rw [hw]; exact Bool.false_ne_true)

theorem State.takeMessageDone_frame : s.takeMessageDone i r playback = { s with cues := (s.takeMessageDone i r playback).cues } := by
  unfold State.takeMessageDone
  split
  · split <;> rfl
  · rfl

theorem State.takeMessageDone_not (h : r.messageDone = false ∨ playback = none) : s.takeMessageDone i r playback = s := by
  unfold State.takeMessageDone
  split
  · rw [h.resolve_right fun h => nomatch h]
    rfl
  · rfl

theorem State.takeMessageDone_done {n : Nat} (h : r.messageDone = true) :
    (s.takeMessageDone i r (some n)).cues = s.cues.messageDone s.store (s.store.station i).corner n := by
  unfold State.takeMessageDone
  dsimp only
  rw [h]
  rfl

/-- The parts of a report, block by block. -/
theorem State.takeParts_eq :
    s.takeParts i r playback =
      { s with
        press := (s.takeButton i r).press, table := (s.takeButton i r).table
        levels := ((s.takeButton i r).takeAmbient i r).levels
        cues := ((s.takeButton i r).takeMessageDone i r playback).cues } := by
  have hd : (((s.takeButton i r).takeAmbient i r).takeMessageDone i r playback).cues = ((s.takeButton i r).takeMessageDone i r playback).cues := by
    unfold State.takeMessageDone
    split
    · split
      · simp
      · simp
    · simp
  unfold State.takeParts
  rw [State.takeMessageDone_frame, hd, State.takeAmbient_frame, (PressActed.takeButton i r s).frame]

end Parts

section Done

variable {p : ProfileStore} {k : Corner} {g : CueGenerator} {n : Nat}

theorem CueGenerator.messageDone_other (h : ∀ e since, (look g.speech k).channel ≠ .playing e since n) : g.messageDone p k n = g := by
  unfold CueGenerator.messageDone
  split
  · rfl
  · next e since m hc => exact if_neg fun hm : m = n => h e since (hm ▸ hc)
  · rfl

theorem CueGenerator.messageDone_plays {e : SpeechEntry} {since : Nat} (h : (look g.speech k).channel = .playing e since n) :
    g.messageDone p k n = g.endPlayback p k .played := by
  unfold CueGenerator.messageDone
  rw [h]
  exact if_pos rfl

end Done

/-- A sample under an OPEN window: admitted, or the first reason against it (R145, R146). -/
theorem LevelState.takeSample_open {x : LevelState} (h : x.windowOpen = true) (microphone quiet clean : Bool) (v : Nat) :
    x.takeSample microphone quiet clean v =
      if microphone = true ∧ quiet = true ∧ clean = true then
        { x with windowOpen := false, lastSample := some (max 30 (min 110 v)), outcome := .admitted
                 ambient := filterAmbient x.ambient (max 30 (min 110 v)) }
      else
        { x with windowOpen := false, lastSample := some (max 30 (min 110 v))
                 outcome := if microphone = false then .noMicrophone else if quiet = false then .notQuiet else .notClean } := by
  have hv : clamp Config.sampleMin Config.sampleMax v = max 30 (min 110 v) := clamp_eq (by decide)
  unfold LevelState.takeSample
  rw [if_pos h, hv]
  cases microphone with
  | false => rfl
  | true =>
    cases quiet with
    | false => rfl
    | true => cases clean <;> rfl

end Sys2Proof.Machine

/-! A report taken from an ACTIVE station (R164). -/

namespace Sys2Proof.Machine

/-- The link of a station as a taken report leaves it (R164). -/
def StationLink.reported (r : Report) (l : StationLink) : StationLink :=
  { l with misses := 0, lastTick := some r.tick, speakerFault := r.speakerFault, tactileFault := r.tactileFault }

/-- The slot of station i settled and its report's link part taken. -/
def State.reported (s : State) (i : Station) (x : LinkState) (playback : Option Nat) (r : Report) : State :=
  (s.settledAt i x playback).onLink i (StationLink.reported r)

section Taken

variable {s : State} {i : Station} {playback : Option Nat} {r : Report}

theorem State.receive_taken {bytes : List Byte} (h : InSlot s i .active playback) (hl : 12 ≤ bytes.length)
    (hv : validReport (bytes.take 12) = some r) (ho : r.offer = none) :
    s.receive bytes = (s.reported i .active playback r).takeParts i r playback := by
  rw [State.receive_valid h hl hv]
  unfold State.dealReport State.takeReport
  dsimp only
  rw [ho]
  rfl

theorem State.receive_ignored {bytes : List Byte} {x : LinkState} (h : InSlot s i x playback) (hx : x ≠ .active)
    (hl : 12 ≤ bytes.length) (hv : validReport (bytes.take 12) = some r) (ho : r.offer = none) :
    s.receive bytes = s.settledAt i x playback := by
  rw [State.receive_valid h hl hv]
  unfold State.dealReport
  cases x with
  | active => exact absurd rfl hx
  | absent => dsimp only; rw [ho]
  | silent => dsimp only; rw [ho]
  | disabled => rfl

variable (s i playback r)

/-- The slot and the link part do not change what the button part does. -/
theorem State.reported_alike (x : LinkState) : ButtonAlike i True (s.reported i x playback r) s :=
  ⟨rfl, rfl, rfl, fun _ => ⟨rfl, congrArg (fun l => l.features.infoUsable) (look_change_self s.bus.stations i _)⟩⟩

/-- The playing channel of the station's corner after a taken report: its playback goes on, or is PLAYED (R135). -/
theorem State.taken_playing {e : SpeechEntry} {since n : Nat}
    (hc : (look s.cues.speech (s.store.station i).corner).channel = .playing e since n) :
    (r.messageDone = true → playback = some n → 0 < (s.store.corner (s.store.station i).corner).gap →
      (look ((s.takeButton i r).takeMessageDone i r playback).cues.speech (s.store.station i).corner).channel =
          .gap (s.store.corner (s.store.station i).corner).gap ∧
        (look ((s.takeButton i r).takeMessageDone i r playback).cues.stations e.station).result = .played) ∧
    (r.messageDone = false ∨ playback ≠ some n →
      (look ((s.takeButton i r).takeMessageDone i r playback).cues.speech (s.store.station i).corner).channel =
        .playing e since n) := by
  have hb := (PressActed.takeButton i r s).playing e since n hc
  refine ⟨?_, fun h => ?_⟩
  · rintro hd rfl hgap
    obtain ⟨w, m, he, -, hentered, -⟩ := CueGenerator.endPlayback_playing s.store .played hb
    rw [State.takeMessageDone_done i r _ hd, State.takeButton_store, CueGenerator.messageDone_plays hb, he]
    refine ⟨?_, congrArg StationCue.result (look_change_self _ _ _)⟩
    rw [hentered hgap]
    exact congrArg CornerSpeech.channel (look_put_self _ _ _)
  · cases hd : r.messageDone with
    | false => rw [State.takeMessageDone_not i r playback _ (.inl hd)]; exact hb
    | true =>
      cases playback with
      | none => rw [State.takeMessageDone_not i r none _ (.inr rfl)]; exact hb
      | some m =>
        have hm : m ≠ n := fun hm => h.elim (fun h => by rw [hd] at h; cases h) fun h => h (congrArg some hm)
        rw [State.takeMessageDone_done i r _ hd, State.takeButton_store, CueGenerator.messageDone_other]
        · exact hb
        · intro e' since' h'
          exact hm (Channel.playing.inj (h'.symm.trans hb)).2.2

/-- The "message done" part changes nothing but the speech of a corner and a station's result. -/
theorem State.takeMessageDone_cues :
    (s.takeMessageDone i r playback).cues.corners = s.cues.corners ∧ (s.takeMessageDone i r playback).cues.gates = s.cues.gates := by
  unfold State.takeMessageDone
  split
  · split
    · exact ⟨by simp, by simp⟩
    · exact ⟨rfl, rfl⟩
  · exact ⟨rfl, rfl⟩

/-- Beside the Cue Generator and what it reads, "message done" does the same in two states alike. -/
theorem State.takeMessageDone_congr {t : State} (hs : s.store = t.store) (hc : s.cues = t.cues) :
    (s.takeMessageDone i r playback).cues = (t.takeMessageDone i r playback).cues := by
  unfold State.takeMessageDone
  split
  · split
    · dsimp only [State.onCues]
      rw [hs, hc]
    · exact hc
  · exact hc

end Taken

section Blocks

variable (s : State) (i : Station) (playback : Option Nat) (r : Report)

/-- What a taken report leaves of the Cue Generator: nothing but stations, speech and serial numbers are changed. -/
theorem State.taken_cues :
    ((s.takeButton i r).takeMessageDone i r playback).cues =
      { s.cues with
        stations := ((s.takeButton i r).takeMessageDone i r playback).cues.stations
        speech := ((s.takeButton i r).takeMessageDone i r playback).cues.speech
        nextSerial := ((s.takeButton i r).takeMessageDone i r playback).cues.nextSerial } := by
  obtain ⟨hc, hg⟩ := (s.takeButton i r).takeMessageDone_cues i playback r
  have hb := (PressActed.takeButton i r s).frame
  exact CueGenerator.frame_of (hc.trans (congrArg (fun u => u.cues.corners) hb)) (hg.trans (congrArg (fun u => u.cues.gates) hb))

/-- The ambient part of a report reads the link's features, the clean flag and the level as they stood. -/
theorem State.takeButton_ambient {v : Byte} (h : r.sample = some v) :
    look ((s.takeButton i r).takeAmbient i r).levels i =
      (look s.levels i).takeSample (look s.bus.stations i).features.microphone r.quiet
        (look s.cues.corners (s.store.station i).corner).cleanGiven v.toNat := by
  have hc : (s.takeButton i r).cues.corners = s.cues.corners :=
    congrArg (fun u => u.cues.corners) (PressActed.takeButton i r s).frame
  rw [State.takeAmbient_some i r _ h, look_change_self, State.takeButton_levels, State.takeButton_bus, State.takeButton_store, hc]

theorem State.takeButton_used (h : r.sample = none ∨ (look s.levels i).windowOpen = false) :
    look ((s.takeButton i r).takeAmbient i r).levels i = look s.levels i := by
  rw [State.takeAmbient_used i r _ (by rw [State.takeButton_levels]; exact h), State.takeButton_levels]

theorem State.takeButton_beside : Beside s.levels ((s.takeButton i r).takeAmbient i r).levels i := by
  have h := (s.takeButton i r).takeAmbient_beside i r
  rw [State.takeButton_levels] at h
  exact h

/-- A taken report, block by block. -/
theorem State.taken_eq :
    (s.reported i .active playback r).takeParts i r playback =
      { s with
        bus := { s.bus with
          slot := some { station := i, linkAtStart := .active, playback := playback, settled := true }
          stations := change s.bus.stations i (StationLink.reported r) }
        press := (s.takeButton i r).press, table := (s.takeButton i r).table
        levels := (((s.reported i .active playback r).takeButton i r).takeAmbient i r).levels
        cues := ((s.takeButton i r).takeMessageDone i r playback).cues } := by
  have halike := (s.reported_alike i playback r .active).takeButton r
  have hdone := State.takeMessageDone_congr _ i playback r halike.store (halike.cues trivial).1
  rw [State.takeParts_eq, halike.press, halike.table, hdone]
  rfl

end Blocks

/-- Settles O45: the bytes' layout; then a report's parts, each at its own block, over the slot settled. -/
theorem reportTaken : Obligations.ReportTaken := by
  unfold Obligations.ReportTaken
  refine ⟨fun b r hb => validReport_iff hb r, fun s i x playback bytes hslot => ⟨fun hl => congrArg _ (State.receive_short bytes hl),
    fun v _ => congrArg _ (State.receive_settled rfl rfl bytes), congrArg _ (State.receive_none rfl bytes), fun r hl hv ho => ⟨?_,
      fun hx => ⟨_, (exec_stationReport bytes s).trans (congrArg _ (State.receive_ignored hslot hx hl hv ho)), rfl⟩⟩⟩⟩
  rintro rfl
  have hlink : look (s.reported i .active playback r).bus.stations i = (look s.bus.stations i).reported r := look_change_self _ _ _
  have hframe := s.taken_cues i playback r
  have hused := State.takeButton_used (s.reported i .active playback r) i r
  have hsample (v : Byte) (hs : r.sample = some v) := (s.reported i .active playback r).takeButton_ambient i r hs
  have hbeside := State.takeButton_beside (s.reported i .active playback r) i r
  have hplaying (e : SpeechEntry) (since n : Nat) (hc : _) := s.taken_playing i playback r (e := e) (since := since) (n := n) hc
  have hnot (h : r.messageDone = false ∨ playback = none) := congrArg State.cues (State.takeMessageDone_not i r playback (s.takeButton i r) h)
  have hpoint := s.takeButton_lastPoint i r
  have hphase := s.takeButton_phase i r
  have hpress := (PressActed.takeButton i r s).press
  have hdone (n : Nat) (hp : playback = some n) (hd : r.messageDone = true) :
      ((s.takeButton i r).takeMessageDone i r playback).cues =
        (s.takeButton i r).cues.messageDone s.store (s.store.station i).corner n := by
    rw [hp, State.takeMessageDone_done i r _ hd, State.takeButton_store]
  refine ⟨_, (exec_stationReport bytes s).trans (congrArg _ ((State.receive_taken hslot hl hv ho).trans (s.taken_eq i playback r))), ?_⟩
  rw [hlink] at hsample
  generalize (((s.reported i .active playback r).takeButton i r).takeAmbient i r).levels = levels at *
  generalize (s.takeButton i r).takeMessageDone i r playback = u at *
  generalize s.takeButton i r = b at *
  refine ⟨?_, look_change_self _ _ _, beside_change _ _ _, hpress, hbeside, rfl, rfl, hnot,
    fun n hd hp => hdone n hp hd, fun n hp hidle => ?_, hpoint, hphase, hplaying, hused, fun v hs hw => ⟨_, _, rfl, rfl, ?_⟩⟩
  · rw [hframe]
  · cases hd : r.messageDone with
    | false => exact hnot (.inl hd)
    | true => exact (hdone n hp hd).trans (CueGenerator.messageDone_other hidle)
  · exact (hsample v hs).trans (LevelState.takeSample_open hw _ _ _ _)

end Sys2Proof.Machine

/-! A report with a capability part: joining and rejoining (R168, R169). -/

namespace Sys2Proof.Machine

theorem PressState.abandon_abandon (x : PressState) : x.abandon.abandon = x.abandon := by
  have h (e : CaptureEntry) : (if (if e.ending = .opened then { e with release := none, ending := .abandoned } else e).ending = .opened then
      { (if e.ending = .opened then { e with release := none, ending := .abandoned } else e) with release := none, ending := .abandoned }
      else if e.ending = .opened then { e with release := none, ending := .abandoned } else e) =
      if e.ending = .opened then { e with release := none, ending := .abandoned } else e := by
    by_cases he : e.ending = .opened
    · rw [if_pos he, if_neg (fun h => nomatch h)]
    · rw [if_neg he, if_neg he]
  simp only [PressState.abandon, PressState.clear, Option.map_map]
  congr 1
  exact congrArg (fun f => x.lastEntry.map f) (funext h)

/-- A join at the Level Tracker: the ambient of a quiet street, and its target as the level (R153). -/
theorem LevelState.join_eq (p : StationProfile) (x : LevelState) :
    x.join p = { x with ambient := 960, windowOpen := false
                        output := some (clamp x.minimum x.maximum (60 + p.margin)) } := by
  simp only [LevelState.join, LevelState.target, Config.joinAmbient]

/-- The link of a station as a join leaves it (R168). -/
def StationLink.joined (p : StationProfile) (r : Report) (o : Offer) (l : StationLink) : StationLink :=
  { l with state := .active, misses := 0, offered := some o, features := resolve p o, speakerFault := r.speakerFault
           tactileFault := r.tactileFault, lastTick := some r.tick, joinedNotice := true }

/-- The press of a station as a join begins it afresh (R168). -/
def PressState.joined (tick : Tick) (x : PressState) : PressState := { x.abandon with lastPoint := tick }

section Joining

variable (s : State) (i : Station) (x : LinkState) (playback : Option Nat) (r : Report) (o : Offer) (g : CueGenerator)

/-- A join up to the parts of its report, over the Cue Generator g. -/
def State.joining : State :=
  { s with
    bus := { s.bus with
      slot := some { station := i, linkAtStart := x, playback := playback, settled := true }
      stations := change s.bus.stations i (StationLink.joined (s.store.station i) r o) }
    press := change s.press i (PressState.joined r.tick)
    table := { s.table with targets := put s.table.targets i .none }
    cues := g
    levels := change s.levels i (LevelState.join (s.store.station i)) }

/-- A join of a station that was not ACTIVE. -/
theorem State.join_eq : (s.settledAt i x playback).join i r o = (s.joining i x playback r o s.cues).takeParts i r none := by
  have h : ((((((s.settledAt i x playback).onLink i fun l =>
      { l with state := .active, misses := 0, lastTick := some r.tick, offered := some o, features := resolve (s.store.station i) o,
               speakerFault := r.speakerFault, tactileFault := r.tactileFault }).onLevel i
        (LevelState.join (s.store.station i))).abandonPress i).onPress i fun x => { x with lastPoint := r.tick }).onLink i fun l =>
          { l with joinedNotice := true }) = s.joining i x playback r o s.cues := by
    simp only [State.onLink, State.onLevel, State.abandonPress, State.onPress, State.onTable, CallTable.aim,
      State.settledAt, State.joining, change_eq_put, look_put_self, put_put]
    rfl
  exact congrArg (fun u => u.takeParts i r none) h

/-- A rejoin: the station first leaves ACTIVE (R169). -/
theorem State.rejoin_eq :
    ((s.settledAt i x playback).leaveActive i).join i r o =
      (s.joining i x playback r o (s.cues.leave s.store i)).takeParts i r none := by
  have h : (((((((s.settledAt i x playback).leaveActive i).onLink i fun l =>
      { l with state := .active, misses := 0, lastTick := some r.tick, offered := some o, features := resolve (s.store.station i) o,
               speakerFault := r.speakerFault, tactileFault := r.tactileFault }).onLevel i
        (LevelState.join (s.store.station i))).abandonPress i).onPress i fun x => { x with lastPoint := r.tick }).onLink i fun l =>
          { l with joinedNotice := true }) = s.joining i x playback r o (s.cues.leave s.store i) := by
    simp only [State.leaveActive_eq, State.onLink, State.onLevel, State.abandonPress, State.onPress, State.onTable,
      CallTable.aim, State.settledAt, State.joining, change_eq_put, look_put_self, put_put, PressState.abandon_abandon]
    rfl
  exact congrArg (fun u => u.takeParts i r none) h

end Joining

section Parts

variable (s : State) (i : Station) (x : LinkState) (playback : Option Nat) (r : Report) (o : Offer) (g : CueGenerator)

/-- A join's report has its button part and, the window being used, nothing else. -/
theorem State.joining_parts :
    (s.joining i x playback r o g).takeParts i r none =
      { s.joining i x playback r o g with
        press := ((s.joining i x playback r o g).takeButton i r).press
        table := ((s.joining i x playback r o g).takeButton i r).table
        levels := (((s.joining i x playback r o g).takeButton i r).takeAmbient i r).levels
        cues := ((s.joining i x playback r o g).takeButton i r).cues } := by
  rw [State.takeParts_eq, State.takeMessageDone_not i r none _ (.inr rfl)]

theorem State.joining_link :
    look (s.joining i x playback r o g).bus.stations i = (look s.bus.stations i).joined (s.store.station i) r o := look_change_self _ _ _

theorem State.joining_level :
    look (((s.joining i x playback r o g).takeButton i r).takeAmbient i r).levels i = (look s.levels i).join (s.store.station i) := by
  have hl : look (s.joining i x playback r o g).levels i = (look s.levels i).join (s.store.station i) := look_change_self _ _ _
  rw [State.takeButton_used _ i r (.inr (by rw [hl]; rfl)), hl]

/-- The button part of a join sees the press, the table and, over the same Cue Generator, the link that the join has made. -/
theorem State.joining_alike :
    (∀ u : State, u = { s with
        press := put s.press i { (look s.press i).abandon with lastPoint := r.tick }
        table := { s.table with targets := put s.table.targets i .none } } →
      ButtonAlike i False (s.joining i x playback r o g) u) ∧
    ∀ u : State, u = { s with
        bus := { s.bus with stations := (s.joining i x playback r o g).bus.stations }
        press := put s.press i { (look s.press i).abandon with lastPoint := r.tick }
        table := { s.table with targets := put s.table.targets i .none }
        cues := g } →
      ButtonAlike i True (s.joining i x playback r o g) u := by
  refine ⟨?_, ?_⟩
  · rintro u rfl
    exact ⟨rfl, rfl, rfl, False.elim⟩
  · rintro u rfl
    exact ⟨rfl, rfl, rfl, fun _ => ⟨rfl, rfl⟩⟩

end Parts

/-- Settles O46: a join and a rejoin differ in the Cue Generator alone. -/
theorem stationJoins : Obligations.StationJoins := by
  unfold Obligations.StationJoins
  intro s i x playback bytes r o hslot hx hl hv ho
  obtain ⟨g, hreceive, hother, hactive, hgframe⟩ : ∃ g, s.receive bytes = (s.joining i x playback r o g).takeParts i r none ∧
      (x ≠ .active → g = s.cues) ∧ (x = .active → LeavesCues s.store i s.cues g) ∧
        g = { s.cues with stations := g.stations, speech := g.speech, nextSerial := g.nextSerial } := by
    have hdeal := State.receive_valid hslot hl hv
    unfold State.dealReport State.takeReport at hdeal
    dsimp only at hdeal
    rw [ho] at hdeal
    have hleaves := CueGenerator.leave_leaves s.store i s.cues
    cases x with
    | active => exact ⟨_, hdeal.trans (s.rejoin_eq i .active playback r o), fun h => absurd rfl h, fun _ => hleaves,
        (hleaves _ _ _ _ rfl rfl rfl Iff.rfl).1⟩
    | absent => exact ⟨_, hdeal.trans (s.join_eq i .absent playback r o), fun _ => rfl, (fun h => nomatch h), rfl⟩
    | silent => exact ⟨_, hdeal.trans (s.join_eq i .silent playback r o), fun _ => rfl, (fun h => nomatch h), rfl⟩
    | disabled => exact absurd rfl hx
  have hlink := s.joining_link i x playback r o g
  have hlevel := s.joining_level i x playback r o g
  obtain ⟨halike, halikeCues⟩ := s.joining_alike i x playback r o g
  have hpoint := (s.joining i x playback r o g).takeButton_lastPoint i r
  have hphase := (s.joining i x playback r o g).takeButton_phase i r
  have hbeside := (s.joining i x playback r o g).takeButton_beside i r
  have hacted := PressActed.takeButton i r (s.joining i x playback r o g)
  have hframe : ((s.joining i x playback r o g).takeButton i r).cues = _ := congrArg State.cues hacted.frame
  have hpress : Beside s.press ((s.joining i x playback r o g).takeButton i r).press i := (beside_change _ _ _).trans hacted.press
  have hlevels : Beside s.levels (((s.joining i x playback r o g).takeButton i r).takeAmbient i r).levels i :=
    (beside_change _ _ _).trans hbeside
  refine ⟨_, (exec_stationReport bytes s).trans (congrArg _ (hreceive.trans (s.joining_parts i x playback r o g))), ?_⟩
  have hsame (u : State) (hu : _) := (halike u hu).takeButton r
  have hsameCues (u : State) (hu : _) := (halikeCues u hu).takeButton r
  clear hacted hbeside halike halikeCues hreceive
  generalize (((s.joining i x playback r o g).takeButton i r).takeAmbient i r).levels = levels at *
  generalize (s.joining i x playback r o g).takeButton i r = b at *
  refine ⟨?_, hlink, beside_change _ _ _, hpress, hlevels, hlevel.trans (LevelState.join_eq _ _), (look s.press i).abandon_abandoned,
    fun u hu => ⟨(hsame u hu).press, (hsame u hu).table⟩, ⟨g, hother, hactive, fun u hu => ((hsameCues u hu).cues trivial).1⟩, hpoint, hphase⟩
  rw [hframe]
  dsimp only [State.joining]
  rw [hgframe]

end Sys2Proof.Machine

/-! STATION_TRANSFER (R10, R11, R125, R171). -/

namespace Sys2Proof.Machine

/-! ## The transfer point -/

theorem Channel.playingFor_iff (x : Channel) (i : Station) :
    x.playingFor i = false ↔ ∀ e since n, x = .playing e since n → e.station ≠ i := by
  refine ⟨?_, Channel.playingFor_other⟩
  rintro h e since n rfl
  exact beq_eq_false_iff_ne.1 h

theorem stationTransferPoint_iff (s : State) (i : Station) : s.stationTransferPoint i = true ↔ StationAtRest s i := by
  unfold State.stationTransferPoint StationAtRest
  rw [Bool.and_eq_true, Bool.and_eq_true, Option.isNone_iff_eq_none, servingSlot_eq_none, Bool.not_eq_true', Channel.playingFor_iff,
    beq_iff_eq, and_assoc]

theorem State.testStation_stays {s : State} {i : Station} (h : (look s.store.stations i).pending = none ∨ ¬ StationAtRest s i) :
    s.testStation i = s := by
  unfold State.testStation
  split
  · rfl
  · next new hp => exact if_neg fun hb => (h.resolve_left (by rw [hp]; exact fun h => nomatch h)) ((stationTransferPoint_iff s i).1 hb)

theorem State.testStation_moves {s : State} {i : Station} {new : StationProfile} (hp : (look s.store.stations i).pending = some new)
    (hr : StationAtRest s i) : s.testStation i = s.transferStation i new := by
  unfold State.testStation
  rw [hp]
  exact if_pos ((stationTransferPoint_iff s i).2 hr)

/-! ## Entries removed once or twice -/

section Drop

variable {k : Corner} {i : Station} {out : SpeechEntry → Bool} {g : CueGenerator}

/-- What the removal of a station's entries leaves, beside its frame. -/
theorem CueGenerator.dropEntries_result :
    ((∃ e ∈ (look g.speech k).queue, e.station = i ∧ out e = true) →
      (g.dropEntries k i out).stations = change g.stations i fun x => { x with result := .dropped }) ∧
    ((∀ e ∈ (look g.speech k).queue, e.station = i → out e = false) → (g.dropEntries k i out).stations = g.stations) :=
  ⟨CueGenerator.dropEntries_some, fun h => by rw [CueGenerator.dropEntries_none h]⟩

/-- Removing all of a station's entries after some of them is removing them all. -/
theorem CueGenerator.dropEntries_all :
    (g.dropEntries k i out).dropEntries k i (fun _ => true) = g.dropEntries k i fun _ => true := by
  have hq (e : SpeechEntry) : e ∈ (look (g.dropEntries k i out).speech k).queue ↔
      e ∈ (look g.speech k).queue ∧ ¬ (e.station = i ∧ out e = true) := by
    rw [CueGenerator.dropEntries_look]
    simp only [List.mem_filter]
    grind
  have speech : ((g.dropEntries k i out).dropEntries k i fun _ => true).speech = (g.dropEntries k i fun _ => true).speech := by
    refine table_ext fun j => ?_
    simp only [CueGenerator.dropEntries_look, List.filter_filter]
    congr 2
    funext e
    by_cases hj : j = k
    · by_cases he : e.station = i <;> simp [hj, he]
    · simp [hj]
  have stations : ((g.dropEntries k i out).dropEntries k i fun _ => true).stations = (g.dropEntries k i fun _ => true).stations := by
    by_cases hsome : ∃ e ∈ (look g.speech k).queue, e.station = i ∧ out e = true
    · have first := CueGenerator.dropEntries_some hsome
      obtain ⟨e, he, hs, -⟩ := hsome
      rw [CueGenerator.dropEntries_some (g := g) (out := fun _ => true) ⟨e, he, hs, rfl⟩]
      by_cases again : ∃ e ∈ (look (g.dropEntries k i out).speech k).queue, e.station = i
      · obtain ⟨e', he', hs'⟩ := again
        rw [CueGenerator.dropEntries_some (out := fun _ => true) ⟨e', he', hs', rfl⟩, first]
        simp [change_eq_put]
      · rw [CueGenerator.dropEntries_none (out := fun _ => true) fun e' he' hs' => absurd ⟨e', he', hs'⟩ again, first]
    · have none (e : SpeechEntry) (he : e ∈ (look g.speech k).queue) (hs : e.station = i) : out e = false := by
        cases ho : out e with
        | false => rfl
        | true => exact absurd ⟨e, he, hs, ho⟩ hsome
      rw [CueGenerator.dropEntries_none none]
  rw [CueGenerator.dropEntries_frame, CueGenerator.dropEntries_frame (g := g) (out := fun _ => true), speech, stations,
    CueGenerator.dropEntries_frame]

end Drop

/-! ## Step 1, at the Station Bus Controller (R11) -/

section Link

variable {s : State} {i : Station} {new : StationProfile}

theorem State.transferLink_leaves (ho : (s.store.station i).enabled = true) (hn : new.enabled = false) (ha : s.linkState i = .active) :
    s.transferLink i new =
      { s with
        press := change s.press i PressState.abandon
        table := { s.table with targets := put s.table.targets i .none }
        cues := s.cues.leave s.store i
        levels := change s.levels i LevelState.leave
        bus := { s.bus with stations := change s.bus.stations i fun l => { l with state := .disabled, beyond := false, misses := 0 } } } := by
  have hc : (s.store.station i).enabled = true ∧ ¬ new.enabled = true := ⟨ho, by rw [hn]; exact Bool.false_ne_true⟩
  have ha' : (look s.bus.stations i).state = .active := ha
  refine (if_pos hc).trans ?_
  rw [if_pos ha', State.leaveActive_eq]
  simp only [State.onLink, change_eq_put, look_put_self, put_put]

theorem State.transferLink_disables (ho : (s.store.station i).enabled = true) (hn : new.enabled = false) (ha : s.linkState i ≠ .active) :
    s.transferLink i new =
      { s with bus := { s.bus with
        stations := change s.bus.stations i fun l => { l with state := .disabled, beyond := false, misses := 0 } } } := by
  have hc : (s.store.station i).enabled = true ∧ ¬ new.enabled = true := ⟨ho, by rw [hn]; exact Bool.false_ne_true⟩
  have ha' : ¬ (look s.bus.stations i).state = .active := ha
  refine (if_pos hc).trans ?_
  rw [if_neg ha']
  rfl

theorem State.transferLink_enables (ho : (s.store.station i).enabled = false) (hn : new.enabled = true) :
    s.transferLink i new =
      { s with bus := { s.bus with
        stations := change s.bus.stations i fun l => { l with state := .absent, beyond := decide (s.bus.frameLength ≤ i.val) } } } := by
  have ho' : ¬ (s.store.station i).enabled = true := by rw [ho]; exact Bool.false_ne_true
  exact (if_neg fun h => ho' h.1).trans (if_pos ⟨ho', hn⟩)

theorem State.transferLink_resolves {o : Offer} (ho : (s.store.station i).enabled = true) (hn : new.enabled = true)
    (ha : s.linkState i = .active) (hf : (look s.bus.stations i).offered = some o) :
    s.transferLink i new =
      { s with
        bus := { s.bus with stations := change s.bus.stations i fun l => { l with features := resolve new o } }
        cues := s.cues.dropEntries (s.store.station i).corner i (staleInfo (resolve new o) new) } := by
  have ha' : (look s.bus.stations i).state = .active := ha
  unfold State.transferLink
  dsimp only
  rw [if_neg fun h => h.2 hn, if_neg fun h => h.1 ho, if_pos ⟨hn, ha'⟩, hf]
  rfl

theorem State.transferLink_stays (ho : (s.store.station i).enabled = new.enabled)
    (h : new.enabled = false ∨ s.linkState i ≠ .active ∨ (look s.bus.stations i).offered = none) : s.transferLink i new = s := by
  unfold State.transferLink
  dsimp only
  rw [if_neg fun h => h.2 (ho ▸ h.1), if_neg fun h => h.1 (ho ▸ h.2)]
  split
  · next hc =>
    rcases h with h | h | h
    · rw [h] at hc; exact absurd hc.1 Bool.false_ne_true
    · exact absurd hc.2 h
    · rw [h]
  · rfl

end Link

theorem staleInfo_iff (f : Features) (p : StationProfile) (e : SpeechEntry) :
    staleInfo f p e = true ↔ e.kind = .info ∧ (f.infoUsable = false ∨ p.infoMessage ≠ some e.message) := by
  simp [staleInfo]

/-- The entries that a re-resolution takes away (R171). -/
def StaleAt (s : State) (i : Station) (new : StationProfile) (e : SpeechEntry) : Prop :=
  (s.store.station i).enabled = true ∧ new.enabled = true ∧ s.linkState i = .active ∧ e.kind = .info ∧
    ∃ o, (look s.bus.stations i).offered = some o ∧ ((resolve new o).infoUsable = false ∨ new.infoMessage ≠ some e.message)

/-- What step 1 of a station transfer leaves, from s to u (R11). -/
structure LinkMoved (s : State) (i : Station) (new : StationProfile) (u : State) : Prop where
  frame : u = { s with
    bus := { s.bus with stations := u.bus.stations }, press := u.press, table := { s.table with targets := u.table.targets }
    cues := { s.cues with stations := u.cues.stations, speech := u.cues.speech, nextSerial := u.cues.nextSerial }
    levels := u.levels }
  links : Beside s.bus.stations u.bus.stations i
  presses : Beside s.press u.press i
  levels : Beside s.levels u.levels i
  targets : Beside s.table.targets u.table.targets i
  cueStations : Beside s.cues.stations u.cues.stations i
  speech : Beside s.cues.speech u.cues.speech (s.store.station i).corner
  ambient : (look u.levels i).ambient = (look s.levels i).ambient
  disabled : (s.store.station i).enabled = true → new.enabled = false →
    look u.bus.stations i = { look s.bus.stations i with state := .disabled, beyond := false, misses := 0 }
  enabled : (s.store.station i).enabled = false → new.enabled = true →
    look u.bus.stations i = { look s.bus.stations i with state := .absent, beyond := decide (s.bus.frameLength ≤ i.val) }
  resolved : (s.store.station i).enabled = true → new.enabled = true → s.linkState i = .active →
    ∀ o, (look s.bus.stations i).offered = some o → look u.bus.stations i = { look s.bus.stations i with features := resolve new o }
  unlinked : (s.store.station i).enabled = new.enabled →
    new.enabled = false ∨ s.linkState i ≠ .active ∨ (look s.bus.stations i).offered = none → u.bus.stations = s.bus.stations
  leaves : (s.store.station i).enabled = true → new.enabled = false → s.linkState i = .active →
    PressAbandoned (look s.press i) (look u.press i) ∧ look u.table.targets i = .none ∧
      look u.levels i = (look s.levels i).leave ∧ LeavesCues s.store i s.cues u.cues
  stays : (s.store.station i).enabled = false ∨ new.enabled = true ∨ s.linkState i ≠ .active →
    u.press = s.press ∧ u.table.targets = s.table.targets ∧ u.levels = s.levels ∧
      ∃ stale, (∀ e, stale e = true ↔ StaleAt s i new e) ∧
        u.cues = s.cues.dropEntries (s.store.station i).corner i stale

section Moved

variable {s : State} {i : Station} {new : StationProfile}

/-- Where nothing is stale, no entry is removed. -/
theorem stale_none {g : CueGenerator} {k : Corner} (h : ∀ e, ¬ StaleAt s i new e) :
    ∃ stale, (∀ e, stale e = true ↔ StaleAt s i new e) ∧ g = g.dropEntries k i stale :=
  ⟨fun _ => false, fun e => iff_of_false Bool.false_ne_true (h e), (CueGenerator.dropEntries_none fun _ _ _ => rfl).symm⟩

/-- A change of the link alone. -/
theorem LinkMoved.link (f : StationLink → StationLink)
    (hleaves : ¬ ((s.store.station i).enabled = true ∧ new.enabled = false ∧ s.linkState i = .active))
    (hstale : ∀ e, ¬ StaleAt s i new e)
    (disabled : (s.store.station i).enabled = true → new.enabled = false →
      f (look s.bus.stations i) = { look s.bus.stations i with state := .disabled, beyond := false, misses := 0 })
    (enabled : (s.store.station i).enabled = false → new.enabled = true →
      f (look s.bus.stations i) = { look s.bus.stations i with state := .absent, beyond := decide (s.bus.frameLength ≤ i.val) })
    (differ : (s.store.station i).enabled ≠ new.enabled) :
    LinkMoved s i new { s with bus := { s.bus with stations := change s.bus.stations i f } } where
  frame := rfl
  links := beside_change _ _ _
  presses := Beside.refl _ _
  levels := Beside.refl _ _
  targets := Beside.refl _ _
  cueStations := Beside.refl _ _
  speech := Beside.refl _ _
  ambient := rfl
  disabled h h' := (look_change_self _ _ _).trans (disabled h h')
  enabled h h' := (look_change_self _ _ _).trans (enabled h h')
  resolved h h' := absurd (h.trans h'.symm) differ
  unlinked h := absurd h differ
  leaves h h' ha := absurd ⟨h, h', ha⟩ hleaves
  stays _ := ⟨rfl, rfl, rfl, stale_none hstale⟩

/-- A station that is disabled while ACTIVE leaves ACTIVE. -/
theorem State.transferLink_movedLeaving (ho : (s.store.station i).enabled = true) (hn : new.enabled = false)
    (ha : s.linkState i = .active) : LinkMoved s i new (s.transferLink i new) := by
  have hleaves := CueGenerator.leave_leaves s.store i s.cues
  obtain ⟨hframe, hstations, hspeech, -⟩ := hleaves _ _ _ _ rfl rfl rfl Iff.rfl
  rw [State.transferLink_leaves ho hn ha]
  refine ⟨?_, beside_change _ _ _, beside_change _ _ _, beside_change _ _ _, beside_put _ _ _, hstations, hspeech, ?_,
    fun _ _ => look_change_self _ _ _, fun h => ?_, fun _ h => ?_, fun h => ?_, fun _ _ _ => ⟨?_, look_put_self _ _ _,
      look_change_self _ _ _, hleaves⟩, fun h => ?_⟩
  · dsimp only
    rw [hframe]
  · dsimp only
    rw [look_change_self]
    rfl
  · rw [ho] at h; cases h
  · rw [hn] at h; cases h
  · rw [ho, hn] at h; cases h
  · exact (look_change_self s.press i PressState.abandon).symm ▸ (look s.press i).abandon_abandoned
  · rcases h with h | h | h
    · rw [ho] at h; cases h
    · rw [hn] at h; cases h
    · exact absurd ha h

/-- An ACTIVE station that stays enabled is resolved again without a join. -/
theorem State.transferLink_movedResolving {o : Offer} (ho : (s.store.station i).enabled = true) (hn : new.enabled = true)
    (ha : s.linkState i = .active) (hf : (look s.bus.stations i).offered = some o) : LinkMoved s i new (s.transferLink i new) := by
  have hstale (e : SpeechEntry) : staleInfo (resolve new o) new e = true ↔ StaleAt s i new e := by
    rw [staleInfo_iff]
    refine ⟨fun h => ⟨ho, hn, ha, h.1, o, hf, h.2⟩, ?_⟩
    rintro ⟨-, -, -, hk, o', hf', h⟩
    obtain rfl := Option.some.inj (hf.symm.trans hf')
    exact ⟨hk, h⟩
  have hstations : Beside s.cues.stations
      (s.cues.dropEntries (s.store.station i).corner i (staleInfo (resolve new o) new)).stations i := by
    unfold CueGenerator.dropEntries
    dsimp only
    split
    · exact beside_change _ _ _
    · exact Beside.refl _ _
  have hspeech : Beside s.cues.speech
      (s.cues.dropEntries (s.store.station i).corner i (staleInfo (resolve new o) new)).speech (s.store.station i).corner := by
    intro j hj
    rw [CueGenerator.dropEntries_look]
    simp [hj]
  rw [State.transferLink_resolves ho hn ha hf]
  refine ⟨?_, beside_change _ _ _, Beside.refl _ _, Beside.refl _ _, Beside.refl _ _, hstations, hspeech, rfl, fun _ h => ?_, fun h => ?_,
    fun _ _ _ o' ho' => ?_, fun _ h => ?_, fun _ h => ?_, fun _ => ⟨rfl, rfl, rfl, _, hstale, rfl⟩⟩
  · dsimp only
    rw [CueGenerator.dropEntries_frame]
  · rw [hn] at h; cases h
  · rw [ho] at h; cases h
  · obtain rfl := Option.some.inj (hf.symm.trans ho')
    exact look_change_self _ _ _
  · rcases h with h | h | h
    · rw [hn] at h; cases h
    · exact absurd ha h
    · rw [hf] at h; cases h
  · rw [hn] at h; cases h

/-- Step 1 where it has nothing to do. -/
theorem LinkMoved.none (ho : (s.store.station i).enabled = new.enabled)
    (h : new.enabled = false ∨ s.linkState i ≠ .active ∨ (look s.bus.stations i).offered = .none) : LinkMoved s i new s := by
  have hstale (e : SpeechEntry) : ¬ StaleAt s i new e := by
    rintro ⟨-, hn, ha, -, o, hf, -⟩
    rcases h with h | h | h
    · rw [hn] at h; cases h
    · exact absurd ha h
    · rw [hf] at h; cases h
  refine ⟨rfl, Beside.refl _ _, Beside.refl _ _, Beside.refl _ _, Beside.refl _ _, Beside.refl _ _, Beside.refl _ _, rfl, fun h1 h2 => ?_,
    fun h1 h2 => ?_, fun _ hn ha o hf => ?_, fun _ _ => rfl, fun h1 h2 => ?_, fun _ => ⟨rfl, rfl, rfl, stale_none hstale⟩⟩
  · rw [ho, h2] at h1; cases h1
  · rw [ho, h2] at h1; cases h1
  · rcases h with h | h | h
    · rw [hn] at h; cases h
    · exact absurd ha h
    · rw [hf] at h; cases h
  · rw [ho, h2] at h1; cases h1

/-- Step 1 of a station transfer, by what enables and disables. -/
theorem State.transferLink_moved (s : State) (i : Station) (new : StationProfile) : LinkMoved s i new (s.transferLink i new) := by
  by_cases hne : (s.store.station i).enabled = new.enabled
  · by_cases h : new.enabled = false ∨ s.linkState i ≠ .active ∨ (look s.bus.stations i).offered = .none
    · rw [State.transferLink_stays hne h]
      exact LinkMoved.none hne h
    · obtain ⟨hn, h⟩ := not_or.1 h
      obtain ⟨ha, hf⟩ := not_or.1 h
      obtain ⟨o, hf⟩ := Option.ne_none_iff_exists'.1 hf
      have hn := Bool.eq_true_of_not_eq_false hn
      exact State.transferLink_movedResolving (hne.trans hn) hn (not_not.1 ha) hf
  · have hstale (e : SpeechEntry) : ¬ StaleAt s i new e := fun h => hne (h.1.trans h.2.1.symm)
    cases ho : (s.store.station i).enabled with
    | true =>
      have hn : new.enabled = false := Bool.eq_false_of_not_eq_true fun hn => hne (ho.trans hn.symm)
      by_cases ha : s.linkState i = .active
      · exact State.transferLink_movedLeaving ho hn ha
      · rw [State.transferLink_disables ho hn ha]
        exact LinkMoved.link _ (fun h => ha h.2.2) hstale (fun _ _ => rfl) (fun h => by rw [ho] at h; cases h) hne
    | false =>
      have hn : new.enabled = true := Bool.eq_true_of_not_eq_false fun hn => hne (ho.trans hn.symm)
      rw [State.transferLink_enables ho hn]
      exact LinkMoved.link _ (fun h => by rw [ho] at h; cases h.1) hstale (fun h => by rw [ho] at h; cases h) (fun _ _ => rfl) hne

end Moved

end Sys2Proof.Machine

/-! STATION_TRANSFER, its later steps (R11, R59, R125). -/

namespace Sys2Proof.Machine

/-! ## The calls of the old crossing (R59) -/

section Reassign

variable (t : CallTable) (i : Station) (c : Crossing)

theorem CallTable.reassign_targets : (t.reassign i c).targets = t.targets := by
  unfold CallTable.reassign
  dsimp only
  split <;> rfl

theorem CallTable.reassign_memos : (t.reassign i c).memos = change t.memos c (Option.map (takeOutOfMemo i)) := by
  unfold CallTable.reassign
  dsimp only
  split <;> rfl

theorem CallTable.reassign_records_none (h : ¬ HasRecord t c CallState.isWaiting) : (t.reassign i c).records = t.records := by
  unfold CallTable.reassign
  rw [waitingSlot_eq_none.2 h]

theorem CallTable.reassign_records_some {k : RecordSlot} {r : CallRecord} (h : OnlyRecord t c CallState.isWaiting k r) :
    (t.reassign i c).records = (t.edit k (takeOutOfRecord i)).records := by
  unfold CallTable.reassign
  rw [h.waitingSlot]

variable {i}

/-- What a requesting set and its count are without the station (R59). -/
theorem takeOutOfRecord_fields (r : CallRecord) :
    (takeOutOfRecord i r).stations = r.stations.filter (fun j => decide (j ≠ i)) ∧
      ((takeOutOfRecord i r).stations ≠ [] → (takeOutOfRecord i r).pressCount = r.pressCount) ∧
      (i ∈ r.stations → (takeOutOfRecord i r).stations = [] → (takeOutOfRecord i r).pressCount = 0) ∧
      (takeOutOfRecord i r).state = r.state ∧ (takeOutOfRecord i r).origin = r.origin ∧ (takeOutOfRecord i r).kind = r.kind ∧
      (takeOutOfRecord i r).registeredAt = r.registeredAt ∧ (i ∈ r.stations → (takeOutOfRecord i r).seen = false) ∧
      (i ∉ r.stations → takeOutOfRecord i r = r) := by
  unfold takeOutOfRecord
  by_cases h : i ∈ r.stations
  · rw [if_pos (List.contains_iff_mem.2 h)]
    refine ⟨rfl, fun hne => if_neg ?_, fun _ he => if_pos ?_, rfl, rfl, rfl, rfl, fun _ => rfl, fun hn => absurd h hn⟩
    · exact fun he => hne (List.isEmpty_iff.1 he)
    · exact List.isEmpty_iff.2 he
  · rw [if_neg fun hc => h (List.contains_iff_mem.1 hc)]
    refine ⟨(List.filter_eq_self.2 fun j hj => ?_).symm, fun _ => rfl, fun hi => absurd hi h, rfl, rfl, rfl, rfl, fun hi => absurd hi h,
      fun _ => rfl⟩
    exact decide_eq_true fun hji => h (hji ▸ hj)

theorem takeOutOfMemo_fields (m : Memo) :
    (takeOutOfMemo i m).stations = m.stations.filter (fun j => decide (j ≠ i)) ∧ (takeOutOfMemo i m).since = m.since ∧
      (takeOutOfMemo i m).origin = m.origin ∧ (takeOutOfMemo i m).kind = m.kind ∧
      ((takeOutOfMemo i m).stations ≠ [] → (takeOutOfMemo i m).count = m.count) ∧
      (i ∈ m.stations → (takeOutOfMemo i m).stations = [] → (takeOutOfMemo i m).count = 0) ∧
      (i ∉ m.stations → takeOutOfMemo i m = m) := by
  unfold takeOutOfMemo
  by_cases h : i ∈ m.stations
  · rw [if_pos (List.contains_iff_mem.2 h)]
    refine ⟨rfl, rfl, rfl, rfl, fun hne => if_neg ?_, fun _ he => if_pos ?_, fun hn => absurd h hn⟩
    · exact fun he => hne (List.isEmpty_iff.1 he)
    · exact List.isEmpty_iff.2 he
  · rw [if_neg fun hc => h (List.contains_iff_mem.1 hc)]
    refine ⟨(List.filter_eq_self.2 fun j hj => ?_).symm, rfl, rfl, rfl, fun _ => rfl, fun hi => absurd hi h, fun _ => rfl⟩
    exact decide_eq_true fun hji => h (hji ▸ hj)

end Reassign

/-! ## The transfer as a whole -/

section Transfer

variable (s : State) (i : Station) (new : StationProfile)

/-- The cue state of a station whose corner changes (R125). -/
def StationCue.rearmed (x : StationCue) : StationCue := { x with armed := x.armed || x.covering, covering := false }

/-- The level of a station under its new profile (R149, R144). -/
def LevelState.reranged (new : StationProfile) (m : StreetMode) (same : Bool) (x : LevelState) : LevelState :=
  { x.setRange new m with windowOpen := x.windowOpen && same }

/-- A station transfer over what its first step leaves, block by block (R11). -/
theorem State.transferStation_eq {u : State} (hu : s.transferLink i new = u) (hs : u.store = s.store) :
    s.transferStation i new =
      { u with
        store := { s.store with stations := put s.store.stations i { active := new, pending := none } }
        table := if new.crossing = (s.store.station i).crossing then u.table
          else u.table.reassign i (s.store.station i).crossing
        cues := if new.corner = (s.store.station i).corner then u.cues
          else (u.cues.dropEntries (s.store.station i).corner i fun _ => true).onStation i StationCue.rearmed
        levels := change u.levels i
          (LevelState.reranged new s.store.mode (decide (new.corner = (s.store.station i).corner))) } := by
  unfold State.transferStation
  dsimp only
  rw [hu]
  cases u
  dsimp only at hs
  subst hs
  split <;> split <;> rfl

end Transfer

/-! ## The Cue Generator after a transfer -/

/-- What the later steps make of the Cue Generator g: entries and the acknowledgement of a station whose corner changes (R125). -/
def CueGenerator.recornered (k : Corner) (i : Station) (same : Bool) (g : CueGenerator) : CueGenerator :=
  if same then g else (g.dropEntries k i fun _ => true).onStation i StationCue.rearmed

section Recornered

variable {g : CueGenerator} {k : Corner} {i : Station}

theorem CueGenerator.dropEntries_beside (k : Corner) (i : Station) (out : SpeechEntry → Bool) (g : CueGenerator) :
    Beside g.speech (g.dropEntries k i out).speech k ∧ Beside g.stations (g.dropEntries k i out).stations i := by
  refine ⟨fun j hj => ?_, ?_⟩
  · rw [CueGenerator.dropEntries_look]
    simp [hj]
  · unfold CueGenerator.dropEntries
    dsimp only
    split
    · exact beside_change _ _ _
    · exact Beside.refl _ _

theorem CueGenerator.recornered_frame (k : Corner) (i : Station) (same : Bool) (g : CueGenerator) :
    g.recornered k i same =
        { g with stations := (g.recornered k i same).stations, speech := (g.recornered k i same).speech } ∧
      Beside g.speech (g.recornered k i same).speech k ∧ Beside g.stations (g.recornered k i same).stations i := by
  obtain ⟨hspeech, hstations⟩ := g.dropEntries_beside k i fun _ => true
  cases same with
  | true => exact ⟨rfl, Beside.refl _ _, Beside.refl _ _⟩
  | false =>
    refine ⟨?_, hspeech, hstations.trans (beside_change _ _ _)⟩
    unfold CueGenerator.recornered CueGenerator.onStation
    rw [if_neg Bool.false_ne_true, CueGenerator.dropEntries_frame]

/-- A station whose corner changes has no entry left at the old one. -/
theorem CueGenerator.recornered_gone {x : SpeechEntry} (hx : x ∈ (look (g.recornered k i false).speech k).queue) : x.station ≠ i := by
  have hx : x ∈ (look (g.dropEntries k i fun _ => true).speech k).queue := hx
  rw [CueGenerator.dropEntries_look] at hx
  simpa using (List.mem_filter.1 hx).2

/-- Once the station has left ACTIVE, the later steps find nothing to do at the Cue Generator. -/
theorem CueGenerator.recornered_left (same : Bool) (hq : ∀ e ∈ (look g.speech k).queue, e.station ≠ i)
    (hs : (look g.stations i).armed = false ∧ (look g.stations i).covering = false) : g.recornered k i same = g := by
  cases same with
  | true => rfl
  | false =>
    have hcue : (look g.stations i).rearmed = look g.stations i := by
      obtain ⟨ha, hc⟩ := hs
      generalize look g.stations i = x at *
      cases x
      dsimp only at ha hc
      rw [ha, hc]
      rfl
    have hst : change g.stations i StationCue.rearmed = g.stations := by rw [change_eq_put, hcue, put_look_self]
    refine (if_neg Bool.false_ne_true).trans ?_
    rw [CueGenerator.dropEntries_none fun e he hs => absurd hs (hq e he)]
    unfold CueGenerator.onStation
    rw [hst]

/-- The entries that a transfer takes away, and what becomes of the acknowledgement, where the station stays as it is linked. -/
theorem CueGenerator.recornered_stays {stale out : SpeechEntry → Bool} (same : Bool)
    (hout : ∀ e, out e = true ↔ e.station = i ∧ (same = false ∨ stale e = true)) :
    look ((g.dropEntries k i stale).recornered k i same).speech k =
        { look g.speech k with queue := (look g.speech k).queue.filter fun e => !out e } ∧
      ((g.dropEntries k i stale).recornered k i same).nextSerial = g.nextSerial ∧
      look ((g.dropEntries k i stale).recornered k i same).stations i = { look g.stations i with
        armed := (look g.stations i).armed || !same && (look g.stations i).covering
        covering := (look g.stations i).covering && same
        result := (look ((g.dropEntries k i stale).recornered k i same).stations i).result } ∧
      ((∃ e ∈ (look g.speech k).queue, out e = true) →
        (look ((g.dropEntries k i stale).recornered k i same).stations i).result = .dropped) ∧
      ((∀ e ∈ (look g.speech k).queue, out e = false) →
        (look ((g.dropEntries k i stale).recornered k i same).stations i).result = (look g.stations i).result) := by
  -- the entries removed in all
  obtain ⟨all, hall, hdrop⟩ : ∃ all : SpeechEntry → Bool, (∀ e, out e = true ↔ e.station = i ∧ all e = true) ∧
      (g.dropEntries k i stale).recornered k i same =
        if same then g.dropEntries k i all else (g.dropEntries k i all).onStation i StationCue.rearmed := by
    cases same with
    | true => exact ⟨stale, fun e => by simpa using hout e, rfl⟩
    | false => exact ⟨fun _ => true, fun e => by simpa using hout e, by
        unfold CueGenerator.recornered
        rw [if_neg Bool.false_ne_true, if_neg Bool.false_ne_true, CueGenerator.dropEntries_all]⟩
  obtain ⟨hsome, hnone⟩ := CueGenerator.dropEntries_result (g := g) (k := k) (i := i) (out := all)
  have hspeech : look (g.dropEntries k i all).speech k =
      { look g.speech k with queue := (look g.speech k).queue.filter fun e => !out e } := by
    have hf : (fun e : SpeechEntry => !(decide (k = k) && (e.station == i && all e))) = fun e => !out e := by
      funext e
      rw [Bool.eq_iff_iff.2 (hall e |>.trans (by simp : _ ↔ (decide (k = k) && (e.station == i && all e)) = true))]
    rw [CueGenerator.dropEntries_look, hf]
  have hserial : (g.dropEntries k i all).nextSerial = g.nextSerial := CueGenerator.dropEntries_nextSerial _ _ _ _
  have hshape : look (g.dropEntries k i all).stations i =
      { look g.stations i with result := (look (g.dropEntries k i all).stations i).result } := by
    by_cases h : ∃ e ∈ (look g.speech k).queue, e.station = i ∧ all e = true
    · rw [hsome h, look_change_self]
    · rw [hnone fun e he hs => Bool.eq_false_iff.2 fun ha => h ⟨e, he, hs, ha⟩]
  have hdropped (h : ∃ e ∈ (look g.speech k).queue, out e = true) : (look (g.dropEntries k i all).stations i).result = .dropped := by
    obtain ⟨e, he, ho⟩ := h
    rw [hsome ⟨e, he, (hall e).1 ho⟩, look_change_self]
  have hkept (h : ∀ e ∈ (look g.speech k).queue, out e = false) :
      (look (g.dropEntries k i all).stations i).result = (look g.stations i).result := by
    rw [hnone fun e he hs => Bool.eq_false_iff.2 fun ha => ?_]
    have := (hall e).2 ⟨hs, ha⟩
    rw [h e he] at this
    cases this
  rw [hdrop]
  cases same with
  | true =>
    refine ⟨hspeech, hserial, ?_, hdropped, hkept⟩
    rw [if_pos rfl, hshape]
    simp
  | false =>
    have hl : look ((g.dropEntries k i all).onStation i StationCue.rearmed).stations i =
        (look (g.dropEntries k i all).stations i).rearmed := look_change_self _ _ _
    rw [if_neg Bool.false_ne_true, hl]
    refine ⟨hspeech, hserial, ?_, hdropped, hkept⟩
    rw [hshape]
    simp [StationCue.rearmed]

end Recornered

end Sys2Proof.Machine

/-! STATION_TRANSFER as a whole. -/

namespace Sys2Proof.Machine

theorem CueGenerator.recornered_eq (k : Corner) (i : Station) (same : Prop) [Decidable same] (g : CueGenerator) :
    (if same then g else (g.dropEntries k i fun _ => true).onStation i StationCue.rearmed) = g.recornered k i (decide same) := by
  unfold CueGenerator.recornered
  by_cases h : same <;> simp [h]

/-- The Call Table after a transfer: the calls of the old crossing without the station, where the crossing changes (R59). -/
def CallTable.recrossed (i : Station) (old new : Crossing) (t : CallTable) : CallTable := if new = old then t else t.reassign i old

section Recrossed

variable {t : CallTable} {i : Station} {old new : Crossing}

theorem CallTable.recrossed_same (h : new = old) : t.recrossed i old new = t := if_pos h

theorem CallTable.recrossed_other (h : new ≠ old) : t.recrossed i old new = t.reassign i old := if_neg h

theorem CallTable.recrossed_targets : (t.recrossed i old new).targets = t.targets := by
  unfold CallTable.recrossed
  split
  · rfl
  · exact t.reassign_targets i old

end Recrossed

theorem State.transferStation_moved {s u : State} {i : Station} {new : StationProfile} (hu : s.transferLink i new = u)
    (h : LinkMoved s i new u) :
    s.transferStation i new =
      { s with
        store := { s.store with stations := put s.store.stations i { active := new, pending := none } }
        bus := { s.bus with stations := u.bus.stations }
        press := u.press
        table := ({ s.table with targets := u.table.targets } : CallTable).recrossed i (s.store.station i).crossing new.crossing
        cues := u.cues.recornered (s.store.station i).corner i (decide (new.corner = (s.store.station i).corner))
        levels := change u.levels i
          (LevelState.reranged new s.store.mode (decide (new.corner = (s.store.station i).corner))) } := by
  have hf := h.frame
  rw [State.transferStation_eq s i new hu (by rw [hf]), CueGenerator.recornered_eq, hf]
  rfl

/-- The level of a transferred station: its range, its output in that range, and its window (R144, R149). -/
theorem LevelState.reranged_eq (new : StationProfile) (m : StreetMode) (same : Bool) (x : LevelState) :
    x.reranged new m same =
      { x with minimum := effectiveMin new m, maximum := effectiveMax new m, windowOpen := x.windowOpen && same
               output := x.output.map fun o => max (effectiveMin new m) (min (effectiveMax new m) o) } := by
  unfold LevelState.reranged
  rw [LevelState.setRange_eq]

/-- Settles O42: step 1 by what enables and disables, the later steps over what it leaves. -/
theorem stationTransfer : Obligations.StationTransfer := by
  unfold Obligations.StationTransfer
  refine fun s i => ⟨fun h => congrArg _ (State.testStation_stays h), fun new hp hr => ?_⟩
  obtain ⟨u, hu, hmoved⟩ : ∃ u, s.transferLink i new = u ∧ LinkMoved s i new u := ⟨_, rfl, s.transferLink_moved i new⟩
  have heq := State.transferStation_moved hu hmoved
  obtain ⟨hframe, hlinks, hpresses, hlevels, htargets, hcueStations, hspeech, hambient, hdisabled, henabled, hresolved, hunlinked,
    hleaves, hstays⟩ := hmoved
  have hcf : u.cues = { s.cues with stations := u.cues.stations, speech := u.cues.speech, nextSerial := u.cues.nextSerial } :=
    congrArg State.cues hframe
  obtain ⟨hrframe, hrspeech, hrstations⟩ :=
    u.cues.recornered_frame (s.store.station i).corner i (decide (new.corner = (s.store.station i).corner))
  have hlevel := (look_change_self u.levels i (LevelState.reranged new s.store.mode
    (decide (new.corner = (s.store.station i).corner)))).trans (LevelState.reranged_eq _ _ _ _)
  refine ⟨_, ((exec_stationTransfer i s).trans (congrArg _ (State.testStation_moves hp hr))).trans (congrArg _ heq), ?_⟩
  clear heq hu
  refine ⟨?_, look_put_self _ _ _, beside_put _ _ _, hlinks, hpresses, hlevels.trans (beside_change _ _ _), hdisabled, henabled, hresolved,
    fun h => ?_, fun h => ⟨fun hn => ?_, ?_, fun hm => ?_, fun k r hk => ?_, fun m hm => ?_⟩, ⟨_, _, isRange_effective _ _, ?_, ?_, fun h => ?_⟩,
    ?_, fun h => ⟨?_, fun x hx => ?_⟩, fun h ha => ?_, ?_, ?_, ?_, fun ho hn ha => ?_, hunlinked, fun h => ?_⟩
  · dsimp only
    rw [hrframe]
    dsimp only
    rw [hcf]
  · dsimp only
    rw [CallTable.recrossed_same h]
  · dsimp only
    rw [CallTable.recrossed_other h]
    exact CallTable.reassign_records_none _ i _ hn
  · dsimp only
    rw [CallTable.recrossed_other h, CallTable.reassign_memos]
    exact beside_change _ _ _
  · dsimp only
    rw [CallTable.recrossed_other h, CallTable.reassign_memos, look_change_self, hm]
    rfl
  · dsimp only
    rw [CallTable.recrossed_other h, CallTable.reassign_records_some _ i _ (show OnlyRecord { s.table with targets := u.table.targets } _ _ k r from hk)]
    obtain ⟨h1, h2, h3, h4, h5, h6, h7, h8, h9⟩ := takeOutOfRecord_fields (i := i) r
    refine ⟨takeOutOfRecord i r, ?_, h1, h2, h3, h4, h5, h6, h7, h8, h9, CallTable.edit_beside _ _ _⟩
    rw [CallTable.edit_look, if_pos rfl]
    exact congrArg (Option.map (takeOutOfRecord i)) hk.1.1
  · dsimp only
    rw [CallTable.recrossed_other h, CallTable.reassign_memos, look_change_self, hm]
    exact ⟨_, rfl, takeOutOfMemo_fields m⟩
  · exact congrArg LevelState.minimum hlevel
  · exact congrArg LevelState.maximum hlevel
  · have hl := (hstays (.inr (.inl h))).2.2.1
    refine (congrArg LevelState.output hlevel).trans ?_
    rw [hl]
  · exact (congrArg LevelState.ambient hlevel).trans hambient
  · refine (congrArg LevelState.windowOpen hlevel).trans ?_
    rw [decide_eq_false h, Bool.and_false]
  · dsimp only at hx
    rw [decide_eq_false h] at hx
    exact CueGenerator.recornered_gone hx
  · refine (congrArg LevelState.windowOpen hlevel).trans ?_
    rw [decide_eq_true h, Bool.and_true, (hstays (ha.elim (fun h => .inr (.inr h)) fun h => .inr (.inl h))).2.2.1]
  · exact hcueStations.trans hrstations
  · exact hspeech.trans hrspeech
  · dsimp only
    rw [CallTable.recrossed_targets]
    exact htargets
  · obtain ⟨hpress, htarget, hlev, hcues⟩ := hleaves ho hn ha
    obtain ⟨-, -, -, hself, -⟩ := hcues _ _ _ _ rfl rfl rfl Iff.rfl
    have hnone : u.cues.recornered (s.store.station i).corner i (decide (new.corner = (s.store.station i).corner)) = u.cues :=
      CueGenerator.recornered_left _ hcues.gone.1 ⟨by rw [hself], by rw [hself]⟩
    refine ⟨hpress, ?_, (congrArg LevelState.output hlevel).trans ?_, (congrArg LevelState.windowOpen hlevel).trans ?_, ?_⟩
    · dsimp only
      rw [CallTable.recrossed_targets]
      exact htarget
    · rw [hlev]; rfl
    · rw [hlev]; rfl
    · dsimp only
      rw [hnone]
      exact hcues
  · obtain ⟨hpress, htarget, hlev, stale, hstale, hcues⟩ := hstays h
    refine ⟨hpress, CallTable.recrossed_targets.trans htarget, ?_, ?_⟩
    · dsimp only
      rw [hlevel, hlev]
    · rintro k out rfl hout
      dsimp only
      rw [hcues]
      have hout' (e : SpeechEntry) : out e = true ↔
          e.station = i ∧ (decide (new.corner = (s.store.station i).corner) = false ∨ stale e = true) := by
        rw [hout, hstale, decide_eq_false_iff_not]
        rfl
      have hnot : decide (new.corner ≠ (s.store.station i).corner) = !decide (new.corner = (s.store.station i).corner) := decide_not
      rw [hnot]
      exact CueGenerator.recornered_stays _ hout'

end Sys2Proof.Machine

/-! A new frame length (R161). -/

namespace Sys2Proof.Machine

/-- The link of station i under a frame length n (R161). -/
def StationLink.fitted (n : Nat) (i : Station) (l : StationLink) : StationLink :=
  if l.state = .disabled then l
  else if n ≤ i.val then { l with state := .absent, beyond := true, misses := 0 }
  else if l.beyond then { l with state := .absent, beyond := false }
  else l

/-- A station that the new length leaves out while it is ACTIVE. -/
def State.LeftOut (s : State) (n : Nat) (i : Station) : Prop := n ≤ i.val ∧ s.linkState i = .active

section One

variable {s : State} {n : Nat} {i : Station}

theorem State.fitStation_leaves (h : s.LeftOut n i) :
    State.fitStation n s i =
      { s with
        press := change s.press i PressState.abandon
        table := { s.table with targets := put s.table.targets i .none }
        cues := s.cues.leave s.store i
        levels := change s.levels i LevelState.leave
        bus := { s.bus with stations := change s.bus.stations i (StationLink.fitted n i) } } := by
  obtain ⟨hn, ha⟩ := h
  have ha' : (look s.bus.stations i).state = .active := ha
  have hd : ¬ (look s.bus.stations i).state = .disabled := fun hd => by rw [ha'] at hd; cases hd
  have hf : (look s.bus.stations i).fitted n i = { look s.bus.stations i with state := .absent, beyond := true, misses := 0 } := by
    unfold StationLink.fitted
    rw [if_neg hd, if_pos hn]
  unfold State.fitStation
  dsimp only
  rw [if_neg hd, if_pos hn, if_pos ha', State.leaveActive_eq]
  simp only [State.onLink, change_eq_put, look_put_self, put_put, hf]

theorem State.fitStation_stays (h : ¬ s.LeftOut n i) :
    State.fitStation n s i =
      { s with bus := { s.bus with stations := change s.bus.stations i (StationLink.fitted n i) } } := by
  unfold State.fitStation StationLink.fitted
  dsimp only
  simp only [change_eq_put]
  split
  · rw [put_look_self]
  · split
    · next hn =>
      have ha : ¬ (look s.bus.stations i).state = .active := fun ha => h ⟨hn, ha⟩
      rw [if_neg ha]
      rfl
    · split
      · rfl
      · rw [put_look_self]

end One

/-- What fitting the stations of l to the length n leaves, from s to u. -/
structure Fitted (n : Nat) (l : List Station) (s u : State) : Prop where
  frame : u = { s with
    bus := { s.bus with stations := u.bus.stations }, press := u.press, table := { s.table with targets := u.table.targets }
    cues := u.cues, levels := u.levels }
  links : ∀ i, look u.bus.stations i = if i ∈ l then (look s.bus.stations i).fitted n i else look s.bus.stations i
  left : ∀ i, i ∈ l → s.LeftOut n i → look u.press i = (look s.press i).abandon ∧ look u.table.targets i = .none ∧
    look u.levels i = (look s.levels i).leave
  same : ∀ i, ¬ (i ∈ l ∧ s.LeftOut n i) → look u.press i = look s.press i ∧ look u.table.targets i = look s.table.targets i ∧
    look u.levels i = look s.levels i
  cues : u.cues = (l.filter fun i => decide (n ≤ i.val) && decide (s.linkState i = .active)).foldl
    (fun g i => g.leave s.store i) s.cues

/-- One station more. -/
theorem Fitted.cons {n : Nat} {a : Station} {l : List Station} {s u : State} (ha : a ∉ l)
    (h : Fitted n l (State.fitStation n s a) u) : Fitted n (a :: l) s u := by
  obtain ⟨hframe, hlinks, hleft, hsame, hcues⟩ := h
  have hlink (i : Station) (hi : i ≠ a) : look (State.fitStation n s a).bus.stations i = look s.bus.stations i := by
    by_cases ho : s.LeftOut n a
    · rw [State.fitStation_leaves ho]; exact look_change_ne _ hi _
    · rw [State.fitStation_stays ho]; exact look_change_ne _ hi _
  have hself : look (State.fitStation n s a).bus.stations a = (look s.bus.stations a).fitted n a := by
    by_cases ho : s.LeftOut n a
    · rw [State.fitStation_leaves ho]; exact look_change_self _ _ _
    · rw [State.fitStation_stays ho]; exact look_change_self _ _ _
  have hstate (i : Station) (hi : i ≠ a) : (State.fitStation n s a).linkState i = s.linkState i :=
    congrArg StationLink.state (hlink i hi)
  have hout (i : Station) (hi : i ≠ a) : (State.fitStation n s a).LeftOut n i ↔ s.LeftOut n i := by
    unfold State.LeftOut
    rw [hstate i hi]
  have hothers (i : Station) (hi : i ≠ a) : look (State.fitStation n s a).press i = look s.press i ∧
      look (State.fitStation n s a).table.targets i = look s.table.targets i ∧
      look (State.fitStation n s a).levels i = look s.levels i := by
    by_cases ho : s.LeftOut n a
    · rw [State.fitStation_leaves ho]
      exact ⟨look_change_ne _ hi _, look_put_ne _ hi _, look_change_ne _ hi _⟩
    · rw [State.fitStation_stays ho]
      exact ⟨rfl, rfl, rfl⟩
  have hstore : (State.fitStation n s a).store = s.store := State.fitStation_store s n a
  have hfilter : l.filter (fun i => decide (n ≤ i.val) && decide ((State.fitStation n s a).linkState i = .active)) =
      l.filter fun i => decide (n ≤ i.val) && decide (s.linkState i = .active) :=
    List.filter_congr fun i hi => by rw [hstate i fun h => ha (h ▸ hi)]
  rw [hfilter, hstore] at hcues
  refine ⟨?_, fun i => ?_, fun i hi ho => ?_, fun i hi => ?_, ?_⟩
  · by_cases ho : s.LeftOut n a
    · rw [hframe, State.fitStation_leaves ho]
    · rw [hframe, State.fitStation_stays ho]
  · rw [hlinks]
    by_cases hi : i = a
    · subst hi
      rw [if_neg ha, if_pos List.mem_cons_self, hself]
    · rw [hlink i hi]
      simp [hi]
  · by_cases hia : i = a
    · subst hia
      obtain ⟨h1, h2, h3⟩ := hsame i fun h => ha h.1
      rw [h1, h2, h3, State.fitStation_leaves ho]
      exact ⟨look_change_self _ _ _, look_put_self _ _ _, look_change_self _ _ _⟩
    · obtain ⟨h1, h2, h3⟩ := hleft i ((List.mem_cons.1 hi).resolve_left hia) ((hout i hia).2 ho)
      obtain ⟨o1, -, o3⟩ := hothers i hia
      rw [h1, h2, h3, o1, o3]
      exact ⟨rfl, rfl, rfl⟩
  · by_cases hia : i = a
    · subst hia
      obtain ⟨h1, h2, h3⟩ := hsame i fun h => ha h.1
      rw [h1, h2, h3, State.fitStation_stays fun ho => hi ⟨List.mem_cons_self, ho⟩]
      exact ⟨rfl, rfl, rfl⟩
    · obtain ⟨h1, h2, h3⟩ := hsame i fun h => hi ⟨List.mem_cons_of_mem _ h.1, (hout i hia).1 h.2⟩
      obtain ⟨o1, o2, o3⟩ := hothers i hia
      exact ⟨h1.trans o1, h2.trans o2, h3.trans o3⟩
  · rw [hcues]
    by_cases ho : s.LeftOut n a
    · rw [List.filter_cons_of_pos (by rw [decide_eq_true ho.1, decide_eq_true ho.2]; rfl), List.foldl_cons, State.fitStation_leaves ho]
    · rw [List.filter_cons_of_neg fun hb => ?_, State.fitStation_stays ho]
      rw [Bool.and_eq_true] at hb
      exact ho ⟨of_decide_eq_true hb.1, of_decide_eq_true hb.2⟩

/-- Fitting every station in turn. -/
theorem State.fitAll_fitted (n : Nat) {l : List Station} (hl : l.Nodup) (s : State) : Fitted n l s (l.foldl (State.fitStation n) s) := by
  induction l generalizing s with
  | nil =>
    refine ⟨rfl, fun i => ?_, fun i hi => ?_, fun i _ => ⟨rfl, rfl, rfl⟩, rfl⟩
    · rw [if_neg List.not_mem_nil]
      rfl
    · exact nomatch hi
  | cons a l ih =>
    obtain ⟨ha, hl⟩ := List.nodup_cons.1 hl
    exact Fitted.cons ha (ih hl _)

end Sys2Proof.Machine

/-! Stations transferred in turn at a frame start: what one station's transfer leaves to another (R10, R11, log 14). -/

namespace Sys2Proof.Machine

/-! ## Serving records -/

theorem DemandOnly.serving {t u : CallTable} (h : DemandOnly t u) (c : Crossing) :
    HasRecord u c CallState.isServing ↔ HasRecord t c CallState.isServing := by
  constructor
  · rintro ⟨k, r, ⟨hk, hc⟩, hs⟩
    cases ht : look t.records k with
    | none =>
      rcases (h k).2 ht with h1 | ⟨r', h1, h2⟩
      · rw [h1] at hk; cases hk
      · obtain rfl := Option.some.inj (h1.symm.trans hk)
        rw [h2] at hs
        exact absurd hs (by decide)
    | some q =>
      obtain ⟨r', h1, h2, h3⟩ := (h k).1 q ht
      obtain rfl := Option.some.inj (h1.symm.trans hk)
      exact ⟨k, q, ⟨ht, h2 ▸ hc⟩, h3 ▸ hs⟩
  · rintro ⟨k, r, ⟨hk, hc⟩, hs⟩
    obtain ⟨r', h1, h2, h3⟩ := (h k).1 r hk
    exact ⟨k, r', ⟨h1, h2.trans hc⟩, by rw [h3]; exact hs⟩

/-! ## The speech of the corner of a station that transfers -/

/-- A corner's speech loses entries, and at most its head starts on an IDLE channel. -/
def SpeechShrunk (v w : CornerSpeech) : Prop :=
  ∃ q, (∀ e ∈ q, e ∈ v.queue) ∧ (w = { v with queue := q } ∨
    v.channel = .idle ∧ ∃ d rest n, q = d :: rest ∧ w = { v with channel := .playing d 0 n, queue := rest })

theorem SpeechShrunk.refl (v : CornerSpeech) : SpeechShrunk v v := ⟨v.queue, fun _ => id, .inl rfl⟩

theorem SpeechShrunk.queue {v w : CornerSpeech} (h : SpeechShrunk v w) {e : SpeechEntry} (he : e ∈ w.queue) : e ∈ v.queue := by
  obtain ⟨q, hq, rfl | ⟨-, d, rest, n, rfl, rfl⟩⟩ := h
  · exact hq e he
  · exact hq e (List.mem_cons_of_mem _ he)

theorem SpeechShrunk.plays {v w : CornerSpeech} (h : SpeechShrunk v w) {e : SpeechEntry} {since n : Nat}
    (hc : w.channel = .playing e since n) : v.channel = .playing e since n ∨ e ∈ v.queue := by
  obtain ⟨q, hq, rfl | ⟨-, d, rest, m, rfl, rfl⟩⟩ := h
  · exact .inl hc
  · obtain ⟨rfl, -, -⟩ := Channel.playing.inj hc
    exact .inr (hq d List.mem_cons_self)

theorem SpeechShrunk.goes {v w : CornerSpeech} (h : SpeechShrunk v w) {e : SpeechEntry} {since n : Nat}
    (hc : v.channel = .playing e since n) : w.channel = .playing e since n := by
  obtain ⟨q, hq, rfl | ⟨hi, -⟩⟩ := h
  · exact hc
  · rw [hc] at hi; cases hi

/-- A station that leaves ACTIVE without playing takes its entries, and the head may start. -/
theorem LeavesCues.shrunk {p : ProfileStore} {i : Station} {g h : CueGenerator} (hl : LeavesCues p i g h)
    (hq : ∀ e since n, (look g.speech (p.station i).corner).channel = .playing e since n → e.station ≠ i) :
    SpeechShrunk (look g.speech (p.station i).corner) (look h.speech (p.station i).corner) := by
  obtain ⟨-, -, -, -, -, -, hidle, hgap, hplay⟩ := hl _ _ _ _ rfl rfl rfl Iff.rfl
  have hmem (e : SpeechEntry) (he : e ∈ (look g.speech (p.station i).corner).queue.filter fun e => decide (e.station ≠ i)) :
      e ∈ (look g.speech (p.station i).corner).queue := (List.mem_filter.1 he).1
  cases hc : (look g.speech (p.station i).corner).channel with
  | idle =>
    rcases (hidle hc).cases with hw | ⟨d, rest, n, hd, hw⟩
    · exact ⟨_, hmem, .inl hw⟩
    · exact ⟨_, hmem, .inr ⟨hc, d, rest, n, hd, hw⟩⟩
  | gap n => exact ⟨_, hmem, .inl (hgap n hc)⟩
  | playing e since n => exact ⟨_, hmem, .inl ((hplay e since n hc).1 (hq e since n hc))⟩

/-- The speech at the corner of a station that is transferred. -/
theorem State.transferStation_speech {s : State} {i : Station} (new : StationProfile) (hr : StationAtRest s i) :
    SpeechShrunk (look s.cues.speech (s.store.station i).corner)
      (look (s.transferStation i new).cues.speech (s.store.station i).corner) := by
  have hmoved := s.transferLink_moved i new
  rw [State.transferStation_moved rfl hmoved]
  dsimp only
  by_cases hl : (s.store.station i).enabled = true ∧ new.enabled = false ∧ s.linkState i = .active
  · obtain ⟨-, -, -, hcues⟩ := hmoved.leaves hl.1 hl.2.1 hl.2.2
    obtain ⟨-, -, -, hself, -⟩ := hcues _ _ _ _ rfl rfl rfl Iff.rfl
    rw [CueGenerator.recornered_left _ hcues.gone.1 ⟨by rw [hself], by rw [hself]⟩]
    exact hcues.shrunk hr.2.1
  · have hnot : (s.store.station i).enabled = false ∨ new.enabled = true ∨ s.linkState i ≠ .active := by
      cases ho : (s.store.station i).enabled with
      | false => exact .inl rfl
      | true =>
        cases hn : new.enabled with
        | true => exact .inr (.inl rfl)
        | false => exact .inr (.inr fun ha => hl ⟨ho, hn, ha⟩)
    obtain ⟨-, -, -, stale, -, hcues⟩ := hmoved.stays hnot
    have hspeech := (CueGenerator.recornered_stays (g := s.cues) (k := (s.store.station i).corner) (i := i) (stale := stale)
      (out := fun e => decide (e.station = i ∧ (decide (new.corner = (s.store.station i).corner) = false ∨ stale e = true)))
      (decide (new.corner = (s.store.station i).corner)) fun e => decide_eq_true_iff).1
    rw [hcues, hspeech]
    exact ⟨_, fun e he => (List.mem_filter.1 he).1, .inl rfl⟩

/-- The speech of any corner when a station is transferred. -/
theorem State.transferStation_shrunk {s : State} {i : Station} (new : StationProfile) (hr : StationAtRest s i) (k : Corner) :
    SpeechShrunk (look s.cues.speech k) (look (s.transferStation i new).cues.speech k) := by
  by_cases hk : k = (s.store.station i).corner
  · rw [hk]
    exact State.transferStation_speech new hr
  · have hmoved := s.transferLink_moved i new
    obtain ⟨-, hb, -⟩ := (s.transferLink i new).cues.recornered_frame (s.store.station i).corner i
      (decide (new.corner = (s.store.station i).corner))
    rw [State.transferStation_moved rfl hmoved]
    dsimp only
    rw [(hmoved.speech.trans hb) _ hk]
    exact SpeechShrunk.refl _

/-! ## What one station's transfer leaves to another -/

/-- From s to t, other stations are transferred: what station i is, and whether it is at rest, stands. -/
structure Spared (i : Station) (s t : State) : Prop where
  profile : look t.store.stations i = look s.store.stations i
  link : look t.bus.stations i = look s.bus.stations i
  press : look t.press i = look s.press i
  level : look t.levels i = look s.levels i
  cue : look t.cues.stations i = look s.cues.stations i
  target : look t.table.targets i = look s.table.targets i
  serving : ∀ c, HasRecord t.table c CallState.isServing ↔ HasRecord s.table c CallState.isServing
  playing : ∀ e since n, (look s.cues.speech (s.store.station i).corner).channel = .playing e since n → e.station = i →
    (look t.cues.speech (s.store.station i).corner).channel = .playing e since n
  waiting : (∀ e ∈ (look s.cues.speech (s.store.station i).corner).queue, e.station ≠ i) →
    (∀ e ∈ (look t.cues.speech (s.store.station i).corner).queue, e.station ≠ i) ∧
      ((∀ e since n, (look s.cues.speech (s.store.station i).corner).channel = .playing e since n → e.station ≠ i) →
        ∀ e since n, (look t.cues.speech (s.store.station i).corner).channel = .playing e since n → e.station ≠ i)

namespace Spared

variable {i j : Station} {s t u : State}

theorem refl (i : Station) (s : State) : Spared i s s :=
  ⟨rfl, rfl, rfl, rfl, rfl, rfl, fun _ => Iff.rfl, fun _ _ _ h _ => h, fun h => ⟨h, id⟩⟩

theorem station (h : Spared i s t) : t.store.station i = s.store.station i := congrArg Copies.active h.profile

theorem trans (h : Spared i s t) (k : Spared i t u) : Spared i s u := by
  have hp := k.playing
  have hw := k.waiting
  rw [h.station] at hp hw
  exact ⟨k.profile.trans h.profile, k.link.trans h.link, k.press.trans h.press, k.level.trans h.level,
    k.cue.trans h.cue, k.target.trans h.target, fun c => (k.serving c).trans (h.serving c), fun e since n hc hs => hp e since n (h.playing e since n hc hs) hs,
    fun hq => ⟨(hw (h.waiting hq).1).1, fun hc => (hw (h.waiting hq).1).2 ((h.waiting hq).2 hc)⟩⟩

/-- A station that is not at rest stays so while others transfer. -/
theorem not_atRest (h : Spared i s t) (hr : ¬ StationAtRest s i) : ¬ StationAtRest t i := by
  rintro ⟨h1, h2, h3⟩
  rw [h.station] at h1 h2
  refine hr ⟨fun hs => h1 ((h.serving _).2 hs), fun e since n hc hs => h2 e since n (h.playing e since n hc hs) hs, ?_⟩
  rw [h.press] at h3
  exact h3

/-- A station at rest of which no entry waits stays at rest while others transfer. -/
theorem atRest (h : Spared i s t) (hr : StationAtRest s i)
    (hq : ∀ e ∈ (look s.cues.speech (s.store.station i).corner).queue, e.station ≠ i) : StationAtRest t i := by
  obtain ⟨h1, h2, h3⟩ := hr
  refine ⟨?_, ?_, ?_⟩
  · rw [h.station]
    exact fun hs => h1 ((h.serving _).1 hs)
  · rw [h.station]
    exact (h.waiting hq).2 h2
  · rw [h.press]
    exact h3

/-- A transfer of another station. -/
theorem testStation (hj : i ≠ j) (s : State) : Spared i s (s.testStation j) := by
  by_cases hm : ∃ new, (look s.store.stations j).pending = some new ∧ StationAtRest s j
  · obtain ⟨new, hp, hr⟩ := hm
    rw [State.testStation_moves hp hr]
    have hspeech := State.transferStation_shrunk new hr (s.store.station i).corner
    have hmoved := s.transferLink_moved j new
    have hserving (c : Crossing) : HasRecord (s.transferStation j new).table c CallState.isServing ↔
        HasRecord s.table c CallState.isServing := by
      rw [State.transferStation_moved rfl hmoved]
      dsimp only [CallTable.recrossed]
      split
      · exact Iff.rfl
      · exact (reassign_demand _ _ _).serving c
    have hcue := (s.transferLink j new).cues.recornered_frame (s.store.station j).corner j
      (decide (new.corner = (s.store.station j).corner))
    refine ⟨?_, ?_, ?_, ?_, ?_, ?_, hserving, fun e since n hc _ => hspeech.goes hc, fun hq => ⟨fun e he => hq e (hspeech.queue he),
      fun hn e since n hc => (hspeech.plays hc).elim (hn e since n) (hq e)⟩⟩
    all_goals rw [State.transferStation_moved rfl hmoved]
    · exact look_put_ne _ hj _
    · exact hmoved.links i hj
    · exact hmoved.presses i hj
    · exact (look_change_ne _ hj _).trans (hmoved.levels i hj)
    · exact (hmoved.cueStations.trans hcue.2.2) i hj
    · dsimp only
      rw [CallTable.recrossed_targets]
      exact hmoved.targets i hj
  · rw [State.testStation_stays]
    · exact refl i s
    · cases hp : (look s.store.stations j).pending with
      | none => exact .inl rfl
      | some new => exact .inr fun hr => hm ⟨new, hp, hr⟩

theorem foldl {l : List Station} (hl : i ∉ l) (s : State) : Spared i s (l.foldl (fun s j => s.testStation j) s) := by
  induction l generalizing s with
  | nil => exact refl i s
  | cons a l ih =>
    obtain ⟨ha, hl⟩ := not_or.1 (fun h => hl (List.mem_cons.2 h))
    exact (testStation ha s).trans (ih hl _)

end Spared

end Sys2Proof.Machine

/-! FRAME_START (R160, R161). -/

namespace Sys2Proof.Machine

/-! ## The frame length (R15, R161) -/

section Length

variable {s : State}

/-- A length as it is in force changes nothing but that it is no longer held. -/
theorem State.applyLength_kept (h : s.store.nextFrameLength.getD s.bus.frameLength = s.bus.frameLength) :
    s.applyLength = { s with store := { s.store with nextFrameLength := none } } := by
  unfold State.applyLength
  split
  · next hn => rw [← hn]
  · next n hn =>
    rw [hn] at h
    exact if_pos h

theorem State.applyLength_new {n : Nat} (hn : s.store.nextFrameLength = some n) (h : n ≠ s.bus.frameLength) :
    s.applyLength = (List.finRange 48).foldl (State.fitStation n)
      { s with store := { s.store with nextFrameLength := none }, bus := { s.bus with frameLength := n } } := by
  unfold State.applyLength
  rw [hn]
  exact if_neg h

/-- What putting the frame length in force leaves, whether it is new or not. -/
structure LengthApplied (s u : State) : Prop where
  frame : u = { s with
    store := { s.store with nextFrameLength := none }
    bus := { s.bus with frameLength := s.store.nextFrameLength.getD s.bus.frameLength, stations := u.bus.stations }
    press := u.press, table := { s.table with targets := u.table.targets }
    cues := { s.cues with stations := u.cues.stations, speech := u.cues.speech, nextSerial := u.cues.nextSerial }
    levels := u.levels }

theorem CueGenerator.leaveEach_keeps (p : ProfileStore) (l : List Station) (g : CueGenerator) :
    (l.foldl (fun g i => g.leave p i) g).corners = g.corners ∧ (l.foldl (fun g i => g.leave p i) g).gates = g.gates :=
  ⟨foldl_keeps CueGenerator.corners _ (fun g i => g.leave_corners p i) l g,
    foldl_keeps CueGenerator.gates _ (fun g i => g.leave_gates p i) l g⟩

theorem State.applyLength_applied (s : State) : LengthApplied s s.applyLength := by
  by_cases h : s.store.nextFrameLength.getD s.bus.frameLength = s.bus.frameLength
  · rw [State.applyLength_kept h]
    exact ⟨by rw [h]⟩
  · obtain ⟨n, hn⟩ : ∃ n, s.store.nextFrameLength = some n := by
      cases hn : s.store.nextFrameLength with
      | none => rw [hn] at h; exact absurd rfl h
      | some n => exact ⟨n, rfl⟩
    rw [hn] at h
    rw [State.applyLength_new hn h]
    obtain ⟨hframe, -, -, -, hcues⟩ := State.fitAll_fitted n (List.nodup_finRange 48)
      { s with store := { s.store with nextFrameLength := none }, bus := { s.bus with frameLength := n } }
    obtain ⟨hcorners, hgates⟩ := CueGenerator.leaveEach_keeps { s.store with nextFrameLength := none }
      ((List.finRange 48).filter fun i => decide (n ≤ i.val) && decide (State.linkState
        { s with store := { s.store with nextFrameLength := none }, bus := { s.bus with frameLength := n } } i = .active)) s.cues
    generalize (List.finRange 48).foldl (State.fitStation n) _ = u at *
    rw [← hcues] at hcorners hgates
    refine ⟨?_⟩
    rw [hframe, hn]
    dsimp only
    rw [CueGenerator.frame_of hcorners hgates]
    rfl

end Length

/-! ## The transfers in turn -/

/-- From s to t, stations are transferred: what a transfer can change. -/
def StationsMoved (s t : State) : Prop :=
  t = { s with
    store := { s.store with stations := t.store.stations }, bus := { s.bus with stations := t.bus.stations }
    press := t.press, table := t.table
    cues := { s.cues with stations := t.cues.stations, speech := t.cues.speech, nextSerial := t.cues.nextSerial }
    levels := t.levels }

namespace StationsMoved

variable {s t u : State}

theorem refl (s : State) : StationsMoved s s := rfl

theorem trans (h : StationsMoved s t) (k : StationsMoved t u) : StationsMoved s u := by
  unfold StationsMoved at h k ⊢
  rw [k, h]

theorem testStation (s : State) (i : Station) : StationsMoved s (s.testStation i) := by
  obtain ⟨hstays, hmoves⟩ := stationTransfer s i
  by_cases hm : ∃ new, (look s.store.stations i).pending = some new ∧ StationAtRest s i
  · obtain ⟨new, hp, hr⟩ := hm
    obtain ⟨t, ht, hframe, -⟩ := hmoves new hp hr
    obtain rfl := next_inj ht
    exact hframe
  · rw [State.testStation_stays]
    · exact refl s
    · cases hp : (look s.store.stations i).pending with
      | none => exact .inl rfl
      | some new => exact .inr fun hr => hm ⟨new, hp, hr⟩

theorem foldl (l : List Station) (s : State) : StationsMoved s (l.foldl (fun s i => s.testStation i) s) := by
  induction l generalizing s with
  | nil => exact refl s
  | cons a l ih => exact (testStation s a).trans (ih _)

end StationsMoved

/-- The stations tested in turn, up to number k (R160). -/
def State.testedTo (s : State) (k : Nat) : State := ((List.finRange 48).take k).foldl (fun s i => s.testStation i) s

theorem State.testedTo_succ (s : State) (i : Station) : s.testedTo (i.val + 1) = (s.testedTo i.val).testStation i := by
  unfold State.testedTo
  rw [List.take_succ_eq_append_getElem (by simp), List.foldl_append]
  simp

theorem State.testedTo_all (s : State) : s.testedTo 48 = (List.finRange 48).foldl (fun s i => s.testStation i) s := by
  unfold State.testedTo
  rw [List.take_of_length_le (by simp)]

/-- Without a pending station profile the tests change nothing. -/
theorem State.testAll_none {s : State} (h : ∀ i, (look s.store.stations i).pending = none) (l : List Station) :
    l.foldl (fun s i => s.testStation i) s = s := by
  induction l with
  | nil => rfl
  | cons a l ih => rw [List.foldl_cons, State.testStation_stays (.inl (h a)), ih]

/-- Every other station is tested before and after station i. -/
theorem State.testAll_split (s : State) (i : Station) :
    ∃ a b, Spared i s a ∧ StationsMoved s a ∧ b = a.testStation i ∧ Spared i b ((List.finRange 48).foldl (fun s i => s.testStation i) s) := by
  obtain ⟨l, m, hl⟩ := List.append_of_mem (List.mem_finRange i)
  have hnodup := List.nodup_finRange 48
  rw [hl] at hnodup ⊢
  obtain ⟨hnl, hnm, hdisj⟩ := List.nodup_append'.1 hnodup
  refine ⟨l.foldl (fun s i => s.testStation i) s, _, Spared.foldl (fun hi => hdisj hi List.mem_cons_self) s, StationsMoved.foldl l s, rfl, ?_⟩
  rw [List.foldl_append, List.foldl_cons]
  exact Spared.foldl (List.nodup_cons.1 hnm).1 _

/-! ## Slot 0 (R119, R160) -/

theorem State.sendSlotZero_eq (s : State) :
    s.sendSlotZero =
      { s with
        bus := { s.bus with
          frameNumber := if s.bus.firstFrame then s.bus.frameNumber else s.bus.frameNumber + 1, firstFrame := false, frameTime := 0
          slot := none
          sent := slotZero (if s.bus.firstFrame then s.bus.frameNumber else s.bus.frameNumber + 1)
            fun k => (look s.cues.corners k).mark }
        cues := { s.cues with corners := mapAll (fun _ x => { x with mark := false }) s.cues.corners } } := rfl

theorem slotZero_eq (number : Byte) (marks : Corner → Bool) :
    (slotZero number marks).length = 6 ∧ (slotZero number marks)[0]? = some number ∧ byteSum (slotZero number marks) = 0 ∧
      ∀ k : Corner, ((slotZero number marks).getD (4 - k.val / 8) 0).getLsbD (k.val % 8) = marks k := by
  refine ⟨rfl, rfl, byteSum_withCheck _, fun k => ?_⟩
  have hk := k.isLt
  have hd : k.val / 8 ≤ 3 := by omega
  have hget : (slotZero number marks).getD (4 - k.val / 8) 0 = (bytes4 (bitMap marks)).getD (3 - k.val / 8) 0 := by
    unfold slotZero withCheck
    rw [show 4 - k.val / 8 = (3 - k.val / 8) + 1 by omega, List.cons_append, List.getD_cons_succ,
      List.getD_append _ _ _ _ (by rw [bytes4_length]; omega)]
  rw [hget, bytes4_bit _ hk, testBit_bitMap]

end Sys2Proof.Machine

/-! FRAME_START as a whole. -/

namespace Sys2Proof.Machine

/-- What a frame start does before slot 0: the length, then the transfers in turn (R160). -/
def State.beforeSlotZero (s : State) : State := (List.finRange 48).foldl (fun s i => s.testStation i) s.applyLength

theorem exec_frameStart_eq (s : State) : exec .frameStart s = .next s.beforeSlotZero.sendSlotZero := rfl

theorem State.applyLength_again (s : State) : s.applyLength.applyLength = s.applyLength := by
  obtain ⟨hframe⟩ := s.applyLength_applied
  generalize s.applyLength = u at *
  have hn : u.store.nextFrameLength = none := by rw [hframe]
  rw [State.applyLength_kept (by rw [hn]; rfl)]
  rw [hframe]

/-- The new length does not read what a profile store holds of it. -/
theorem CueGenerator.leave_held (p : ProfileStore) (i : Station) (g : CueGenerator) :
    g.leave { p with nextFrameLength := none } i = g.leave p i := rfl

/-- Two ascending lists of the same stations are the same list. -/
theorem eq_of_ascending {l m : List Station} (hl : l.Pairwise (fun i j => i < j)) (hm : m.Pairwise (fun i j => i < j))
    (h : ∀ i, i ∈ l ↔ i ∈ m) : l = m :=
  List.Perm.eq_of_pairwise (fun _ _ _ _ h h' => absurd h' (lt_asymm h)) hl hm
    ((List.perm_ext_iff_of_nodup (hl.imp fun h => ne_of_lt h) (hm.imp fun h => ne_of_lt h)).2 h)

/-- What a new length leaves, with the stations it leaves out in ascending order. -/
theorem State.applyLength_fitted {s : State} {n : Nat} {out : List Station} (hn : s.store.nextFrameLength = some n)
    (h : n ≠ s.bus.frameLength) (hout : out.Pairwise (fun i j => i < j)) (hmem : ∀ i, i ∈ out ↔ n ≤ i.val ∧ s.linkState i = .active) :
    s.applyLength = { s with
        store := { s.store with nextFrameLength := none }
        bus := { s.bus with frameLength := n, stations := s.applyLength.bus.stations }
        press := s.applyLength.press, table := { s.table with targets := s.applyLength.table.targets }
        cues := out.foldl (fun g i => g.leave s.store i) s.cues, levels := s.applyLength.levels } ∧
      ∀ i : Station, look s.applyLength.bus.stations i = (look s.bus.stations i).fitted n i ∧
        (i ∈ out → look s.applyLength.press i = (look s.press i).abandon ∧ look s.applyLength.table.targets i = .none ∧
          look s.applyLength.levels i = (look s.levels i).leave) ∧
        (i ∉ out → look s.applyLength.press i = look s.press i ∧ look s.applyLength.table.targets i = look s.table.targets i ∧
          look s.applyLength.levels i = look s.levels i) := by
  have hfitted : Fitted n (List.finRange 48)
      { s with store := { s.store with nextFrameLength := none }, bus := { s.bus with frameLength := n } } s.applyLength :=
    State.applyLength_new hn h ▸ State.fitAll_fitted n (List.nodup_finRange 48) _
  obtain ⟨hframe, hlinks, hleft, hsame, hcues⟩ := hfitted
  generalize s.applyLength = u at *
  have hlist : ((List.finRange 48).filter fun i => decide (n ≤ i.val) && decide (s.linkState i = .active)) = out := by
    refine eq_of_ascending ((List.pairwise_lt_finRange 48).filter _) hout fun i => ?_
    rw [List.mem_filter, hmem, Bool.and_eq_true, decide_eq_true_iff, decide_eq_true_iff]
    exact and_iff_right (List.mem_finRange i)
  have hcues : u.cues = out.foldl (fun g i => g.leave s.store i) s.cues := by
    rw [hcues, ← hlist]
    rfl
  refine ⟨?_, fun i => ⟨?_, fun hi => ?_, fun hi => ?_⟩⟩
  · rw [hframe, hcues]
  · rw [hlinks, if_pos (List.mem_finRange i)]
  · exact hleft i (List.mem_finRange i) ((hmem i).1 hi)
  · exact hsame i fun ho => hi ((hmem i).2 ho.2)

/-- What a frame start leaves before slot 0, and what stands. -/
theorem State.beforeSlotZero_frame (s : State) :
    s.beforeSlotZero = { s with
      store := { s.store with stations := s.beforeSlotZero.store.stations, nextFrameLength := none }
      bus := { s.bus with
        frameLength := s.store.nextFrameLength.getD s.bus.frameLength, stations := s.beforeSlotZero.bus.stations }
      press := s.beforeSlotZero.press, table := s.beforeSlotZero.table
      cues := { s.cues with
        stations := s.beforeSlotZero.cues.stations, speech := s.beforeSlotZero.cues.speech
        nextSerial := s.beforeSlotZero.cues.nextSerial }
      levels := s.beforeSlotZero.levels } := by
  obtain ⟨hframe⟩ := s.applyLength_applied
  have hmoved : StationsMoved s.applyLength s.beforeSlotZero := StationsMoved.foldl _ _
  unfold StationsMoved at hmoved
  generalize s.beforeSlotZero = t at *
  generalize s.applyLength = u at *
  rw [hmoved, hframe]

/-- Without a pending station profile only the length is put in force. -/
theorem State.beforeSlotZero_none {s : State} (h : ∀ i, (look s.store.stations i).pending = none) : s.beforeSlotZero = s.applyLength := by
  obtain ⟨hframe⟩ := s.applyLength_applied
  refine State.testAll_none (fun i => ?_) _
  rw [hframe]
  exact h i

/-- One station at a frame start with no new length: untouched but for its own transfer. -/
theorem State.beforeSlotZero_station {s : State} (hk : s.store.nextFrameLength.getD s.bus.frameLength = s.bus.frameLength) (i : Station) :
    ∃ a b, Spared i s a ∧ a.bus.frameLength = s.bus.frameLength ∧ a.store.mode = s.store.mode ∧ b = a.testStation i ∧
      Spared i b s.beforeSlotZero := by
  obtain ⟨a, b, ha, hmoved, hb, hlast⟩ := s.applyLength.testAll_split i
  have hu := State.applyLength_kept hk
  have spared : Spared i s s.applyLength := by
    rw [hu]
    exact ⟨rfl, rfl, rfl, rfl, rfl, rfl, fun _ => Iff.rfl, fun _ _ _ h _ => h, fun h => ⟨h, id⟩⟩
  refine ⟨a, b, spared.trans ha, ?_, ?_, hb, hlast⟩
  · rw [hmoved, hu]
  · rw [hmoved, hu]

end Sys2Proof.Machine

/-! FRAME_START: the statement. -/

namespace Sys2Proof.Machine

/-- The first part of a frame start, with a new length, is a frame start without one from there. -/
theorem exec_frameStart_applied (s : State) : exec .frameStart s = exec .frameStart s.applyLength := by
  rw [exec_frameStart_eq, exec_frameStart_eq, State.beforeSlotZero, State.beforeSlotZero, State.applyLength_again]

/-- What the transfer of one station at rest leaves of it, at a frame start (R10, R11). -/
theorem State.beforeSlotZero_moves {s : State} {i : Station} {new : StationProfile}
    (hk : s.store.nextFrameLength.getD s.bus.frameLength = s.bus.frameLength) (hp : (look s.store.stations i).pending = some new)
    (hr : StationAtRest s i) (hq : ∀ e ∈ (look s.cues.speech (s.store.station i).corner).queue, e.station ≠ i) :
    look s.beforeSlotZero.store.stations i = { active := new, pending := none } ∧
      ((s.store.station i).enabled = true → new.enabled = false → (look s.beforeSlotZero.bus.stations i).state = .disabled) ∧
      ((s.store.station i).enabled = false → new.enabled = true →
        look s.beforeSlotZero.bus.stations i =
          { look s.bus.stations i with state := .absent, beyond := decide (s.bus.frameLength ≤ i.val) }) ∧
      ((s.store.station i).enabled = true → new.enabled = true → s.linkState i = .active →
        ∀ o, (look s.bus.stations i).offered = some o →
          look s.beforeSlotZero.bus.stations i = { look s.bus.stations i with features := resolve new o }) ∧
      ∃ lo hi, IsRange new s.store.mode lo hi ∧ (look s.beforeSlotZero.levels i).minimum = lo ∧
        (look s.beforeSlotZero.levels i).maximum = hi := by
  obtain ⟨a, b, ha, hlength, hmode, rfl, hb⟩ := State.beforeSlotZero_station hk i
  obtain ⟨t, ht, -, hstore, -, -, -, -, hdis, hen, hres, -, -, hrange, -⟩ :=
    (stationTransfer a i).2 new (by rw [ha.profile]; exact hp) (ha.atRest hr hq)
  obtain rfl := next_inj ht
  have hlink : a.linkState i = s.linkState i := congrArg StationLink.state ha.link
  rw [ha.station, ha.link] at hdis hen hres
  rw [hlink] at hres
  rw [hlength] at hen
  rw [hmode] at hrange
  rw [hb.profile, hb.link, hb.level]
  obtain ⟨lo, hi, h1, h2, h3, -⟩ := hrange
  exact ⟨hstore, fun ho hn => by rw [hdis ho hn], hen, hres, lo, hi, h1, h2, h3⟩

/-- A station without a pending profile, or not at rest, keeps its profile through a frame start. -/
theorem State.beforeSlotZero_keeps {s : State} {i : Station}
    (hk : s.store.nextFrameLength.getD s.bus.frameLength = s.bus.frameLength)
    (h : (look s.store.stations i).pending = none ∨ ¬ StationAtRest s i) :
    look s.beforeSlotZero.store.stations i = look s.store.stations i := by
  obtain ⟨a, b, ha, -, -, rfl, hb⟩ := State.beforeSlotZero_station hk i
  rw [hb.profile, State.testStation_stays (h.imp (fun hp => by rw [ha.profile]; exact hp) ha.not_atRest), ha.profile]

/-- Settles O40: the length first, then the transfers in turn, then slot 0. -/
theorem frameStart : Obligations.FrameStart := by
  unfold Obligations.FrameStart
  refine ⟨fun p i g => g.leave_leaves p i, fun s n out hn hne hout hmem => ?_, fun s hk => ?_, fun s => ?_⟩
  · obtain ⟨hframe, hstations⟩ := State.applyLength_fitted hn hne hout hmem
    refine ⟨s.applyLength, exec_frameStart_applied s, hframe, fun i => ?_⟩
    obtain ⟨hlink, hin, hnot⟩ := hstations i
    refine ⟨hlink, fun hi => ?_, hnot⟩
    obtain ⟨h1, h2, h3⟩ := hin hi
    rw [h1, h3]
    exact ⟨(look s.press i).abandon_abandoned, h2, rfl⟩
  · obtain ⟨u, hzero, hsucc, hall⟩ : ∃ u : Nat → State, u 0 = { s with store := { s.store with nextFrameLength := none } } ∧
        (∀ i : Station, exec (.stationTransfer i) (u i.val) = .next (u (i.val + 1))) ∧ u 48 = s.beforeSlotZero := by
      refine ⟨State.testedTo s.applyLength, State.applyLength_kept hk, fun i => ?_, State.testedTo_all _⟩
      rw [State.testedTo_succ]
      exact exec_stationTransfer i _
    refine ⟨u, _, hzero, hsucc, exec_frameStart_eq s, ?_⟩
    rw [hall]
    generalize s.beforeSlotZero = w
    rfl
  · have hframe := s.beforeSlotZero_frame
    have hnone := State.beforeSlotZero_none (s := s)
    have hmoves (hk : _) (i : Station) (new : StationProfile) := State.beforeSlotZero_moves (s := s) (i := i) (new := new) hk
    have hkeeps (hk : _) (i : Station) := State.beforeSlotZero_keeps (s := s) (i := i) hk
    have hbus : s.beforeSlotZero.bus.frameNumber = s.bus.frameNumber ∧ s.beforeSlotZero.bus.firstFrame = s.bus.firstFrame ∧
        s.beforeSlotZero.bus.frameLength = s.store.nextFrameLength.getD s.bus.frameLength := by
      rw [hframe]; exact ⟨rfl, rfl, rfl⟩
    have hcorners : s.beforeSlotZero.cues.corners = s.cues.corners ∧ s.beforeSlotZero.cues.gates = s.cues.gates := by
      rw [hframe]; exact ⟨rfl, rfl⟩
    obtain ⟨hnumber, hfirst, hlength⟩ := hbus
    obtain ⟨hcorners, hgates⟩ := hcorners
    refine ⟨_, exec_frameStart_eq s, ?_⟩
    rw [State.sendSlotZero_eq, hnumber, hfirst, hcorners]
    obtain ⟨hl, hhead, hsum, hmark⟩ := slotZero_eq (if s.bus.firstFrame then s.bus.frameNumber else s.bus.frameNumber + 1)
      fun k => (look s.cues.corners k).mark
    generalize s.beforeSlotZero = u at *
    refine ⟨?_, rfl, rfl, rfl, rfl, hlength, fun k => ?_, hgates, hl, hhead, hsum, hmark,
      fun hp => ⟨fun n hn hne i => ?_, fun hk => ?_⟩, fun hk i => ⟨hkeeps hk i, fun new => hmoves hk i new⟩⟩
    · rw [hframe]
    · dsimp only
      rw [look_mapAll]
    · obtain rfl := hnone hp
      have h := (State.applyLength_fitted hn hne (members_sorted fun i : Station => decide (n ≤ i.val ∧ s.linkState i = .active))
        (fun i => by rw [mem_members, decide_eq_true_iff])).2 i
      exact h.1
    · rw [hnone hp, State.applyLength_kept hk]

end Sys2Proof.Machine

/-! Stations leaving ACTIVE together at a section reset, at the Cue Generator (R139, R174). -/

namespace Sys2Proof.Machine

/-! ## The last two acts -/

/-- The cue state of a station that has left ACTIVE (R139). -/
def StationCue.silenced (x : StationCue) : StationCue :=
  { x with sound := .none, armed := false, covering := false, tactile := false, indicator := .off }

theorem CueGenerator.silenceAll_frame (l : List Station) (g : CueGenerator) :
    l.foldl CueGenerator.silenceStation g = { g with stations := (l.foldl CueGenerator.silenceStation g).stations } := by
  induction l generalizing g with
  | nil => rfl
  | cons a l ih =>
    rw [List.foldl_cons, ih]
    rfl

theorem CueGenerator.silenceAll_look (l : List Station) (g : CueGenerator) (i : Station) :
    look (l.foldl CueGenerator.silenceStation g).stations i =
      if i ∈ l then (look g.stations i).silenced else look g.stations i := by
  induction l generalizing g with
  | nil => rfl
  | cons a l ih =>
    have hone : look (g.silenceStation a).stations i = if i = a then (look g.stations i).silenced else look g.stations i :=
      look_change _ _ _ _
    rw [List.foldl_cons, ih, hone]
    by_cases hi : i = a <;> by_cases hl : i ∈ l <;> simp [hi, hl, StationCue.silenced]

/-- The start tests of the stations l, in turn. -/
def CueGenerator.testCorners (p : ProfileStore) (l : List Station) (g : CueGenerator) : CueGenerator :=
  l.foldl (fun g i => g.startTest p (p.station i).corner) g

section Tests

variable (p : ProfileStore) (l : List Station)

theorem CueGenerator.testCorners_frame (g : CueGenerator) :
    g.testCorners p l = { g with speech := (g.testCorners p l).speech, nextSerial := (g.testCorners p l).nextSerial } := by
  induction l generalizing g with
  | nil => rfl
  | cons a l ih =>
    obtain ⟨w, n, h⟩ := g.startTest_at p (p.station a).corner
    change (g.startTest p (p.station a).corner).testCorners p l = { g with
      speech := ((g.startTest p (p.station a).corner).testCorners p l).speech
      nextSerial := ((g.startTest p (p.station a).corner).testCorners p l).nextSerial }
    rw [ih, h]

/-- Start tests bring no entry into a queue. -/
theorem CueGenerator.testCorners_queue {g : CueGenerator} {k : Corner} {e : SpeechEntry}
    (he : e ∈ (look (g.testCorners p l).speech k).queue) : e ∈ (look g.speech k).queue := by
  induction l generalizing g with
  | nil => exact he
  | cons a l ih =>
    replace he : e ∈ (look (g.startTest p (p.station a).corner).speech k).queue := ih he
    obtain ⟨w, n, h, hbusy, hidle⟩ := CueGenerator.startTest_spec p (p.station a).corner g
    rw [h] at he
    dsimp only at he
    rw [look_put] at he
    split at he
    · next hk =>
      subst hk
      by_cases hi : (look g.speech (p.station a).corner).channel = .idle
      · rcases (hidle hi).cases with rfl | ⟨d, rest, m, hq, rfl⟩
        · exact he
        · rw [hq]; exact List.mem_cons_of_mem _ he
      · rw [hbusy hi] at he; exact he
    · exact he

/-- A corner with an empty queue is not touched by the start tests of any corner. -/
theorem CueGenerator.testCorners_empty {g : CueGenerator} {k : Corner} (h : (look g.speech k).queue = []) :
    look (g.testCorners p l).speech k = look g.speech k := by
  induction l generalizing g with
  | nil => rfl
  | cons a l ih =>
    have hone : look (g.startTest p (p.station a).corner).speech k = look g.speech k := by
      by_cases hk : k = (p.station a).corner
      · rw [CueGenerator.startTest_empty (hk ▸ h)]
      · obtain ⟨w, n, hw⟩ := g.startTest_at p (p.station a).corner
        rw [hw]
        exact look_put_ne _ hk _
    exact (ih (hone ▸ h)).trans hone

theorem CueGenerator.testCorners_allEmpty {g : CueGenerator} (h : ∀ k, (look g.speech k).queue = []) : g.testCorners p l = g := by
  induction l with
  | nil => rfl
  | cons a l ih =>
    change (g.startTest p (p.station a).corner).testCorners p l = g
    rw [CueGenerator.startTest_empty (h _), ih]

end Tests

/-- With every queue empty, cuts start nothing. -/
theorem CueGenerator.cutAll_serial (p : ProfileStore) (out : SpeechEntry → Bool) (l : List Station) {g : CueGenerator}
    (h : ∀ k, (look g.speech k).queue = []) : (g.cutAll p out l).nextSerial = g.nextSerial := by
  induction l generalizing g with
  | nil => rfl
  | cons a l ih =>
    change ((g.cutEntry p (p.station a).corner a out).cutAll p out l).nextSerial = g.nextSerial
    by_cases hcut : ∃ e since n, (look g.speech (p.station a).corner).channel = .playing e since n ∧ e.station = a ∧ out e = true
    · obtain ⟨e, since, n, hc, hs, ho⟩ := hcut
      rw [CueGenerator.cutEntry_cut hc hs ho]
      obtain ⟨w, m, hend, hm, hgap⟩ := CueGenerator.endPlayback_playing p .cut hc
      have hserial : m = g.nextSerial := by
        rcases Nat.eq_zero_or_pos (p.corner (p.station a).corner).gap with h0 | h0
        · have hstart : g.endPlayback p (p.station a).corner .cut =
              (((g.result e.station .cut).lapseLimit (p.station a).corner since .cut).setChannel (p.station a).corner .idle).startTest p
                (p.station a).corner := by
            unfold CueGenerator.endPlayback
            rw [hc]
            exact CueGenerator.enterGap_none h0
          rw [CueGenerator.startTest_empty] at hstart
          · exact congrArg CueGenerator.nextSerial (hend.symm.trans hstart)
          · simp [CueGenerator.setChannel, CueGenerator.lapseLimit, h]
        · exact hm h0
      rw [ih fun k => ?_, hend, hserial]
      rw [hend]
      dsimp only
      rw [look_put]
      split
      · refine List.eq_nil_iff_forall_not_mem.2 fun x hx => ?_
        have hx : x ∈ (look g.speech (p.station a).corner).queue := hgap.queue hx
        rw [h] at hx
        cases hx
      · exact h k
    · rw [CueGenerator.cutEntry_stays, ih h]
      intro e since n hc hs
      exact Bool.eq_false_iff.2 fun ho => hcut ⟨e, since, n, hc, hs, ho⟩

/-! ## The stations leave -/

/-- An entry is at corner k one of the stations l, whose corner that is. -/
def LeavesAt (p : ProfileStore) (l : List Station) (k : Corner) (e : SpeechEntry) : Prop :=
  (p.station e.station).corner = k ∧ e.station ∈ l

theorem LeavesAt.marked {p : ProfileStore} {l : List Station} {k : Corner} {e : SpeechEntry} :
    Marked p l (fun _ => true) k e ↔ LeavesAt p l k e :=
  ⟨fun h => ⟨h.2.1, h.1⟩, fun h => ⟨h.2, h.1, rfl⟩⟩

/-- What the stations of l leaving ACTIVE together make of the Cue Generator, from g to t (R139). -/
structure LeftTogether (p : ProfileStore) (l : List Station) (g t : CueGenerator) : Prop where
  frame : t = { g with stations := t.stations, speech := t.speech, nextSerial := t.nextSerial }
  silent : ∀ i ∈ l, look t.stations i =
    { sound := .none, armed := false, covering := false, tactile := false, indicator := .off, result := (look t.stations i).result }
  others : ∀ i, i ∉ l → look t.stations i = look g.stations i
  cut : ∀ i ∈ l, (∃ e since n, (look g.speech (p.station i).corner).channel = .playing e since n ∧ e.station = i) →
    (look t.stations i).result = .cut
  dropped : ∀ i ∈ l, (∀ e since n, (look g.speech (p.station i).corner).channel = .playing e since n → e.station ≠ i) →
    (∃ e ∈ (look g.speech (p.station i).corner).queue, e.station = i) → (look t.stations i).result = .dropped
  kept : ∀ i ∈ l, (∀ e since n, (look g.speech (p.station i).corner).channel = .playing e since n → e.station ≠ i) →
    (∀ e ∈ (look g.speech (p.station i).corner).queue, e.station ≠ i) → (look t.stations i).result = (look g.stations i).result
  gone : ∀ i ∈ l, ∀ e ∈ (look t.speech (p.station i).corner).queue, e.station ≠ i
  emptied : ∀ k, (∀ e ∈ (look g.speech k).queue, LeavesAt p l k e) →
    (∀ e since n, (look g.speech k).channel = .playing e since n → ¬ LeavesAt p l k e) →
      look t.speech k = { look g.speech k with queue := [] }
  stopped : ∀ k, (∀ e ∈ (look g.speech k).queue, LeavesAt p l k e) →
    ∀ e since n, (look g.speech k).channel = .playing e since n → LeavesAt p l k e →
      look t.speech k = {
        channel := if (p.corner k).gap = 0 then .idle else .gap (p.corner k).gap, queue := []
        limitLapsed := (look g.speech k).limitLapsed || decide (20000 ≤ since) }
  serial : (∀ k, ∀ e ∈ (look g.speech k).queue, LeavesAt p l k e) → t.nextSerial = g.nextSerial

/-- A gap entered over an empty queue. -/
theorem GapEntered.empty {gap : Nat} {walking : Prop} {v w : CornerSpeech} (h : GapEntered gap walking v w) (hq : v.queue = []) :
    w = { v with channel := if gap = 0 then .idle else .gap gap } := by
  by_cases h0 : gap = 0
  · rw [if_pos h0]
    exact (h.2 h0).1 hq
  · rw [if_neg h0]
    exact h.1 (Nat.pos_of_ne_zero h0)

/-- The acts of R139, taken for all the stations at once: the entries, the playbacks, the sounds, the start tests. -/
theorem CueGenerator.leaveAll_left (p : ProfileStore) (l : List Station) (g : CueGenerator) : LeftTogether p l g (g.leaveAll p l) := by
  obtain ⟨d, hd⟩ : ∃ d, d = g.dropAll p (fun _ => true) l := ⟨_, rfl⟩
  have hdframe := CueGenerator.dropAll_frame p (fun _ => true) l g
  have hdspeech (k : Corner) := CueGenerator.dropAll_speech p (fun _ => true) l g k
  have hdresult (i : Station) := CueGenerator.dropAll_results p (fun _ => true) l g i
  rw [← hd] at hdframe hdspeech hdresult
  have hchannel (k : Corner) : (look d.speech k).channel = (look g.speech k).channel := by
    obtain ⟨left, h, -⟩ := hdspeech k
    rw [h]
  have clear (k : Corner) (x : SpeechEntry) (hx : x ∈ (look d.speech k).queue) : ¬ LeavesAt p l k x := by
    obtain ⟨left, h, rfl⟩ := hdspeech k
    rw [h] at hx
    have := (List.mem_filter.1 hx).2
    exact fun hl => by simp [hl.1, hl.2] at this
  have emptied (k : Corner) (h : ∀ e ∈ (look g.speech k).queue, LeavesAt p l k e) :
      look d.speech k = { look g.speech k with queue := [] } := by
    obtain ⟨left, hl, rfl⟩ := hdspeech k
    rw [hl, List.filter_eq_nil_iff.2]
    exact fun e he => by simp [(h e he).1, (h e he).2]
  obtain ⟨hcframe, hcstays, hccut, hcresult, hcquiet⟩ := CueGenerator.cutAll_cut l d fun k x hx hm => clear k x hx (LeavesAt.marked.1 hm)
  have hcserial := CueGenerator.cutAll_serial p (fun _ => true) l (g := d)
  generalize hc : d.cutAll p (fun _ => true) l = c at *
  obtain ⟨z, hz⟩ : ∃ z, z = l.foldl CueGenerator.silenceStation c := ⟨_, rfl⟩
  have hzframe := CueGenerator.silenceAll_frame l c
  have hzlook := CueGenerator.silenceAll_look l c
  rw [← hz] at hzframe hzlook
  have hzspeech : z.speech = c.speech := by rw [hzframe]
  have ht : g.leaveAll p l = z.testCorners p l := by
    rw [hz, ← hc, hd]
    rfl
  have htframe := z.testCorners_frame p l
  have hstations : (z.testCorners p l).stations = z.stations := by rw [htframe]
  -- a corner whose queue is empty after the cuts
  have still {k : Corner} (h : (look c.speech k).queue = []) : look (z.testCorners p l).speech k = look c.speech k := by
    rw [CueGenerator.testCorners_empty p l (by rw [hzspeech]; exact h), hzspeech]
  have quiet (i : Station) (h : ∀ e since n, (look g.speech (p.station i).corner).channel = .playing e since n → e.station ≠ i) :
      look c.stations i = look d.stations i := by
    refine hcquiet i fun k e since n hp hm hs => ?_
    obtain rfl := hs
    obtain rfl := hm.2.1
    exact h e since n ((hchannel _).symm.trans hp) rfl
  rw [ht]
  refine ⟨?_, fun i hi => ?_, fun i hi => ?_, fun i hi => ?_, fun i hi hp hq => ?_, fun i hi hp hq => ?_, fun i hi e he hs => ?_,
    fun k hq hp => ?_, fun k hq e since n hp he => ?_, fun hq => ?_⟩
  · rw [htframe, hzframe, hcframe, hdframe]
  · rw [hstations, hzlook, if_pos hi]
    rfl
  · rw [hstations, hzlook, if_neg hi, hcquiet i fun k e since n _ hm hs => hi (hs ▸ hm.1), (hdresult i).2 fun e _ _ hl => absurd hl hi]
  · rintro ⟨e, since, n, hp, rfl⟩
    rw [hstations, hzlook, if_pos hi, hcresult _ e since n ((hchannel _).trans hp) ⟨hi, rfl, rfl⟩]
    rfl
  · obtain ⟨e, he, hs⟩ := hq
    rw [hstations, hzlook, if_pos hi, quiet i hp, (hdresult i).1 ⟨e, he, hs, hi, rfl⟩]
    rfl
  · rw [hstations, hzlook, if_pos hi, quiet i hp, (hdresult i).2 fun e he hs _ => absurd hs (hq e he)]
    rfl
  · have he := CueGenerator.testCorners_queue p l he
    rw [hzspeech] at he
    have hd' : e ∈ (look d.speech (p.station i).corner).queue := by
      by_cases hm : ∃ x since n, (look d.speech (p.station i).corner).channel = .playing x since n ∧
          Marked p l (fun _ => true) (p.station i).corner x
      · obtain ⟨x, since, n, hx, hm⟩ := hm
        exact (hccut _ x since n hx hm).queue he
      · rw [hcstays _ fun x since n hx hm' => hm ⟨x, since, n, hx, hm'⟩] at he
        exact he
    exact clear _ e hd' ⟨by rw [hs], hs ▸ hi⟩
  · have hk : look c.speech k = { look g.speech k with queue := [] } := by
      rw [hcstays k fun e since n hx hm => hp e since n ((hchannel k).symm.trans hx) (LeavesAt.marked.1 hm), emptied k hq]
    rw [still (by rw [hk]), hk]
  · have hk := (hccut k e since n ((hchannel k).trans hp) (LeavesAt.marked.2 he)).empty (by rw [emptied k hq]; rfl)
    rw [still (by rw [hk, emptied k hq]; rfl), hk, emptied k hq, CornerSpeech.ended_cut]
  · have hnone (k : Corner) : (look d.speech k).queue = [] := by rw [emptied k (hq k)]
    have hcnone (k : Corner) : (look z.speech k).queue = [] := by
      rw [hzspeech]
      by_cases hm : ∃ x since n, (look d.speech k).channel = .playing x since n ∧ Marked p l (fun _ => true) k x
      · obtain ⟨x, since, n, hx, hm⟩ := hm
        rw [(hccut k x since n hx hm).empty (hnone k)]
        exact hnone k
      · rw [hcstays k fun x since n hx hm' => hm ⟨x, since, n, hx, hm'⟩]
        exact hnone k
    rw [CueGenerator.testCorners_allEmpty p l hcnone, congrArg CueGenerator.nextSerial hzframe, hcserial hnone,
      congrArg CueGenerator.nextSerial hdframe]

end Sys2Proof.Machine

/-! RESTART STATION BUS, up to the new frame (R174). -/

namespace Sys2Proof.Machine

/-! ## Every station in turn -/

/-- The link of station i after a section reset, under the frame length n (R174). -/
def StationLink.restarted (enabled : Bool) (n : Nat) (i : Station) (l : StationLink) : StationLink :=
  { l with state := if enabled then .absent else .disabled, beyond := enabled && decide (n ≤ i.val), misses := 0 }

/-- A station's level after a section reset: an ACTIVE station leaves at the Level Tracker (R154). -/
def LevelState.restarted (x : LinkState) (l : LevelState) : LevelState := if x = .active then l.leave else l

theorem State.sectionStation_eq (s : State) (i : Station) :
    s.sectionStation i =
      { s with
        press := change s.press i PressState.abandon
        table := { s.table with targets := put s.table.targets i .none }
        levels := change s.levels i (LevelState.restarted (s.linkState i))
        bus := { s.bus with
          stations := change s.bus.stations i (StationLink.restarted (s.store.station i).enabled s.bus.frameLength i) } } := by
  unfold State.sectionStation LevelState.restarted StationLink.restarted
  by_cases ha : s.linkState i = .active <;> cases he : (s.store.station i).enabled <;>
    simp [ha, he, State.abandonPress, State.onPress, State.onTable, State.onLevel, State.onLink, CallTable.aim,
      change_eq_put]

/-- What the section reset makes of the stations of l, from s to u, beside the Cue Generator. -/
structure Restarted (l : List Station) (s u : State) : Prop where
  frame : u = { s with
    bus := { s.bus with stations := u.bus.stations }, press := u.press, table := { s.table with targets := u.table.targets }
    levels := u.levels }
  done : ∀ i ∈ l, look u.press i = (look s.press i).abandon ∧ look u.table.targets i = .none ∧
    look u.levels i = (look s.levels i).restarted (s.linkState i) ∧
    look u.bus.stations i = (look s.bus.stations i).restarted (s.store.station i).enabled s.bus.frameLength i
  same : ∀ i, i ∉ l → look u.press i = look s.press i ∧ look u.table.targets i = look s.table.targets i ∧
    look u.levels i = look s.levels i ∧ look u.bus.stations i = look s.bus.stations i

theorem Restarted.one (i : Station) (s : State) : Restarted [i] s (s.sectionStation i) := by
  rw [State.sectionStation_eq]
  refine ⟨rfl, fun j hj => ?_, fun j hj => ?_⟩
  · obtain rfl := List.mem_singleton.1 hj
    exact ⟨look_change_self _ _ _, look_put_self _ _ _, look_change_self _ _ _, look_change_self _ _ _⟩
  · have hj : j ≠ i := fun h => hj (List.mem_singleton.2 h)
    exact ⟨look_change_ne _ hj _, look_put_ne _ hj _, look_change_ne _ hj _, look_change_ne _ hj _⟩

/-- One station more. -/
theorem Restarted.cons {a : Station} {l : List Station} {s t u : State} (ha : a ∉ l) (h : Restarted [a] s t) (k : Restarted l t u) :
    Restarted (a :: l) s u := by
  obtain ⟨hframe, hdone, hsame⟩ := h
  obtain ⟨kframe, kdone, ksame⟩ := k
  have hother {i : Station} (hi : i ≠ a) := hsame i fun h => hi (List.mem_singleton.1 h)
  have hstore : t.store = s.store ∧ t.bus.frameLength = s.bus.frameLength := by rw [hframe]; exact ⟨rfl, rfl⟩
  refine ⟨?_, fun i hi => ?_, fun i hi => ?_⟩
  · rw [kframe, hframe]
  · by_cases hia : i = a
    · subst hia
      obtain ⟨k1, k2, k3, k4⟩ := ksame i ha
      rw [k1, k2, k3, k4]
      exact hdone i (List.mem_singleton.2 rfl)
    · obtain ⟨k1, k2, k3, k4⟩ := kdone i ((List.mem_cons.1 hi).resolve_left hia)
      obtain ⟨h1, -, h3, h4⟩ := hother hia
      have hlink : t.linkState i = s.linkState i := congrArg StationLink.state h4
      rw [k1, k2, k3, k4, h1, h3, h4, hlink, hstore.1, hstore.2]
      exact ⟨rfl, rfl, rfl, rfl⟩
  · obtain ⟨hia, hil⟩ := not_or.1 fun h => hi (List.mem_cons.2 h)
    obtain ⟨k1, k2, k3, k4⟩ := ksame i hil
    rw [k1, k2, k3, k4]
    exact hother hia

theorem State.sectionAll_restarted {l : List Station} (hl : l.Nodup) (s : State) : Restarted l s (l.foldl State.sectionStation s) := by
  induction l generalizing s with
  | nil => exact ⟨rfl, fun i hi => absurd hi List.not_mem_nil, fun i _ => ⟨rfl, rfl, rfl, rfl⟩⟩
  | cons a l ih =>
    obtain ⟨ha, hl⟩ := List.nodup_cons.1 hl
    exact Restarted.cons ha (Restarted.one a s) (ih hl _)

/-! ## Before the new frame -/

/-- The stations that leave ACTIVE at a section reset. -/
def State.actives (s : State) : List Station := members fun i : Station => decide (s.linkState i = .active)

theorem State.mem_actives {s : State} {i : Station} : i ∈ s.actives ↔ s.linkState i = .active := by
  unfold State.actives
  rw [mem_members, decide_eq_true_iff]

/-- The section reset up to its new frame (R174). -/
def State.sectionCleared (s : State) : State :=
  ((List.finRange 48).foldl State.sectionStation (s.onBus fun b => { b with slot := none }).leaveAllCues).onBus fun b =>
    { b with frameNumber := 0, firstFrame := true }

theorem State.sectionReset_eq (s : State) : s.sectionReset = s.sectionCleared.startFrame := rfl

/-- What stands before the new frame of a section reset. -/
structure SectionCleared (s w : State) : Prop where
  frame : w = { s with
    bus := { s.bus with frameNumber := 0, firstFrame := true, slot := none, stations := w.bus.stations }
    press := w.press, table := { s.table with targets := w.table.targets }
    cues := { s.cues with stations := w.cues.stations, speech := w.cues.speech, nextSerial := w.cues.nextSerial }
    levels := w.levels }
  station : ∀ i, look w.press i = (look s.press i).abandon ∧ look w.table.targets i = .none ∧
    look w.levels i = (look s.levels i).restarted (s.linkState i) ∧
    look w.bus.stations i = (look s.bus.stations i).restarted (s.store.station i).enabled s.bus.frameLength i
  cues : LeftTogether s.store s.actives s.cues w.cues

theorem State.sectionCleared_cleared (s : State) : SectionCleared s s.sectionCleared := by
  obtain ⟨v, hv⟩ : ∃ v, v = (s.onBus fun b => { b with slot := none }).leaveAllCues := ⟨_, rfl⟩
  have hcues : v.cues = s.cues.leaveAll s.store s.actives := by
    rw [hv]
    exact State.leaveAllCues_cues _
  have hvframe : v = { s with bus := { s.bus with slot := none }, cues := v.cues } := by
    rw [hv]
    rfl
  obtain ⟨hframe, hdone, -⟩ := State.sectionAll_restarted (List.nodup_finRange 48) v
  have hleft := s.cues.leaveAll_left s.store s.actives
  have hw : s.sectionCleared =
      ((List.finRange 48).foldl State.sectionStation v).onBus fun b => { b with frameNumber := 0, firstFrame := true } := by
    rw [hv]
    rfl
  rw [← hcues] at hleft
  generalize (List.finRange 48).foldl State.sectionStation v = u at *
  have hucues : u.cues = v.cues := by rw [hframe]
  rw [hw]
  refine ⟨?_, fun i => ?_, ?_⟩
  · have hc := hleft.frame
    rw [← hucues] at hc
    rw [hframe, hvframe]
    dsimp only [State.onBus]
    rw [← hucues, hc]
  · have hold : look v.press i = look s.press i ∧ look v.levels i = look s.levels i ∧ look v.bus.stations i = look s.bus.stations i ∧
        v.linkState i = s.linkState i ∧ v.store = s.store ∧ v.bus.frameLength = s.bus.frameLength := by
      rw [hvframe]
      exact ⟨rfl, rfl, rfl, rfl, rfl, rfl⟩
    obtain ⟨o1, o2, o3, o4, o5, o6⟩ := hold
    obtain ⟨h1, h2, h3, h4⟩ := hdone i (List.mem_finRange i)
    rw [o1] at h1
    rw [o2, o4] at h3
    rw [o3, o5, o6] at h4
    exact ⟨h1, h2, h3, h4⟩
  · rw [← hucues] at hleft
    exact hleft

end Sys2Proof.Machine

/-! RESTART STATION BUS, its new frame (R160, R174). -/

namespace Sys2Proof.Machine

/-! ## The frame length over stations none of which is ACTIVE -/

theorem StationLink.restarted_fitted (e : Bool) (m n : Nat) (i : Station) (l : StationLink) :
    (l.restarted e m i).fitted n i = l.restarted e n i := by
  unfold StationLink.fitted StationLink.restarted
  cases e with
  | false => simp
  | true => by_cases hn : n ≤ i.val <;> by_cases hm : m ≤ i.val <;> simp [hn, hm]

theorem StationLink.restarted_state (e : Bool) (n : Nat) (i : Station) (l : StationLink) : (l.restarted e n i).state ≠ .active := by
  cases e <;> simp [StationLink.restarted]

/-- Where no station is ACTIVE a frame length changes links alone, and restarted ones as though they were restarted under it. -/
theorem State.applyLength_absent {w : State} (h : ∀ i, w.linkState i ≠ .active) :
    w.applyLength = { w with
      store := { w.store with nextFrameLength := none }
      bus := { w.bus with
        frameLength := w.store.nextFrameLength.getD w.bus.frameLength, stations := w.applyLength.bus.stations } } ∧
    ∀ i e l, look w.bus.stations i = StationLink.restarted e w.bus.frameLength i l →
      look w.applyLength.bus.stations i = l.restarted e (w.store.nextFrameLength.getD w.bus.frameLength) i := by
  by_cases hk : w.store.nextFrameLength.getD w.bus.frameLength = w.bus.frameLength
  · rw [State.applyLength_kept hk, hk]
    exact ⟨rfl, fun i e l hl => hl⟩
  · obtain ⟨n, hn⟩ : ∃ n, w.store.nextFrameLength = some n := by
      cases hn : w.store.nextFrameLength with
      | none => rw [hn] at hk; exact absurd rfl hk
      | some n => exact ⟨n, rfl⟩
    rw [hn] at hk ⊢
    obtain ⟨hframe, hstations⟩ := State.applyLength_fitted (out := []) hn hk List.Pairwise.nil fun i =>
      iff_of_false List.not_mem_nil fun hi => h i hi.2
    generalize w.applyLength = u at *
    have hpress : u.press = w.press := table_ext fun i => ((hstations i).2.2 List.not_mem_nil).1
    have htargets : u.table.targets = w.table.targets := table_ext fun i => ((hstations i).2.2 List.not_mem_nil).2.1
    have hlevels : u.levels = w.levels := table_ext fun i => ((hstations i).2.2 List.not_mem_nil).2.2
    rw [hpress, htargets, hlevels] at hframe
    refine ⟨hframe, fun i e l hl => ?_⟩
    rw [(hstations i).1, hl, StationLink.restarted_fitted]
    rfl

/-! ## The transfers -/

/-- A corner whose queue is empty is not touched by a transfer. -/
theorem SpeechShrunk.empty {v w : CornerSpeech} (h : SpeechShrunk v w) (hq : v.queue = []) : w = v := by
  obtain ⟨q, hsub, hw⟩ := h
  have hnil : q = [] := List.eq_nil_iff_forall_not_mem.2 fun e he => by
    have := hsub e he
    rw [hq] at this
    cases this
  subst hnil
  rcases hw with rfl | ⟨-, d, rest, n, hd, -⟩
  · rw [← hq]
  · cases hd

theorem State.testStation_emptyCorner {s : State} {k : Corner} (j : Station) (h : (look s.cues.speech k).queue = []) :
    look (s.testStation j).cues.speech k = look s.cues.speech k := by
  by_cases hm : ∃ new, (look s.store.stations j).pending = some new ∧ StationAtRest s j
  · obtain ⟨new, hp, hr⟩ := hm
    rw [State.testStation_moves hp hr]
    exact (State.transferStation_shrunk new hr k).empty h
  · rw [State.testStation_stays]
    cases hp : (look s.store.stations j).pending with
    | none => exact .inl rfl
    | some new => exact .inr fun hr => hm ⟨new, hp, hr⟩

theorem State.testAll_emptyCorner {s : State} {k : Corner} (l : List Station) (h : (look s.cues.speech k).queue = []) :
    look (l.foldl (fun s j => s.testStation j) s).cues.speech k = look s.cues.speech k := by
  induction l generalizing s with
  | nil => rfl
  | cons a l ih =>
    have hone := State.testStation_emptyCorner a h
    exact (ih (by rw [hone]; exact h)).trans hone

theorem State.beforeSlotZero_emptyCorner {s : State} {k : Corner} (h : (look s.applyLength.cues.speech k).queue = []) :
    look s.beforeSlotZero.cues.speech k = look s.applyLength.cues.speech k := by
  unfold State.beforeSlotZero
  exact State.testAll_emptyCorner _ h

/-- What is the same of station i, not ACTIVE, after its own test: all but its link, its profile, its range and its window. -/
structure StaysAbsent (i : Station) (s t : State) : Prop where
  link : ∀ l n, s.bus.frameLength = n → look s.bus.stations i = StationLink.restarted (s.store.station i).enabled n i l →
    look t.bus.stations i = l.restarted (t.store.station i).enabled n i
  press : look t.press i = look s.press i
  target : look t.table.targets i = look s.table.targets i
  ambient : (look t.levels i).ambient = (look s.levels i).ambient
  output : (look s.levels i).output = none → (look t.levels i).output = none
  window : (look s.levels i).windowOpen = false → (look t.levels i).windowOpen = false
  cue : (∀ e ∈ (look s.cues.speech (s.store.station i).corner).queue, e.station ≠ i) →
    (look s.cues.stations i).armed = false ∧ (look s.cues.stations i).covering = false → look t.cues.stations i = look s.cues.stations i

theorem StaysAbsent.refl (i : Station) (s : State) : StaysAbsent i s s :=
  ⟨fun _ _ _ h => h, rfl, rfl, rfl, id, id, fun _ _ => rfl⟩

theorem State.transferStation_absent {s : State} {i : Station} (new : StationProfile) (h : s.linkState i ≠ .active) :
    StaysAbsent i s (s.transferStation i new) := by
  have hmoved := s.transferLink_moved i new
  have heq := State.transferStation_moved rfl hmoved
  obtain ⟨hpress, htargets, hlevels, stale, -, hcues⟩ := hmoved.stays (.inr (.inr h))
  have hlevel : look (s.transferStation i new).levels i =
      (look s.levels i).reranged new s.store.mode (decide (new.corner = (s.store.station i).corner)) := by
    rw [heq]
    dsimp only
    rw [look_change_self, hlevels]
  rw [LevelState.reranged_eq] at hlevel
  refine ⟨fun l n hn hl => ?_, ?_, ?_, ?_, fun ho => ?_, fun hw => ?_, fun hq hc => ?_⟩
  · have hnew : (s.transferStation i new).store.station i = new := by
      rw [heq]
      exact congrArg Copies.active (look_put_self _ _ _)
    have hlinks : (s.transferStation i new).bus.stations = (s.transferLink i new).bus.stations := by rw [heq]
    rw [hnew, hlinks]
    cases ho : (s.store.station i).enabled <;> cases hnw : new.enabled
    · rw [hmoved.unlinked (ho.trans hnw.symm) (.inl hnw), hl, ho]
    · rw [hmoved.enabled ho hnw, hl, hn]
      rfl
    · rw [hmoved.disabled ho hnw, hl]
      rfl
    · rw [hmoved.unlinked (ho.trans hnw.symm) (.inr (.inl h)), hl, ho]
  · rw [heq, hpress]
  · rw [heq]
    dsimp only
    rw [CallTable.recrossed_targets, htargets]
  · rw [hlevel]
  · rw [hlevel, ho]
    rfl
  · rw [hlevel, hw]
    rfl
  · rw [heq]
    dsimp only
    rw [hcues, CueGenerator.dropEntries_none fun e he hs => absurd hs (hq e he), CueGenerator.recornered_left _ hq hc]

theorem State.testStation_absent {s : State} {i : Station} (h : s.linkState i ≠ .active) : StaysAbsent i s (s.testStation i) := by
  by_cases hm : ∃ new, (look s.store.stations i).pending = some new ∧ StationAtRest s i
  · obtain ⟨new, hp, hr⟩ := hm
    rw [State.testStation_moves hp hr]
    exact State.transferStation_absent new h
  · rw [State.testStation_stays]
    · exact StaysAbsent.refl i s
    · cases hp : (look s.store.stations i).pending with
      | none => exact .inl rfl
      | some new => exact .inr fun hr => hm ⟨new, hp, hr⟩

/-- A station that is not ACTIVE through all the transfers of a frame start. -/
theorem State.testAll_absent {s : State} {i : Station} (h : s.linkState i ≠ .active) :
    StaysAbsent i s ((List.finRange 48).foldl (fun s j => s.testStation j) s) := by
  obtain ⟨a, b, ha, hmoved, rfl, hb⟩ := s.testAll_split i
  have hlink : a.linkState i = s.linkState i := congrArg StationLink.state ha.link
  have hlength : a.bus.frameLength = s.bus.frameLength := by rw [hmoved]
  obtain ⟨blink, bpress, btarget, bambient, boutput, bwindow, bcue⟩ := State.testStation_absent (hlink ▸ h)
  rw [ha.link, ha.station, hlength] at blink
  rw [ha.press] at bpress
  rw [ha.target] at btarget
  rw [ha.level] at bambient boutput bwindow
  rw [ha.station, ha.cue] at bcue
  refine ⟨?_, ?_, ?_, ?_, ?_, ?_, fun hq hc => ?_⟩
  · rw [hb.link, hb.station]
    exact blink
  · rw [hb.press, bpress]
  · rw [hb.target, btarget]
  · rw [hb.level, bambient]
  · rw [hb.level]
    exact boutput
  · rw [hb.level]
    exact bwindow
  · rw [hb.cue]
    exact bcue (ha.waiting hq).1 hc

theorem State.beforeSlotZero_absent {s : State} {i : Station} (h : s.applyLength.linkState i ≠ .active) :
    StaysAbsent i s.applyLength s.beforeSlotZero := by
  unfold State.beforeSlotZero
  exact State.testAll_absent h

theorem State.startFrame_eq (s : State) : s.startFrame = s.beforeSlotZero.sendSlotZero := rfl

end Sys2Proof.Machine

/-! RESTART STATION BUS: the statement. -/

namespace Sys2Proof.Machine

theorem LevelState.restarted_active (l : LevelState) : l.restarted .active = { l with output := none, windowOpen := false } := rfl

theorem LevelState.restarted_other {x : LinkState} (h : x ≠ .active) (l : LevelState) : l.restarted x = l := if_neg h

theorem LevelState.restarted_ambient (x : LinkState) (l : LevelState) : (l.restarted x).ambient = l.ambient := by
  unfold LevelState.restarted
  split <;> rfl

section Cleared

variable {s w : State}

theorem SectionCleared.absent (h : SectionCleared s w) (i : Station) : w.linkState i ≠ .active := by
  unfold State.linkState
  rw [(h.station i).2.2.2]
  exact StationLink.restarted_state _ _ _ _

/-- A station that left ACTIVE at the reset has no entry left at its corner, and nothing is armed or covered. -/
theorem SectionCleared.left (h : SectionCleared s w) {i : Station} (ha : s.linkState i = .active) :
    (∀ e ∈ (look w.cues.speech (s.store.station i).corner).queue, e.station ≠ i) ∧
      (look w.cues.stations i).armed = false ∧ (look w.cues.stations i).covering = false := by
  have hi := State.mem_actives.2 ha
  have hs := h.cues.silent i hi
  exact ⟨h.cues.gone i hi, by rw [hs], by rw [hs]⟩

/-- A corner all of whose entries leave is empty, whatever its channel did. -/
theorem SectionCleared.emptied (h : SectionCleared s w) {k : Corner}
    (hq : ∀ e ∈ (look s.cues.speech k).queue, LeavesAt s.store s.actives k e) : (look w.cues.speech k).queue = [] := by
  by_cases hp : ∃ e since n, (look s.cues.speech k).channel = .playing e since n ∧ LeavesAt s.store s.actives k e
  · obtain ⟨e, since, n, hc, he⟩ := hp
    rw [h.cues.stopped k hq e since n hc he]
  · rw [h.cues.emptied k hq fun e since n hc he => hp ⟨e, since, n, hc, he⟩]

/-- The new frame of a section reset: what it leaves of every station before slot 0. -/
structure FrameAfterReset (s w x : State) : Prop where
  link : ∀ i, look x.bus.stations i = (look s.bus.stations i).restarted (x.store.station i).enabled x.bus.frameLength i
  press : ∀ i, look x.press i = (look s.press i).abandon
  target : ∀ i, look x.table.targets i = .none
  ambient : ∀ i, (look x.levels i).ambient = (look s.levels i).ambient
  level : ∀ i, s.linkState i = .active → (look x.levels i).output = none ∧ (look x.levels i).windowOpen = false
  cue : ∀ i, s.linkState i = .active → look x.cues.stations i = look w.cues.stations i
  corner : ∀ k, (look w.cues.speech k).queue = [] → look x.cues.speech k = look w.cues.speech k

theorem SectionCleared.frame_after (h : SectionCleared s w) : FrameAfterReset s w w.beforeSlotZero := by
  obtain ⟨hframe, hlinks⟩ := State.applyLength_absent h.absent
  have hlength : w.beforeSlotZero.bus.frameLength = w.applyLength.bus.frameLength := by
    rw [w.beforeSlotZero_frame, hframe]
  have hlink (i : Station) : look w.applyLength.bus.stations i =
      (look s.bus.stations i).restarted (w.applyLength.store.station i).enabled w.applyLength.bus.frameLength i := by
    have hstore : w.applyLength.store.station i = s.store.station i := by rw [hframe, h.frame]; rfl
    have hw : w.bus.frameLength = s.bus.frameLength := by rw [h.frame]
    rw [hstore, hlinks i (s.store.station i).enabled (look s.bus.stations i) (by rw [(h.station i).2.2.2, hw])]
    rw [hframe]
  have hstays (i : Station) : StaysAbsent i w.applyLength w.beforeSlotZero := by
    refine State.beforeSlotZero_absent ?_
    unfold State.linkState
    rw [hlink]
    exact StationLink.restarted_state _ _ _ _
  have hcorner (k : Corner) (hk : (look w.applyLength.cues.speech k).queue = []) :
      look w.beforeSlotZero.cues.speech k = look w.applyLength.cues.speech k := State.beforeSlotZero_emptyCorner hk
  have same : w.applyLength.press = w.press ∧ w.applyLength.table = w.table ∧ w.applyLength.levels = w.levels ∧
      w.applyLength.cues = w.cues ∧ w.applyLength.store.stations = s.store.stations := by
    rw [hframe]
    refine ⟨rfl, rfl, rfl, rfl, ?_⟩
    rw [h.frame]
  generalize w.beforeSlotZero = x at *
  generalize w.applyLength = u at *
  obtain ⟨spress, stable, slevels, scues, sstations⟩ := same
  have hstation (i : Station) : u.store.station i = s.store.station i := congrArg (fun t => (look t i).active) sstations
  rw [scues] at hcorner
  refine ⟨fun i => ?_, fun i => ?_, fun i => ?_, fun i => ?_, fun i ha => ?_, fun i ha => ?_, hcorner⟩
  · rw [hlength]
    exact (hstays i).link _ _ rfl (hlink i)
  · rw [(hstays i).press, spress, (h.station i).1]
  · rw [(hstays i).target, stable, (h.station i).2.1]
  · rw [(hstays i).ambient, slevels, (h.station i).2.2.1, LevelState.restarted_ambient]
  · have hl : look u.levels i = { look s.levels i with output := none, windowOpen := false } := by
      rw [slevels, (h.station i).2.2.1, ha, LevelState.restarted_active]
    exact ⟨(hstays i).output (by rw [hl]), (hstays i).window (by rw [hl])⟩
  · have hcue := (hstays i).cue
    rw [hstation, scues] at hcue
    exact hcue (h.left ha).1 (h.left ha).2

end Cleared

theorem exec_restartStationBus_frame (s : State) :
    exec .restartStationBus s = .next (s.sectionCleared.beforeSlotZero.sendSlotZero.answer .ok) := by
  rw [exec_restartStationBus, State.sectionReset_eq, State.startFrame_eq]

/-- What slot 0 of the new frame makes of the state x before it (R119, R174). -/
def State.frameZero (marks : Corner → Bool) (x : State) : State :=
  { x with
    bus := { x.bus with frameNumber := 0, firstFrame := false, frameTime := 0, slot := none, sent := slotZero 0 marks }
    cues := { x.cues with corners := mapAll (fun _ c => { c with mark := false }) x.cues.corners } }

/-- What a section reset of s comes to: w stands before the new frame, x before its slot 0. -/
structure ResetRuns (s w x : State) : Prop where
  cleared : SectionCleared s w
  after : FrameAfterReset s w x
  frame : x = { s with
    store := { s.store with stations := x.store.stations, nextFrameLength := none }
    bus := { s.bus with
      frameNumber := 0, firstFrame := true, slot := none
      frameLength := s.store.nextFrameLength.getD s.bus.frameLength, stations := x.bus.stations }
    press := x.press, table := x.table
    cues := { s.cues with stations := x.cues.stations, speech := x.cues.speech, nextSerial := x.cues.nextSerial }
    levels := x.levels }
  exec : exec .restartStationBus s = .next ((x.frameZero fun k => (look s.cues.corners k).mark).answer .ok)
  starts : Machine.exec .frameStart w = .next (x.frameZero fun k => (look s.cues.corners k).mark)
  kept : (∀ i, (look s.store.stations i).pending = none) →
    x.store = { s.store with nextFrameLength := none } ∧ x.table = w.table ∧ x.levels = w.levels ∧ x.cues = w.cues

theorem State.sectionReset_runs (s : State) : ∃ w x, ResetRuns s w x := by
  obtain ⟨w, hw⟩ : ∃ w, w = s.sectionCleared := ⟨_, rfl⟩
  obtain ⟨x, hx⟩ : ∃ x, x = w.beforeSlotZero := ⟨_, rfl⟩
  have hclear : SectionCleared s w := hw ▸ s.sectionCleared_cleared
  have hafter : FrameAfterReset s w x := hx ▸ hclear.frame_after
  have hframe := w.beforeSlotZero_frame
  have hexec := exec_restartStationBus_frame s
  have hstart := exec_frameStart_eq w
  have hnone := State.beforeSlotZero_none (s := w)
  obtain ⟨habsent, -⟩ := State.applyLength_absent hclear.absent
  rw [← hw, ← hx] at hexec
  rw [← hx] at hframe hstart hnone
  rw [hclear.frame] at hframe
  dsimp only at hframe
  have hslot : x.sendSlotZero = x.frameZero fun k => (look s.cues.corners k).mark := by
    have hfirst : x.bus.firstFrame = true ∧ x.bus.frameNumber = 0 ∧ x.cues.corners = s.cues.corners := by
      rw [hframe]
      exact ⟨rfl, rfl, rfl⟩
    obtain ⟨h1, h2, h3⟩ := hfirst
    rw [State.sendSlotZero_eq, State.frameZero, h1, h2, h3]
    rfl
  rw [hslot] at hexec hstart
  refine ⟨w, x, hclear, hafter, hframe, hexec, hstart, fun hp => ?_⟩
  have hpend (i : Station) : (look w.store.stations i).pending = none := by
    rw [hclear.frame]
    exact hp i
  rw [hnone hpend, habsent]
  refine ⟨?_, rfl, rfl, rfl⟩
  rw [hclear.frame]

section Runs

variable {s w x : State}

theorem leavesAt_iff {s : State} {k : Corner} {e : SpeechEntry} :
    LeavesAt s.store s.actives k e ↔ (s.store.station e.station).corner = k ∧ s.linkState e.station = .active :=
  and_congr_right fun _ => State.mem_actives

/-- An ACTIVE station's cue state, but for its result, is that of a station that has left. -/
theorem ResetRuns.cue (h : ResetRuns s w x) {i : Station} (ha : s.linkState i = .active) :
    look x.cues.stations i = { sound := .none, armed := false, covering := false, tactile := false, indicator := .off
                               result := (look x.cues.stations i).result } := by
  rw [h.after.cue i ha]
  exact h.cleared.cues.silent i (State.mem_actives.2 ha)

/-- The result of a station that leaves is settled before the new frame. -/
theorem ResetRuns.result (h : ResetRuns s w x) {i : Station} (ha : s.linkState i = .active) :
    ((∃ e since n, (look s.cues.speech (s.store.station i).corner).channel = .playing e since n ∧ e.station = i) →
      (look x.cues.stations i).result = .cut) ∧
    ((∀ e since n, (look s.cues.speech (s.store.station i).corner).channel = .playing e since n → e.station ≠ i) →
      ((∃ e ∈ (look s.cues.speech (s.store.station i).corner).queue, e.station = i) → (look x.cues.stations i).result = .dropped) ∧
      ((∀ e ∈ (look s.cues.speech (s.store.station i).corner).queue, e.station ≠ i) →
        (look x.cues.stations i).result = (look s.cues.stations i).result)) := by
  have hi := State.mem_actives.2 ha
  rw [h.after.cue i ha]
  exact ⟨h.cleared.cues.cut i hi, fun hp => ⟨h.cleared.cues.dropped i hi hp, h.cleared.cues.kept i hi hp⟩⟩

/-- The speech of a corner all of whose entries leave. -/
theorem ResetRuns.corner (h : ResetRuns s w x) {k : Corner}
    (hq : ∀ e ∈ (look s.cues.speech k).queue, (s.store.station e.station).corner = k ∧ s.linkState e.station = .active) :
    (look x.cues.speech k).queue = [] ∧
      ((look s.cues.speech k).channel = .idle → (look x.cues.speech k).channel = .idle) ∧
      (∀ n, (look s.cues.speech k).channel = .gap n → (look x.cues.speech k).channel = .gap n) ∧
      ∀ e since n, (look s.cues.speech k).channel = .playing e since n → (s.store.station e.station).corner = k →
        s.linkState e.station = .active →
        (look x.cues.speech k).channel = if (s.store.corner k).gap = 0 then .idle else .gap (s.store.corner k).gap := by
  have hq' (e : SpeechEntry) (he : e ∈ (look s.cues.speech k).queue) : LeavesAt s.store s.actives k e := leavesAt_iff.2 (hq e he)
  have hempty := h.cleared.emptied hq'
  have stands (hp : ∀ e since n, (look s.cues.speech k).channel ≠ .playing e since n) :
      (look w.cues.speech k).channel = (look s.cues.speech k).channel := by
    rw [h.cleared.cues.emptied k hq' fun e since n hc => absurd hc (hp e since n)]
  rw [h.after.corner k hempty]
  refine ⟨hempty, fun hc => ?_, fun n hc => ?_, fun e since n hc hk ha => ?_⟩
  · rw [stands (by rw [hc]; exact fun _ _ _ => nofun), hc]
  · rw [stands (by rw [hc]; exact fun _ _ _ => nofun), hc]
  · rw [h.cleared.cues.stopped k hq' e since n hc (leavesAt_iff.2 ⟨hk, ha⟩)]

/-- What each station is before the new frame. -/
theorem ResetRuns.before (h : ResetRuns s w x) (i : Station) :
    look w.bus.stations i = (look s.bus.stations i).restarted (s.store.station i).enabled s.bus.frameLength i ∧
      PressAbandoned (look s.press i) (look w.press i) ∧ look w.table.targets i = .none ∧
      (s.linkState i = .active →
        look w.levels i = { look s.levels i with output := none, windowOpen := false } ∧
        look w.cues.stations i = { sound := .none, armed := false, covering := false, tactile := false, indicator := .off
                                   result := (look x.cues.stations i).result }) ∧
      (s.linkState i ≠ .active → look w.levels i = look s.levels i ∧ look w.cues.stations i = look s.cues.stations i) := by
  obtain ⟨h1, h2, h3, h4⟩ := h.cleared.station i
  refine ⟨h4, by rw [h1]; exact (look s.press i).abandon_abandoned, h2, fun ha => ⟨?_, ?_⟩, fun hn => ⟨?_, ?_⟩⟩
  · rw [h3, ha, LevelState.restarted_active]
  · rw [← h.after.cue i ha]
    exact h.cue ha
  · rw [h3, LevelState.restarted_other hn]
  · exact h.cleared.cues.others i fun hi => hn (State.mem_actives.1 hi)

/-- The speech before the new frame, where every entry and every playback is one of a station that leaves its own corner. -/
theorem ResetRuns.speech (h : ResetRuns s w x)
    (hq : ∀ k, ∀ e ∈ (look s.cues.speech k).queue, (s.store.station e.station).corner = k ∧ s.linkState e.station = .active)
    (hp : ∀ k e since n, (look s.cues.speech k).channel = .playing e since n →
      (s.store.station e.station).corner = k ∧ s.linkState e.station = .active) :
    w.cues.nextSerial = s.cues.nextSerial ∧
      ∀ (k : Corner) (y : CornerSpeech), y = look s.cues.speech k →
        ((∀ e since n, y.channel ≠ .playing e since n) → look w.cues.speech k = { y with queue := [] }) ∧
        ∀ e since n, y.channel = .playing e since n → look w.cues.speech k = {
          channel := if (s.store.corner k).gap = 0 then .idle else .gap (s.store.corner k).gap, queue := []
          limitLapsed := y.limitLapsed || decide (20000 ≤ since) } := by
  have hq' (k : Corner) (e : SpeechEntry) (he : e ∈ (look s.cues.speech k).queue) := leavesAt_iff.2 (hq k e he)
  refine ⟨h.cleared.cues.serial hq', fun k y hy => ?_⟩
  subst hy
  exact ⟨fun hn => h.cleared.cues.emptied k (hq' k) fun e since n hc => absurd hc (hn e since n),
    fun e since n hc => h.cleared.cues.stopped k (hq' k) e since n hc (leavesAt_iff.2 (hp k e since n hc))⟩

/-- What each station is after the section reset. -/
theorem ResetRuns.station (h : ResetRuns s w x) (i : Station) :
    (look x.bus.stations i).state = (if (x.store.station i).enabled then .absent else .disabled) ∧
      ((look x.bus.stations i).beyond = true ↔ (x.store.station i).enabled = true ∧ x.bus.frameLength ≤ i.val) ∧
      (look x.bus.stations i).misses = 0 ∧ (look x.bus.stations i).silentNotice = (look s.bus.stations i).silentNotice ∧
      (look x.bus.stations i).joinedNotice = (look s.bus.stations i).joinedNotice ∧
      PressAbandoned (look s.press i) (look x.press i) ∧ look x.table.targets i = .none ∧
      (look x.levels i).ambient = (look s.levels i).ambient ∧
      (s.linkState i = .active →
        (look x.cues.stations i).sound = .none ∧ (look x.cues.stations i).armed = false ∧
        (look x.cues.stations i).covering = false ∧ (look x.cues.stations i).tactile = false ∧
        (look x.cues.stations i).indicator = .off ∧ (look x.levels i).output = none ∧ (look x.levels i).windowOpen = false) := by
  have hlink := h.after.link i
  refine ⟨by rw [hlink]; rfl, ?_, by rw [hlink]; rfl, by rw [hlink]; rfl, by rw [hlink]; rfl, ?_, h.after.target i, h.after.ambient i,
    fun ha => ?_⟩
  · rw [hlink]
    simp [StationLink.restarted]
  · rw [h.after.press i]
    exact (look s.press i).abandon_abandoned
  · obtain ⟨hout, hwin⟩ := h.after.level i ha
    rw [h.cue ha]
    exact ⟨rfl, rfl, rfl, rfl, rfl, hout, hwin⟩

/-- What each station is after a section reset at which none transfers. -/
theorem ResetRuns.untransferred (h : ResetRuns s w x) (hp : ∀ i, (look s.store.stations i).pending = none) :
    x.store = { s.store with nextFrameLength := none } ∧ x.table = { s.table with targets := x.table.targets } ∧
      ∀ i : Station,
        look x.bus.stations i = (look s.bus.stations i).restarted (s.store.station i).enabled x.bus.frameLength i ∧
        (s.linkState i = .active →
          look x.levels i = { look s.levels i with output := none, windowOpen := false } ∧
          look x.cues.stations i = { sound := .none, armed := false, covering := false, tactile := false, indicator := .off
                                     result := (look x.cues.stations i).result }) ∧
        (s.linkState i ≠ .active → look x.levels i = look s.levels i ∧ look x.cues.stations i = look s.cues.stations i) := by
  obtain ⟨hstore, htable, hlevels, hcues⟩ := h.kept hp
  refine ⟨hstore, ?_, fun i => ?_⟩
  · rw [htable, h.cleared.frame]
  · have hstation : x.store.station i = s.store.station i := by
      rw [hstore]
      rfl
    obtain ⟨-, -, -, hactive, hother⟩ := h.before i
    have hlink := h.after.link i
    rw [hstation] at hlink
    rw [hlevels]
    refine ⟨hlink, fun ha => ⟨(hactive ha).1, h.cue ha⟩, fun hn => ?_⟩
    rw [hcues]
    exact hother hn

end Runs

/-- Settles O41: the stations leave together, then each is dealt with in turn, then frame 0 starts over stations none of which is
ACTIVE. -/
theorem sectionReset : Obligations.SectionReset := by
  unfold Obligations.SectionReset
  intro s
  obtain ⟨w, x, h⟩ := s.sectionReset_runs
  obtain ⟨hl, hhead, hsum, hmark⟩ := slotZero_eq 0 fun k => (look s.cues.corners k).mark
  obtain ⟨hcorners, hgates, hlength⟩ : x.cues.corners = s.cues.corners ∧ x.cues.gates = s.cues.gates ∧
      x.bus.frameLength = s.store.nextFrameLength.getD s.bus.frameLength := by
    rw [h.frame]
    exact ⟨rfl, rfl, rfl⟩
  refine ⟨_, h.exec, ?_⟩
  dsimp only [State.frameZero, State.answer, State.respond]
  refine ⟨?_, rfl, rfl, rfl, rfl, hlength, fun k => ?_, hgates, hl, hhead, hsum, hmark, ⟨w, _, h.starts, rfl, h.cleared.frame, h.before,
    h.speech⟩, h.station, fun k => h.corner, fun i => h.result, h.untransferred⟩
  · rw [h.frame]
  · rw [look_mapAll, hcorners]

end Sys2Proof.Machine
